-- ==== Sys2Proof/Word.lean ====
section
/-! DEFINITION. The words of the bus: every word of buffer memory is 16 bits (12_layouts_and_signals.md) and an upstream
address is 19 bits (R178). -/

namespace Sys2Proof

/-- A word of buffer memory, bit 15 the most significant. -/
abbrev Word := BitVec 16

/-- A word address on the upstream bus: 0x00000 to 0x7FFFF (00_scope.md, R178). -/
abbrev BusAddr := BitVec 19

/-- The word that holds the number `n`, reduced modulo 65536. -/
abbrev word (n : Nat) : Word := BitVec.ofNat 16 n

end Sys2Proof
end

