-- ==== Sys2Proof/Config.lean ====
section
/-! DEFINITION. What this one part fixes: sizes, limits, reset pages, defaults and the identity word, each with the rule
that gives it. The spec leaves no result of a command open, so there is no free value here; what an unwritten word of
the external SRAM reads as is the one choice of this file (assumption 1). -/

namespace Sys2Proof.Config

/-- The number of words of buffer memory (00_scope.md). -/
def memoryWords : Nat := 0x80000

/-- What a word of buffer memory reads as before anything has written it.
DESIGN CHOICE, unsafe (assumption 1): the spec does not say what the external SRAM holds at power-on. -/
def unwrittenWord : Word := 0

/-- The first word of the control area (R145). -/
def controlBase : Nat := 0x7F000

/-- The number of words of the control area (R173). -/
def controlWords : Nat := 4096

/-- The greatest frame address (00_scope.md, Conventions). -/
def maxFrame : Nat := 1048575

/-- The pairs of a frame (01_tape_frame_format_and_block_coding.md). -/
def pairsPerFrame : Nat := 768

/-- The words of one half of the record window or of the playback window (R21, R80). -/
def halfWords : Nat := 1536

/-- The words of the record window and of the playback window (R145). -/
def windowWords : Nat := 3072

/-- The words of the record image and of the off-tape image (R2). -/
def imageWords : Nat := 7392

/-- The words of one slot: 14 blocks of 132 (R2). -/
def slotWords : Nat := 1848

/-- The words of one block (R2). -/
def blockWords : Nat := 132

/-- Every counter holds at this value (R172). -/
def counterMax : Nat := 65535

/-- The wait count at which the starvation guard acts (R154). -/
def guardCount : Nat := 16

/-- The reset pages of the window table: record window, playback window, record image, off-tape image (R149). -/
def resetPages : Vector Word 4 := #v[0x70, 0x71, 0x72, 0x74]

/-- The default mask words, in group order (R167, R177). -/
def resetMasks : Vector Word 6 := #v[0x007F, 0x00FF, 0x000F, 0x0005, 0x0006, 0x0003]

/-- The identity word: part code 0x612, revision 1 (R177). -/
def identityWord : Word := 0x6121

/-- What every word of an absent optional field is written as (R175). -/
def absentWord : Word := 0xFFFF

end Sys2Proof.Config
end

