-- ==== Sys2Proof/Syntax.lean ====
section
/-! DEFINITION. The commands of the block: one constructor per row of spec/opcode_table.json.

The rows give no bits and no fields, so the operands are read from the rules each row names (assumption 2):
* an upstream transaction of a window or an image carries its whole 19-bit word address, and the bus path classifies it
  by that address and its direction (R145);
* an upstream transaction of a fixed control-area record carries the word's index in that record (R175);
* a ring command carries the operand fields and arguments of R159 and R176, as the command unit decodes them;
* an event of the part's own engines carries nothing. -/

namespace Sys2Proof

/-- One command: a row of spec/opcode_table.json with its operands. -/
inductive Instr where
  /-- RESET_ASSERTED (R156). -/
  | resetAsserted
  /-- RESET_RELEASED (R156). -/
  | resetReleased
  /-- INIT_END (R156, R173). -/
  | initEnd
  /-- RECORD_WINDOW_WRITE (R21): the upstream write of `v` at word address `a`. -/
  | recordWindowWrite (a : BusAddr) (v : Word)
  /-- RECORD_WINDOW_READ (R37): the upstream read at word address `a`. -/
  | recordWindowRead (a : BusAddr)
  /-- PLAYBACK_WINDOW_READ (R80): the upstream read at word address `a`. -/
  | playbackWindowRead (a : BusAddr)
  /-- PLAYBACK_WINDOW_WRITE (R148): the upstream write of `v` at word address `a`. -/
  | playbackWindowWrite (a : BusAddr) (v : Word)
  /-- RECORD_IMAGE_READ (R34): the upstream read at word address `a`. -/
  | recordImageRead (a : BusAddr)
  /-- RECORD_IMAGE_WRITE (R148): the upstream write of `v` at word address `a`. -/
  | recordImageWrite (a : BusAddr) (v : Word)
  /-- OFF_TAPE_IMAGE_WRITE (R42): the upstream write of `v` at word address `a`. -/
  | offTapeImageWrite (a : BusAddr) (v : Word)
  /-- WINDOW_TABLE_WRITE (R149): the upstream write of `v` into window table word `k`. -/
  | windowTableWrite (k : Fin 4) (v : Word)
  /-- SETTINGS_WRITE (R164): the upstream write of `v` into settings field `k`. -/
  | settingsWrite (k : Fin 7) (v : Word)
  /-- MASK_WORD_WRITE (R167): the upstream write of `v` into the mask word of group `k`. -/
  | maskWordWrite (k : Fin 6) (v : Word)
  /-- POLICY_RECORD_WRITE (R139): the upstream write of `v` into word `k` of the policy record. -/
  | policyRecordWrite (k : Fin 21) (v : Word)
  /-- INPUT_STATUS_WRITE (R131): the upstream write of `v` into the input status word. -/
  | inputStatusWrite (v : Word)
  /-- PRODUCER_INDEX_WRITE (R158): the upstream write of `v` into the producer index word. -/
  | producerIndexWrite (v : Word)
  /-- CAUSE_WORD_READ (R169): the upstream read of the cause word of group `k`. -/
  | causeWordRead (k : Fin 6)
  /-- CONTROL_AREA_WRITE (R147): the upstream write of `v` at offset `off` of the control area. -/
  | controlAreaWrite (off : BitVec 12) (v : Word)
  /-- NOP (R161). -/
  | nop
  /-- RECORD_START (R17, R18): the mode field and the two parts of frame address A. -/
  | recordStart (mode : BitVec 2) (hi lo : Word)
  /-- RECORD_STOP (R35). -/
  | recordStop
  /-- PLAY_START (R39). -/
  | playStart
  /-- PLAY_STOP (R40). -/
  | playStop
  /-- MONITOR_SELECT (R86): the source and override arguments. -/
  | monitorSelect (source override : Word)
  /-- EDIT_LOAD (R97): handle and kind fields, the location's frame address in two parts, and its pair. -/
  | editLoad (handle : BitVec 4) (kind : BitVec 2) (hi : BitVec 5) (lo pair : Word)
  /-- EDIT_PARAM (R99): condition, trigger channel, fade exponent and shape fields, threshold and search span. -/
  | editParam (cond : BitVec 2) (chan : BitVec 1) (expo : BitVec 4) (shape : BitVec 2) (threshold span : Word)
  /-- EDIT_CANCEL (R101): the handle field. -/
  | editCancel (handle : BitVec 4)
  /-- EDIT_ARM (R102). -/
  | editArm
  /-- EDIT_DISARM (R103). -/
  | editDisarm
  /-- LOCATE (R111): the two parts of the target frame address. -/
  | locate (hi lo : Word)
  /-- LOCATE_CANCEL (R113). -/
  | locateCancel
  /-- POLICY_SEAL (R141). -/
  | policySeal
  /-- CLEAR_COUNTERS (R162): CLEAR with target COUNTERS. -/
  | clearCounters
  /-- CLEAR_STICKY (R162): CLEAR with target STICKY. -/
  | clearSticky
  /-- SOFT_RESET_RECORD (R38): SOFT_RESET with scope RECORD. -/
  | softResetRecord
  /-- SOFT_RESET_PLAYBACK (R59): SOFT_RESET with scope PLAYBACK. -/
  | softResetPlayback
  /-- SOFT_RESET_EDIT (R116): SOFT_RESET with scope EDIT. -/
  | softResetEdit
  /-- SOFT_RESET_COUNTERS (R163): SOFT_RESET with scope COUNTERS. -/
  | softResetCounters
  /-- UNKNOWN_COMMAND (R159): a command word that no other row names. Besides a code past 15 it carries the CLEAR and
  SOFT_RESET words whose target or scope is none of the named ones, which R162 and R163 refuse (assumption 7). -/
  | unknownCommand (w : Word)
  /-- COMMAND_COMPLETION (R160). -/
  | commandCompletion
  /-- ENGINE_PORT_GRANT (R153). -/
  | enginePortGrant
  /-- CLOSE_END (R33). -/
  | closeEnd
  /-- EVALUATION_TAKE (R48, R49). -/
  | evaluationTake
  /-- EVALUATION_END (R51). -/
  | evaluationEnd
  /-- REPORT_PASS_BEGIN (R168). -/
  | reportPassBegin
  /-- REPORT_PASS_END (R168, R170). -/
  | reportPassEnd
  deriving DecidableEq, Repr

end Sys2Proof
end

