-- ==== Sys2Proof/Machine/State.lean ====
section
/-! DEFINITION. The state of the IG612 as plain data, block by block, and its value after the RESET input.
Each structure's docstring names the rule that gives the state; a field that is the model's own says so. -/

namespace Sys2Proof.Machine

/-! ### Named values, each in the order its chapter first lists it (R175) -/

/-- Copy statuses, least restrictive first (R1). -/
inductive CopyStatus where
  | free | once | none
  deriving DecidableEq, Repr

/-- The record job's states (R16). -/
inductive JobState where
  | idle | recording | stopping
  deriving DecidableEq, Repr

/-- The record mode (R16). -/
inductive RecMode where
  | assemble | insert
  deriving DecidableEq, Repr

/-- The states of a record slot (R19); OPEN is written `opened`. -/
inductive RecSlotState where
  | free | opened | closing | ready
  deriving DecidableEq, Repr

/-- The playback run state (R39). -/
inductive RunState where
  | stopped | running
  deriving DecidableEq, Repr

/-- The states of an off-tape slot (R41). -/
inductive TapeSlotState where
  | free | filling | evaluating | complete
  deriving DecidableEq, Repr

/-- The status of an off-tape block (R46). -/
inductive BlockStatus where
  | empty | filling | good | bad | missing
  deriving DecidableEq, Repr

/-- The correctability of a parity group (R41). -/
inductive Corr where
  | clean | correctable | uncorrectable
  deriving DecidableEq, Repr

/-- The lock states (R52). -/
inductive LockState where
  | search | acquire | locked | flywheel
  deriving DecidableEq, Repr

/-- The modes of a concealment context (R66). -/
inductive CtxMode where
  | normal | holding | muting | recovering
  deriving DecidableEq, Repr

/-- The selected monitor source (R79). -/
inductive Source where
  | auto | tape | input | pattern | mute
  deriving DecidableEq, Repr

/-- The effective monitor source (R79). -/
inductive Effective where
  | decoded | input | pattern | mute
  deriving DecidableEq, Repr

/-- The kind of a punch (R94). -/
inductive PunchKind where
  | punchIn | punchOut
  deriving DecidableEq, Repr

/-- The condition of an edit entry (R94). -/
inductive Condition where
  | always | zeroCross | below
  deriving DecidableEq, Repr

/-- The shape of a crossfade (R94). -/
inductive Shape where
  | linear | power
  deriving DecidableEq, Repr

/-- The state of an edit entry in the list (R94). -/
inductive EntryState where
  | pending | armed | seeking
  deriving DecidableEq, Repr

/-- The state of a handle's outcome record (R95). -/
inductive OutcomeState where
  | unused | pending | armed | seeking | fired | missed | cancelled
  deriving DecidableEq, Repr

/-- The arm state of the edit list (R93). -/
inductive ArmState where
  | disarmed | armed
  deriving DecidableEq, Repr

/-- The owner of the trigger comparator (R93). -/
inductive Owner where
  | idle | waitL1 | waitL2 | locateWait
  deriving DecidableEq, Repr

/-- The punch state (R93). -/
inductive Punch where
  | inside | outside
  deriving DecidableEq, Repr

/-- The operating state of the bus path (R156). -/
inductive OpState where
  | reset | init | running
  deriving DecidableEq, Repr

/-- How the bus path served the last upstream transaction (R146); `none` before the first. The model's own field value. -/
inductive Treatment where
  | none | passed | translated | answered | dropped | absorbed | held
  deriving DecidableEq, Repr

/-- Why an upstream transaction is held (R152). -/
inductive HoldKind where
  /-- During RESET or INIT (R156). -/
  | init
  /-- By the starvation guard (R154). -/
  | guard
  /-- A record-window write into a half whose slot is CLOSING (R28). -/
  | closing
  /-- An old-audio fetch while a slot is EVALUATING (R25, R48). -/
  | decodeWrite
  /-- A playback-window read's decode request while a slot is EVALUATING (R48). -/
  | decodeRead
  /-- A playback-window turnover that waits for an evaluation (R82). -/
  | turnover
  /-- A decode request that PLAY_STOP or SOFT_RESET PLAYBACK has released, to be concealed (R76). -/
  | conceal
  deriving DecidableEq, Repr

/-- The command kinds of R157: the sixteen commands, and UNKNOWN. -/
inductive CmdKind where
  | nop | recordStart | recordStop | playStart | playStop | monitorSelect | editLoad | editParam | editCancel | editArm
  | editDisarm | locate | locateCancel | policySeal | clear | softReset | unknown
  deriving DecidableEq, Repr

/-- The result codes of R161, in the order of their codes 1..9 (R176); CONFLICT is written `conflict`. -/
inductive Result where
  | done | illegal | sequence | range | state | conflict | prot | full | late
  deriving DecidableEq, Repr

/-- The seventeen counters in the order of R172's table, read by rows. -/
inductive Counter where
  | recordOverrun | recordUnderrun | framesRecorded
  | playOverrun | strayWrite | strayBlock | blocksBad | blocksMissing | framesLost | errorRate
  | wordsCorrected | wordsInterpolated | wordsHeld | wordsMuted
  | monitorUnderrun | saturation | refusedFrames
  deriving DecidableEq, Repr

/-- The causes of R166, group by group in the order of its table. -/
inductive Cause where
  | recordOverrun | underrun | idleWrite | rangeEnd | protectedFrame | recordImageWrite | rateMismatch
  | playOverrun | strayWrite | duplicate | lockGained | lockLost | errorRate | monitorUnderrun | playbackImageWrite
  | fired | forced | missed | located
  | refused | inputChanged | sealWrite
  | commandDone | commandError | ringOverflow
  | configInvalid | configBusy
  deriving DecidableEq, Repr

/-! ### Record path -/

/-- A pair of check sums S1, S2 (R12). -/
structure Sums where
  s1 : Nat
  s2 : Nat
  deriving DecidableEq, Repr

/-- A record slot (R19). The payload-written map has one 128-bit row per data block and the parity-touched map one per
parity block, bit p standing for payload position p. -/
structure RecSlot where
  state : RecSlotState
  frame : Nat
  rate : Nat
  written : Vector (BitVec 128) 12
  touched : Vector (BitVec 128) 2
  sums : Vector Sums 14
  oldOnly : Bool
  closePending : Bool
  deriving DecidableEq, Repr

/-- The binding of a record-window half (R21). -/
inductive Binding where
  | unbound
  | slot (k : Fin 4) (frame : Nat)
  | absorbed (frame : Nat)
  deriving DecidableEq, Repr

/-- The pair latch (R25) with the source status latched beside each channel (R128). -/
structure Latch where
  frame : Nat
  pair : Nat
  old : Vector Word 2
  source : Vector CopyStatus 2
  deriving DecidableEq, Repr

/-- The close engine's work on one slot (R32): the zero-fill offsets still to write, whether any payload-written entry was
clear when the close began, the copy status once stage 3 has decided it, and how many of the 56 header and check words
are written. The form is the model's own; the stages are R32's. -/
structure CloseJob where
  slot : Fin 4
  fill : List Nat
  underrun : Bool
  status : Option CopyStatus
  done : Nat
  deriving DecidableEq, Repr

/-- The record coder (R16, R19, R21, R25, R27, R128) with the close engine (R31) and the current record position (R88). -/
structure RecordCoder where
  job : JobState
  mode : RecMode
  r : Nat
  slots : Vector RecSlot 4
  ringPtr : Fin 4
  halves : Vector Binding 2
  curHalf : Option (Fin 2)
  latch : Option Latch
  sticky : Bool
  source : Vector CopyStatus 2
  recPos : Option Nat
  close : Option CloseJob
  deriving DecidableEq, Repr

/-! ### Off-tape assembler -/

/-- A block record (R46). `seen` counts 0..132, and 133 stands for "over". -/
structure BlockRec where
  status : BlockStatus
  sums : Sums
  seen : Nat
  headA : Word
  headB : Word
  w130 : Word
  deriving DecidableEq, Repr

/-- An off-tape slot: its state, its block records and its frame fields (R41). -/
structure TapeSlot where
  state : TapeSlotState
  blocks : Vector BlockRec 14
  frame : Nat
  rate : Nat
  status : CopyStatus
  good : Nat
  corrA : Corr
  corrB : Corr
  deriving DecidableEq, Repr

/-- The lock machine (R52). -/
structure Lock where
  state : LockState
  expected : Nat
  run : Nat
  mismatch : Nat
  flywheel : Nat
  deriving DecidableEq, Repr

/-- The evaluation engine's work on one slot (R48): whether R50 discards the frame, its damage count (R49), and how many
of the 21 slot-table words are written. The form is the model's own. -/
structure EvalJob where
  slot : Fin 4
  discard : Bool
  damage : Nat
  done : Nat
  deriving DecidableEq, Repr

/-- The off-tape assembler (R39, R41, R44, R48, R50, R52, R56, R57). `wait` is the overrun wait with its gap count;
`window` is the error-rate window, oldest first; `evalQueue` is the slots waiting for evaluation in order. -/
structure Assembler where
  run : RunState
  slots : Vector TapeSlot 4
  fillPtr : Fin 4
  wait : Option Nat
  sticky : Bool
  lock : Lock
  carriedRate : Nat
  carriedStatus : CopyStatus
  window : List Nat
  rateArmed : Bool
  evalQueue : List (Fin 4)
  eval : Option EvalJob
  deriving DecidableEq, Repr

/-! ### Decode service and monitor selector -/

/-- A concealment context (R66). -/
structure Ctx where
  last : Word
  mode : CtxMode
  hold : Nat
  step : Nat
  deriving DecidableEq, Repr

/-- The decode service: the MONITOR and MIX contexts, left then right (R66), and the rate-mismatch mark (R62). -/
structure DecodeService where
  mon : Vector Ctx 2
  mix : Vector Ctx 2
  rateMark : Option Nat
  deriving DecidableEq, Repr

/-- The monitor selector (R79). -/
structure Monitor where
  halves : Vector (Option (Fin 4)) 2
  lastHalf : Option (Fin 2)
  queue : List (Fin 4)
  selected : Source
  override : Bool
  effective : Effective
  echo : Vector Word 2
  pattern : BitVec 15
  deriving DecidableEq, Repr

/-! ### Edit engine -/

/-- An edit entry (R94). A location is the position value f×768 + n. -/
structure Entry where
  handle : Fin 8
  kind : PunchKind
  loc : Nat
  cond : Condition
  chan : Option (Fin 2)
  threshold : Option Nat
  span : Option Nat
  expo : Nat
  shape : Shape
  state : EntryState
  deriving DecidableEq, Repr

/-- A handle's outcome record (R95); a field its state does not carry is none. -/
structure OutcomeRec where
  state : OutcomeState
  kind : Option PunchKind
  loc : Option Nat
  fire : Option Nat
  forced : Option Bool
  deriving DecidableEq, Repr

/-- A punch transition (R93, R108): fire position, kind, fade length L, shape and prior punch state. -/
structure Transition where
  pos : Nat
  kind : PunchKind
  len : Nat
  shape : Shape
  prior : Punch
  deriving DecidableEq, Repr

/-- The edit engine (R93). Positions are position values f×768 + n. -/
structure EditEngine where
  list : List Entry
  outcomes : Vector OutcomeRec 8
  arm : ArmState
  owner : Owner
  entry : Option (Fin 8)
  deadline : Option Nat
  prevTrig : Option Word
  target : Option Nat
  param : Option (Fin 8)
  rearm : Option Nat
  returnTest : Bool
  punch : Punch
  trans : Option Transition
  deriving DecidableEq, Repr

/-! ### Copy control -/

/-- The input status shadow (R131): format 0 PROFESSIONAL, 1 CONSUMER, 2 ANALOG, 3 invalid; `isCopy` is the generation. -/
structure InputStatus where
  format : BitVec 2
  permitted : Bool
  isCopy : Bool
  category : Bool
  deriving DecidableEq, Repr

/-- A protected range of the policy shadow (R140): its three fields as captured, and whether it is enabled. -/
structure Range where
  start : Nat
  stop : Nat
  enable : Bool
  active : Bool
  deriving DecidableEq, Repr

/-- The contribution record of a record slot (R129, R134, R135). -/
structure Contribution where
  refused : Bool
  gotNew : Bool
  gotOld : Bool
  newStatus : CopyStatus
  oldStatus : CopyStatus
  deriving DecidableEq, Repr

/-- Copy control (R130). -/
structure CopyControl where
  input : InputStatus
  derived : CopyStatus
  recording : CopyStatus
  analog : CopyStatus
  ranges : Vector Range 4
  sealed : Bool
  output : CopyStatus
  contrib : Vector Contribution 4
  deriving DecidableEq, Repr

/-! ### Settings, bus path, command unit and report unit -/

/-- The settings in force (R164). -/
structure Settings where
  rate : Nat
  hold : Nat
  flywheel : Nat
  quorum : Nat
  window : Nat
  thresh : Nat
  atten : Nat
  deriving DecidableEq, Repr

/-- An upstream transaction: its direction, word address and, for a write, its data (R145). -/
structure Txn where
  write : Bool
  addr : BusAddr
  data : Word
  deriving DecidableEq, Repr

/-- A held upstream transaction and why it is held (R152). -/
structure Held where
  txn : Txn
  kind : HoldKind
  deriving DecidableEq, Repr

/-- The wait counts of the three engines (R154). -/
structure WaitCounts where
  close : Nat
  eval : Nat
  report : Nat
  deriving DecidableEq, Repr

/-- The bus path: operating state (R156), held transaction (R152), window table shadow and validity flag (R149), wait
counts (R154). The model's own: `waiting`, the transactions the deck's arbiter keeps back behind a held one (R28, R152,
assumption 5); `data`, the last word a read returned; `treatment` and `accesses`, how the last transaction was served and
the accesses of its own that it made (R146, R155). -/
structure BusPath where
  op : OpState
  held : Option Held
  waiting : List Txn
  table : Vector Word 4
  valid : Bool
  counts : WaitCounts
  data : Word
  treatment : Treatment
  accesses : Nat
  deriving DecidableEq, Repr

/-- Where the command unit stands in the taking of an entry (R159, R160, R168). The busy flag of R157 is set in every
phase but `idle`. -/
inductive CmdPhase where
  /-- No command is between its taking and its completion. -/
  | idle
  /-- The words of the entry at the consumer index read so far. -/
  | reading (words : List Word)
  /-- The entry is read and decoded; it waits for its taking (step 4). -/
  | fetched (c : Instr)
  /-- Taken; its records wait for the next report pass to begin. -/
  | waitPass (k : CmdKind) (r : Result)
  /-- Taken; the report pass that carries its records is running. -/
  | inPass (k : CmdKind) (r : Result)
  /-- The result word write is due. -/
  | due (k : CmdKind) (r : Result)
  /-- The result word is written; the consumer index write is due. -/
  | written (k : CmdKind) (r : Result)
  deriving DecidableEq, Repr

/-- The command unit (R157). -/
structure CommandUnit where
  consumer : BitVec 8
  producer : BitVec 8
  prev : Option CmdKind
  phase : CmdPhase
  deriving DecidableEq, Repr

/-- Which status records are marked changed (R168, R171). -/
structure Marks where
  record : Bool
  playback : Bool
  edit : Bool
  copy : Bool
  counters : Bool
  deriving DecidableEq, Repr

/-- One write of a report pass (R168). Offsets are of the control area. -/
inductive RepWrite where
  /-- A word that carries its value at the beginning of the pass. -/
  | word (off : Nat) (v : Word)
  /-- The `k`-th evaluation word of playback slot-table entry `n`, written with its value at the moment (R171). -/
  | evalWord (n : Fin 4) (k : Nat)
  /-- The write-back of settings field `k`, written with the value in force at the moment (R164). -/
  | setting (k : Fin 7)
  /-- The cause word of group `g`, with the RAISED causes the pass took (R168). -/
  | cause (g : Fin 6) (taken : Word)
  /-- The summary word (R168, R170). -/
  | summary
  deriving DecidableEq, Repr

/-- The report unit: the causes RAISED and POSTED by group (R166), the mask shadow (R167), the marked records (R168), the
cause words marked for rewriting (R169), the write-backs due (R141, R164), the summary value last written (R168), whether
ALERT is driven low (R170), and the writes the running pass still has to make. -/
structure ReportUnit where
  raised : Vector Word 6
  posted : Vector Word 6
  masks : Vector Word 6
  marks : Marks
  causeMarks : Vector Bool 6
  backSettings : Vector Bool 7
  backPolicy : Bool
  lastSummary : Word
  alert : Bool
  pass : Option (List RepWrite)
  deriving DecidableEq, Repr

/-- Buffer memory: the words that differ from what an unwritten word reads as, by strictly rising address. -/
abbrev Memory := List (Nat × Word)

/-- The whole machine. `pending` is the queue of commands that wait, first in, first out. -/
structure State where
  bus : BusPath
  coder : RecordCoder
  tape : Assembler
  dec : DecodeService
  mon : Monitor
  edit : EditEngine
  copy : CopyControl
  settings : Settings
  counters : Vector Nat 17
  cmd : CommandUnit
  rep : ReportUnit
  mem : Memory
  pending : List Instr
  deriving DecidableEq, Repr

/-- Reasons the machine stops with a fault. There are none: the spec gives every command an effect in every state, and
no command of it stops the part. -/
inductive Fault where
  deriving DecidableEq, Repr

/-- Reasons a command is refused as unmodelled. -/
inductive Refusal where
  /-- Raised by an arm of exec for a command that has no meaning yet; safe. No arm raises it now. -/
  | notModelled (mnemonic : String)
  deriving DecidableEq, Repr

/-! ### The value after the RESET input -/

/-- A record slot after the RESET input (R19). -/
def RecSlot.reset : RecSlot :=
  { state := .free, frame := 0, rate := 0, written := Vector.replicate 12 0, touched := Vector.replicate 2 0,
    sums := Vector.replicate 14 { s1 := 0, s2 := 0 }, oldOnly := false, closePending := false }

/-- The record coder after the RESET input (R16, R19, R21, R38, R128). -/
def RecordCoder.reset : RecordCoder :=
  { job := .idle, mode := .assemble, r := 0, slots := Vector.replicate 4 RecSlot.reset, ringPtr := 0,
    halves := Vector.replicate 2 .unbound, curHalf := none, latch := none, sticky := false,
    source := Vector.replicate 2 .free, recPos := none, close := none }

/-- A block record at its reset value (R46). -/
def BlockRec.reset : BlockRec :=
  { status := .empty, sums := { s1 := 0, s2 := 0 }, seen := 0, headA := 0, headB := 0, w130 := 0 }

/-- An off-tape slot after the RESET input (R41). -/
def TapeSlot.reset : TapeSlot :=
  { state := .free, blocks := Vector.replicate 14 BlockRec.reset, frame := 0, rate := 0, status := .free, good := 0,
    corrA := .uncorrectable, corrB := .uncorrectable }

/-- The lock machine at its reset value (R52). -/
def Lock.reset : Lock := { state := .search, expected := 0, run := 0, mismatch := 0, flywheel := 0 }

/-- The off-tape assembler after the RESET input (R39, R41, R50, R52, R56, R57, R59). -/
def Assembler.reset : Assembler :=
  { run := .stopped, slots := Vector.replicate 4 TapeSlot.reset, fillPtr := 0, wait := none, sticky := false,
    lock := Lock.reset, carriedRate := 0, carriedStatus := .free, window := [], rateArmed := true, evalQueue := [],
    eval := none }

/-- A concealment context at its reset value (R66). -/
def Ctx.reset : Ctx := { last := 0, mode := .normal, hold := 0, step := 0 }

/-- The decode service after the RESET input (R62, R66). -/
def DecodeService.reset : DecodeService :=
  { mon := Vector.replicate 2 Ctx.reset, mix := Vector.replicate 2 Ctx.reset, rateMark := none }

/-- The monitor selector after the RESET input (R79). -/
def Monitor.reset : Monitor :=
  { halves := Vector.replicate 2 none, lastHalf := none, queue := [], selected := .auto, override := false,
    effective := .mute, echo := Vector.replicate 2 0, pattern := 1 }

/-- An outcome record that no load has written since the RESET input (R95). -/
def OutcomeRec.reset : OutcomeRec := { state := .unused, kind := none, loc := none, fire := none, forced := none }

/-- The edit engine after the RESET input (R93). -/
def EditEngine.reset : EditEngine :=
  { list := [], outcomes := Vector.replicate 8 OutcomeRec.reset, arm := .disarmed, owner := .idle, entry := none,
    deadline := none, prevTrig := none, target := none, param := none, rearm := none, returnTest := false,
    punch := .outside, trans := none }

/-- A contribution record as the RESET input and a frame open clear it (R20, R129, R135). -/
def Contribution.reset : Contribution :=
  { refused := false, gotNew := false, gotOld := false, newStatus := .free, oldStatus := .free }

/-- Copy control after the RESET input (R130). -/
def CopyControl.reset : CopyControl :=
  { input := { format := 2, permitted := false, isCopy := false, category := false }, derived := .free,
    recording := .free, analog := .free,
    ranges := Vector.replicate 4 { start := 0, stop := 0, enable := false, active := false }, sealed := false,
    output := .free, contrib := Vector.replicate 4 Contribution.reset }

/-- The settings after the RESET input (R164). -/
def Settings.reset : Settings :=
  { rate := 0, hold := 8, flywheel := 4, quorum := 7, window := 16, thresh := 24, atten := 4 }

/-- No record is marked changed. -/
def Marks.clear : Marks := { record := false, playback := false, edit := false, copy := false, counters := false }

/-- The report unit after the RESET input (R166 to R170). -/
def ReportUnit.reset : ReportUnit :=
  { raised := Vector.replicate 6 0, posted := Vector.replicate 6 0, masks := Config.resetMasks, marks := Marks.clear,
    causeMarks := Vector.replicate 6 false, backSettings := Vector.replicate 7 false, backPolicy := false,
    lastSummary := 0, alert := false, pass := none }

/-- The bus path with the RESET input asserted (R149, R154, R156). The data, treatment and accesses fields are the
model's own, DESIGN CHOICE (assumption 10). -/
def BusPath.reset : BusPath :=
  { op := .reset, held := none, waiting := [], table := Config.resetPages, valid := true,
    counts := { close := 0, eval := 0, report := 0 }, data := 0, treatment := .none, accesses := 0 }

/-- The command unit after the RESET input (R157). -/
def CommandUnit.reset : CommandUnit := { consumer := 0, producer := 0, prev := none, phase := .idle }

/-- The machine with the RESET input asserted and nothing written to memory (R156). INIT, which writes the control area,
runs when the input is released. -/
def State.reset : State :=
  { bus := BusPath.reset, coder := RecordCoder.reset, tape := Assembler.reset, dec := DecodeService.reset,
    mon := Monitor.reset, edit := EditEngine.reset, copy := CopyControl.reset, settings := Settings.reset,
    counters := Vector.replicate 17 0, cmd := CommandUnit.reset, rep := ReportUnit.reset, mem := [], pending := [] }

end Sys2Proof.Machine
end

