-- ==== Sys2Proof/Machine/Memory.lean ====
section
/-! DEFINITION. Buffer memory: one word per address, held as the words that differ from what an unwritten word reads as,
by strictly rising address (assumption 1). -/

namespace Sys2Proof.Machine

/-- The word at address `a`. -/
def Memory.read : Memory → Nat → Word
  | [], _ => Config.unwrittenWord
  | (k, w) :: rest, a => if k = a then w else Memory.read rest a

/-- An entry for `a` in front of `rest`, or no entry where `v` is what an unwritten word reads as. -/
def Memory.put (a : Nat) (v : Word) (rest : Memory) : Memory :=
  if v = Config.unwrittenWord then rest else (a, v) :: rest

/-- Memory with the word at `a` written `v`. -/
def Memory.write : Memory → Nat → Word → Memory
  | [], a, v => Memory.put a v []
  | (k, w) :: rest, a, v =>
    if a < k then Memory.put a v ((k, w) :: rest)
    else if a = k then Memory.put a v rest
    else (k, w) :: Memory.write rest a v

/-- Memory with each of the listed words written, first to last. -/
def Memory.writeAll (m : Memory) (ws : List (Nat × Word)) : Memory := ws.foldl (fun m w => Memory.write m w.1 w.2) m

/-- Every address of `m` is above `a`, or `a` is none. -/
def Memory.above (a : Option Nat) : Memory → Bool
  | [] => true
  | (k, _) :: _ => match a with
    | none => true
    | some b => b < k

/-- The canonical form: addresses of buffer memory, strictly rising, and no entry equal to an unwritten word. -/
def Memory.wf : Memory → Bool
  | [] => true
  | (k, w) :: rest =>
    decide (k < Config.memoryWords) && decide (w ≠ Config.unwrittenWord) && Memory.above (some k) rest && Memory.wf rest

end Sys2Proof.Machine
end

