-- ==== Sys2Proof/Machine/Vec.lean ====
section
/-! DEFINITION. Fixed families by index: set one, change one, map by index. They reduce in the kernel. -/

namespace Sys2Proof.Machine

/-- `v` with its `i`-th member set to `x`. -/
def vset {α : Type} {n : Nat} (v : Vector α n) (i : Fin n) (x : α) : Vector α n := v.set i.val x i.isLt

/-- `v` with its `i`-th member changed by `f`. -/
def vmod {α : Type} {n : Nat} (v : Vector α n) (i : Fin n) (f : α → α) : Vector α n := vset v i (f v[i])

/-- `v` with every member changed by `f`, which sees the member's index. -/
def vimap {α β : Type} {n : Nat} (f : Fin n → α → β) (v : Vector α n) : Vector β n := Vector.ofFn fun i => f i v[i]

/-- The member of `v` at index `i`, or `d` where `v` has none. -/
def vget {α : Type} {n : Nat} (v : Vector α n) (i : Nat) (d : α) : α := v[i]?.getD d

/-- `v` with its member at index `i`, if it has one, set to `x`. -/
def vput {α : Type} {n : Nat} (v : Vector α n) (i : Nat) (x : α) : Vector α n := v.setIfInBounds i x

/-- The numbers of the four slots, in order. -/
def slotNumbers : List (Fin 4) := [0, 1, 2, 3]

end Sys2Proof.Machine
end

