-- ==== Sys2Proof/Machine/Ops.lean ====
section
/-! DEFINITION. The named operations over State: change one block's state, read and write buffer memory, and the
positions and slots that every block shares. -/

namespace Sys2Proof.Machine

/-! ### One block's state changed, the rest as it stands -/

def State.modBus (s : State) (f : BusPath → BusPath) : State := { s with bus := f s.bus }

def State.modCoder (s : State) (f : RecordCoder → RecordCoder) : State := { s with coder := f s.coder }

def State.modTape (s : State) (f : Assembler → Assembler) : State := { s with tape := f s.tape }

def State.modDec (s : State) (f : DecodeService → DecodeService) : State := { s with dec := f s.dec }

def State.modMon (s : State) (f : Monitor → Monitor) : State := { s with mon := f s.mon }

def State.modEdit (s : State) (f : EditEngine → EditEngine) : State := { s with edit := f s.edit }

def State.modCopy (s : State) (f : CopyControl → CopyControl) : State := { s with copy := f s.copy }

def State.modSettings (s : State) (f : Settings → Settings) : State := { s with settings := f s.settings }

def State.modCounters (s : State) (f : Vector Nat 17 → Vector Nat 17) : State := { s with counters := f s.counters }

def State.modCmd (s : State) (f : CommandUnit → CommandUnit) : State := { s with cmd := f s.cmd }

def State.modRep (s : State) (f : ReportUnit → ReportUnit) : State := { s with rep := f s.rep }

def State.modMem (s : State) (f : Memory → Memory) : State := { s with mem := f s.mem }

def State.modRecSlot (s : State) (k : Fin 4) (f : RecSlot → RecSlot) : State :=
  s.modCoder fun c => { c with slots := vmod c.slots k f }

def State.modTapeSlot (s : State) (k : Fin 4) (f : TapeSlot → TapeSlot) : State :=
  s.modTape fun t => { t with slots := vmod t.slots k f }

/-! ### Buffer memory -/

/-- The buffer-memory address of control-area offset `off` (R175). -/
def ctlAddr (off : Nat) : Nat := Config.controlBase + off

/-- The word of buffer memory that the 19 address lines select. -/
def State.peek (s : State) (a : Nat) : Word := Memory.read s.mem (a % Config.memoryWords)

/-- One write of buffer memory. -/
def State.poke (s : State) (a : Nat) (v : Word) : State := s.modMem fun m => Memory.write m (a % Config.memoryWords) v

/-- `n` memory accesses of the upstream transaction's own (R155). -/
def State.addAccesses (s : State) (n : Nat) : State := s.modBus fun b => { b with accesses := b.accesses + n }

/-- One write made for the upstream transaction (R146, R155). -/
def State.upPoke (s : State) (a : Nat) (v : Word) : State := (s.poke a v).addAccesses 1

/-- How the bus path served the transaction (R146). -/
def State.treat (s : State) (t : Treatment) : State := s.modBus fun b => { b with treatment := t }

/-- The word a read returns upstream, and how it was served (R146). -/
def State.answer (s : State) (t : Treatment) (v : Word) : State :=
  s.modBus fun b => { b with treatment := t, data := v }

/-- The base address of window table entry `k`: the page number times 0x1000 (R149). -/
def BusPath.base (b : BusPath) (k : Fin 4) : Nat := b.table[k].toNat * 0x1000

/-- The address of offset `off` of record slot `k` (R2). -/
def State.recAddr (s : State) (k : Fin 4) (off : Nat) : Nat := s.bus.base 2 + Config.slotWords * k.val + off

/-- The address of offset `off` of off-tape slot `k` (R2). -/
def State.tapeAddr (s : State) (k : Fin 4) (off : Nat) : Nat := s.bus.base 3 + Config.slotWords * k.val + off

/-! ### Positions and slots -/

/-- The position value of frame `f`, pair `n` (00_scope.md, Conventions). -/
def position (f n : Nat) : Nat := Config.pairsPerFrame * f + n

/-- A frame address carried in two parts (R159). -/
def frameOf (hi lo : Word) : Nat := 65536 * hi.toNat + lo.toNat

/-- The next address on the timeline, holding at the last one (R52). -/
def nextFrame (f : Nat) : Nat := if f < Config.maxFrame then f + 1 else Config.maxFrame

/-- The record slot that is OPEN, if any (R19). -/
def RecordCoder.openSlot (c : RecordCoder) : Option (Fin 4) := slotNumbers.find? fun k => c.slots[k].state == .opened

/-- Some record slot is OPEN or CLOSING (R16). -/
def RecordCoder.unfinished (c : RecordCoder) : Bool :=
  slotNumbers.any fun k => c.slots[k].state == .opened || c.slots[k].state == .closing

/-- Some off-tape slot is EVALUATING (R48). -/
def Assembler.evaluating (t : Assembler) : Bool := slotNumbers.any fun k => t.slots[k].state == .evaluating

/-- The COMPLETE off-tape slot with frame address `f` (R61). -/
def Assembler.completeAt (t : Assembler) (f : Nat) : Option (Fin 4) :=
  slotNumbers.find? fun k => t.slots[k].state == .complete && t.slots[k].frame == f

/-- The current record position, for the edit engine: the position of the most recent first-write pair event while the
job is RECORDING, else none (R88, R93). -/
def RecordCoder.position (c : RecordCoder) : Option Nat := if c.job = .recording then c.recPos else none

end Sys2Proof.Machine
end

