-- ==== Sys2Proof/Machine/Operands.lean ====
section
/-! DEFINITION. The operand forms of an upstream transaction: the region its word address falls in, and its offset there
(R145, R147, R149, R150, R175). -/

namespace Sys2Proof.Machine

/-- The regions of R145. -/
inductive Region where
  | control | recordWindow | playbackWindow | recordImage | offTapeImage | elsewhere
  deriving DecidableEq, Repr

/-- The extent of the region of window table entry `k` (R145). -/
def regionWords (k : Fin 4) : Nat := if k.val < 2 then Config.windowWords else Config.imageWords

/-- Address `a` lies in the region of window table entry `k` (R145). -/
def BusPath.covers (b : BusPath) (k : Fin 4) (a : Nat) : Bool :=
  decide (b.base k ≤ a) && decide (a < b.base k + regionWords k)

/-- The region of a word address: the four windows and images only while the table is valid (R145). -/
def BusPath.regionOf (b : BusPath) (a : Nat) : Region :=
  if Config.controlBase ≤ a then .control
  else if !b.valid then .elsewhere
  else if b.covers 0 a then .recordWindow
  else if b.covers 1 a then .playbackWindow
  else if b.covers 2 a then .recordImage
  else if b.covers 3 a then .offTapeImage
  else .elsewhere

/-- The records of the control area that an upstream access is watched or captured for (R147, R175), each with the index
of the word in its record. -/
inductive ControlWord where
  | settings (k : Fin 7)
  | mask (k : Fin 6)
  | table (k : Fin 4)
  | input
  | policy (k : Fin 21)
  | producer
  | cause (k : Fin 6)
  | other
  deriving DecidableEq, Repr

/-- The control-area offset of an address in the area, which begins at a multiple of its 4096 words (R175). -/
def ctlOffset (a : BusAddr) : Nat := a.toNat % Config.controlWords

/-- What stands at control-area offset `off` (R175). -/
def controlWord (off : Nat) : ControlWord :=
  if h : 0x002 ≤ off ∧ off ≤ 0x007 then .cause ⟨off - 0x002, by omega⟩
  else if h : 0x010 ≤ off ∧ off ≤ 0x016 then .settings ⟨off - 0x010, by omega⟩
  else if h : 0x018 ≤ off ∧ off ≤ 0x01D then .mask ⟨off - 0x018, by omega⟩
  else if h : 0x020 ≤ off ∧ off ≤ 0x023 then .table ⟨off - 0x020, by omega⟩
  else if off = 0x028 then .input
  else if h : 0x030 ≤ off ∧ off ≤ 0x044 then .policy ⟨off - 0x030, by omega⟩
  else if off = 0x050 then .producer
  else .other

/-! ### The validity of the window table (R150) -/

/-- The first word past the region of window table entry `k`. -/
def BusPath.stop (b : BusPath) (k : Fin 4) : Nat := b.base k + regionWords k

/-- The regions of entries `j` and `k` do not overlap. -/
def BusPath.apart (b : BusPath) (j k : Fin 4) : Bool := decide (b.stop j ≤ b.base k) || decide (b.stop k ≤ b.base j)

/-- The judgement of R150: no entry past 127, no region past word 0x7FFFF or over the control area, no two regions
overlapping. A region that ends below the control area ends below 0x80000 as well. -/
def BusPath.judge (b : BusPath) : Bool :=
  (slotNumbers.all fun k => decide (b.table[k].toNat ≤ 127) && decide (b.stop k ≤ Config.controlBase)) &&
    b.apart 0 1 && b.apart 0 2 && b.apart 0 3 && b.apart 1 2 && b.apart 1 3 && b.apart 2 3

end Sys2Proof.Machine
end

