-- ==== Sys2Proof/WellFormed.lean ====
section
/-! DEFINITION. When a command is written as its row means it. The machine gives every term a meaning, so this is a check
of the sender's and no premise of the machine. -/

namespace Sys2Proof

/-- The control-area offsets whose writes a row of their own carries (R147, R175). -/
def captureOffset (off : Nat) : Bool :=
  (0x010 ≤ off && off ≤ 0x016) || (0x018 ≤ off && off ≤ 0x01D) || (0x020 ≤ off && off ≤ 0x023) || off == 0x028 ||
    (0x030 ≤ off && off ≤ 0x044) || off == 0x050

/-- The command words that UNKNOWN_COMMAND carries (R159, R162, R163, R176): a code past 15, CLEAR with a target past
STICKY, and SOFT_RESET with a scope past COUNTERS. -/
def namesNoRow (w : Word) : Bool :=
  let code := w.toNat % 32
  16 ≤ code || (code == 14 && 2 ≤ w.toNat / 32 % 4) || (code == 15 && 4 ≤ w.toNat / 32 % 8)

/-- A window or image row's address lies below the control area: no region overlaps it (R150). -/
def belowControl (a : BusAddr) : Bool := a.toNat < Config.controlBase

/-- The command is written as its row means it. -/
def WellFormed : Instr → Bool
  | .recordWindowWrite a _ => belowControl a
  | .recordWindowRead a => belowControl a
  | .playbackWindowRead a => belowControl a
  | .playbackWindowWrite a _ => belowControl a
  | .recordImageRead a => belowControl a
  | .recordImageWrite a _ => belowControl a
  | .offTapeImageWrite a _ => belowControl a
  | .controlAreaWrite off _ => !captureOffset off.toNat
  | .unknownCommand w => namesNoRow w
  | .resetAsserted => true
  | .resetReleased => true
  | .initEnd => true
  | .windowTableWrite _ _ => true
  | .settingsWrite _ _ => true
  | .maskWordWrite _ _ => true
  | .policyRecordWrite _ _ => true
  | .inputStatusWrite _ => true
  | .producerIndexWrite _ => true
  | .causeWordRead _ => true
  | .nop => true
  | .recordStart _ _ _ => true
  | .recordStop => true
  | .playStart => true
  | .playStop => true
  | .monitorSelect _ _ => true
  | .editLoad _ _ _ _ _ => true
  | .editParam _ _ _ _ _ _ => true
  | .editCancel _ => true
  | .editArm => true
  | .editDisarm => true
  | .locate _ _ => true
  | .locateCancel => true
  | .policySeal => true
  | .clearCounters => true
  | .clearSticky => true
  | .softResetRecord => true
  | .softResetPlayback => true
  | .softResetEdit => true
  | .softResetCounters => true
  | .commandCompletion => true
  | .enginePortGrant => true
  | .closeEnd => true
  | .evaluationTake => true
  | .evaluationEnd => true
  | .reportPassBegin => true
  | .reportPassEnd => true

end Sys2Proof
end

