-- ==== Sys2Proof/Decode.lean ====
section
/-! DEFINITION. How the command unit reads a ring entry (R159 step 3, R176) and how a controller writes one.
The rows of spec/opcode_table.json give no bits, so `decodeTableWord` answers none on every word. -/

namespace Sys2Proof

/-- The field of `len` bits of `w` from bit `lo` up. -/
def field (w : Word) (lo len : Nat) : BitVec len := w.extractLsb' lo len

/-- The command that a ring entry's command word and two arguments spell (R159, R176). Operand bits and arguments that a
command does not name are ignored. -/
def decodeEntry (w a1 a2 : Word) : Instr :=
  match w.toNat % 32 with
  | 0 => .nop
  | 1 => .recordStart (field w 5 2) a1 a2
  | 2 => .recordStop
  | 3 => .playStart
  | 4 => .playStop
  | 5 => .monitorSelect a1 a2
  | 6 => .editLoad (field w 5 4) (field w 9 2) (field w 11 5) a1 a2
  | 7 => .editParam (field w 5 2) (field w 7 1) (field w 8 4) (field w 12 2) a1 a2
  | 8 => .editCancel (field w 5 4)
  | 9 => .editArm
  | 10 => .editDisarm
  | 11 => .locate a1 a2
  | 12 => .locateCancel
  | 13 => .policySeal
  | 14 =>
    match w.toNat / 32 % 4 with
    | 0 => .clearCounters
    | 1 => .clearSticky
    | _ => .unknownCommand w
  | 15 =>
    match w.toNat / 32 % 8 with
    | 0 => .softResetRecord
    | 1 => .softResetPlayback
    | 2 => .softResetEdit
    | 3 => .softResetCounters
    | _ => .unknownCommand w
  | _ => .unknownCommand w

/-- The command word and the two arguments that spell a ring command, every unnamed bit 0 (R176); none for a row that is
no ring command. -/
def ringEntry : Instr → Option (Word × Word × Word)
  | .nop => some (0, 0, 0)
  | .recordStart m hi lo => some (word (1 + 32 * m.toNat), hi, lo)
  | .recordStop => some (2, 0, 0)
  | .playStart => some (3, 0, 0)
  | .playStop => some (4, 0, 0)
  | .monitorSelect src ov => some (5, src, ov)
  | .editLoad h k hi lo pair =>
    some (word (6 + 32 * h.toNat + 512 * k.toNat + 2048 * hi.toNat), lo, pair)
  | .editParam c ch e sh th sp =>
    some (word (7 + 32 * c.toNat + 128 * ch.toNat + 256 * e.toNat + 4096 * sh.toNat), th, sp)
  | .editCancel h => some (word (8 + 32 * h.toNat), 0, 0)
  | .editArm => some (9, 0, 0)
  | .editDisarm => some (10, 0, 0)
  | .locate hi lo => some (11, hi, lo)
  | .locateCancel => some (12, 0, 0)
  | .policySeal => some (13, 0, 0)
  | .clearCounters => some (14, 0, 0)
  | .clearSticky => some (word (14 + 32), 0, 0)
  | .softResetRecord => some (15, 0, 0)
  | .softResetPlayback => some (word (15 + 32), 0, 0)
  | .softResetEdit => some (word (15 + 64), 0, 0)
  | .softResetCounters => some (word (15 + 96), 0, 0)
  | .unknownCommand w => some (w, 0, 0)
  | .resetAsserted => none
  | .resetReleased => none
  | .initEnd => none
  | .recordWindowWrite _ _ => none
  | .recordWindowRead _ => none
  | .playbackWindowRead _ => none
  | .playbackWindowWrite _ _ => none
  | .recordImageRead _ => none
  | .recordImageWrite _ _ => none
  | .offTapeImageWrite _ _ => none
  | .windowTableWrite _ _ => none
  | .settingsWrite _ _ => none
  | .maskWordWrite _ _ => none
  | .policyRecordWrite _ _ => none
  | .inputStatusWrite _ => none
  | .producerIndexWrite _ => none
  | .causeWordRead _ => none
  | .controlAreaWrite _ _ => none
  | .commandCompletion => none
  | .enginePortGrant => none
  | .closeEnd => none
  | .evaluationTake => none
  | .evaluationEnd => none
  | .reportPassBegin => none
  | .reportPassEnd => none

/-- The command that the table's bits spell: no row of spec/opcode_table.json gives bits, so none (assumption 17). -/
def decodeTableWord (_nbits _w : Nat) : Option Instr := none

end Sys2Proof
end

