-- ==== Sys2Proof/Machine/Flags.lean ====
section
/-! DEFINITION. The part's flags: causes by group and bit, the marks of the status records, the counters, the summary word
and ALERT (R166 to R172, R177). -/

namespace Sys2Proof.Machine

/-! ### Causes -/

/-- The alert group of a cause (R166): 0 RECORD, 1 PLAYBACK, 2 EDIT, 3 COPY, 4 COMMAND, 5 CONFIG. -/
def Cause.group : Cause → Fin 6
  | .recordOverrun | .underrun | .idleWrite | .rangeEnd | .protectedFrame | .recordImageWrite | .rateMismatch => 0
  | .playOverrun | .strayWrite | .duplicate | .lockGained | .lockLost | .errorRate | .monitorUnderrun
  | .playbackImageWrite => 1
  | .fired | .forced | .missed | .located => 2
  | .refused | .inputChanged | .sealWrite => 3
  | .commandDone | .commandError | .ringOverflow => 4
  | .configInvalid | .configBusy => 5

/-- The bit of a cause in its group's words: its place in its group's row of R166 (R177). -/
def Cause.bit : Cause → Word
  | .recordOverrun | .playOverrun | .fired | .refused | .commandDone | .configInvalid => 0x01
  | .underrun | .strayWrite | .forced | .inputChanged | .commandError | .configBusy => 0x02
  | .idleWrite | .duplicate | .missed | .sealWrite | .ringOverflow => 0x04
  | .rangeEnd | .lockGained | .located => 0x08
  | .protectedFrame | .lockLost => 0x10
  | .recordImageWrite | .errorRate => 0x20
  | .rateMismatch | .monitorUnderrun => 0x40
  | .playbackImageWrite => 0x80

/-- A raise moves a CLEAR cause to RAISED and leaves a RAISED or POSTED one as it stands (R166). -/
def State.raise (s : State) (c : Cause) : State :=
  s.modRep fun r => { r with raised := vmod r.raised c.group fun w => w ||| (c.bit &&& ~~~ r.posted[c.group]) }

/-- The cause is RAISED (R166). -/
def State.isRaised (s : State) (c : Cause) : Bool := s.rep.raised[c.group] &&& c.bit != 0

/-- The cause is POSTED (R166). -/
def State.isPosted (s : State) (c : Cause) : Bool := s.rep.posted[c.group] &&& c.bit != 0

/-- A raise made only where `b` holds. -/
def State.raiseIf (s : State) (b : Bool) (c : Cause) : State := if b then s.raise c else s

/-! ### Marks of the status records (R168) -/

def State.markRecord (s : State) : State := s.modRep fun r => { r with marks := { r.marks with record := true } }

def State.markPlayback (s : State) : State := s.modRep fun r => { r with marks := { r.marks with playback := true } }

def State.markEdit (s : State) : State := s.modRep fun r => { r with marks := { r.marks with edit := true } }

def State.markCopy (s : State) : State := s.modRep fun r => { r with marks := { r.marks with copy := true } }

def State.markCounters (s : State) : State := s.modRep fun r => { r with marks := { r.marks with counters := true } }

/-- The record status record marked, where one of its fields has changed or a rule calls for its rewrite (R171). -/
def State.markRecordIf (s : State) (b : Bool) : State := if b then s.markRecord else s

/-- The playback status record marked, where one of its fields has changed or a rule calls for its rewrite (R171). -/
def State.markPlaybackIf (s : State) (b : Bool) : State := if b then s.markPlayback else s

/-- The edit status record marked, where one of its fields has changed or a rule calls for its rewrite (R171). -/
def State.markEditIf (s : State) (b : Bool) : State := if b then s.markEdit else s

/-- Some record is marked. -/
def Marks.any (m : Marks) : Bool := m.record || m.playback || m.edit || m.copy || m.counters

/-- The records marked in either. -/
def Marks.union (m n : Marks) : Marks :=
  { record := m.record || n.record, playback := m.playback || n.playback, edit := m.edit || n.edit,
    copy := m.copy || n.copy, counters := m.counters || n.counters }

/-! ### Counters -/

/-- The place of a counter in the counters record (R172, R175). -/
def Counter.index : Counter → Fin 17
  | .recordOverrun => 0 | .recordUnderrun => 1 | .framesRecorded => 2
  | .playOverrun => 3 | .strayWrite => 4 | .strayBlock => 5 | .blocksBad => 6 | .blocksMissing => 7 | .framesLost => 8
  | .errorRate => 9
  | .wordsCorrected => 10 | .wordsInterpolated => 11 | .wordsHeld => 12 | .wordsMuted => 13
  | .monitorUnderrun => 14 | .saturation => 15 | .refusedFrames => 16

/-- The value of a counter. -/
def State.counter (s : State) (c : Counter) : Nat := s.counters[c.index]

/-- A counter after `n` more events: it holds at 65535 (R172). -/
def countUp (v n : Nat) : Nat := min Config.counterMax (v + n)

/-- Adds `n` to a counter and marks the counters record where the counter changes (R172). -/
def State.count (s : State) (c : Counter) (n : Nat) : State :=
  if countUp (s.counter c) n = s.counter c then s
  else (s.modCounters fun v => vmod v c.index fun x => countUp x n).markCounters

/-- Adds one to a counter (R172). -/
def State.bump (s : State) (c : Counter) : State := s.count c 1

/-- Every counter back to 0, the counters record marked (R172). -/
def State.zeroCounters (s : State) : State := (s.modCounters fun _ => Vector.replicate 17 0).markCounters

/-! ### Summary and ALERT -/

/-- The bit of group `g` in the summary word (R177). -/
def groupBit (g : Fin 6) : Word := word (2 ^ g.val)

/-- The six groups, in the order of the cause words (R175). -/
def groups : List (Fin 6) := [0, 1, 2, 3, 4, 5]

/-- The summary word: the bit of each group that has a POSTED cause (R170). -/
def ReportUnit.summary (r : ReportUnit) : Word :=
  groups.foldl (fun w g => if r.posted[g] = 0 then w else w ||| groupBit g) 0

/-- Some POSTED cause is enabled by its mask (R170). -/
def ReportUnit.alertDue (r : ReportUnit) : Bool := groups.any fun g => r.posted[g] &&& r.masks[g] != 0

/-- ALERT judged (R170): driven low while some POSTED cause is enabled by its mask. -/
def State.judgeAlert (s : State) : State := s.modRep fun r => { r with alert := r.alertDue }

end Sys2Proof.Machine
end

