-- ==== Sys2Proof/Machine/Format.lean ====
section
/-! DEFINITION. The tape frame format: interleave, parity groups, check sums and headers (R1 to R15, R174). -/

namespace Sys2Proof.Machine

/-! ### Slots, blocks and the interleave -/

/-- The slot, block and word of image offset `y` (R2). -/
def imageSlot (y : Nat) : Nat := y / Config.slotWords

def imageBlock (y : Nat) : Nat := y % Config.slotWords / Config.blockWords

def imageWord (y : Nat) : Nat := y % Config.blockWords

/-- The offset in its slot of word `j` of block `b` (R2). -/
def slotOffset (b j : Nat) : Nat := Config.blockWords * b + j

/-- The data block of sample word (n, c) (R4). -/
def blockOf (n c : Nat) : Nat := 2 * (n / 2 % 6) + (n + c) % 2

/-- The payload position of pair `n` (R4). -/
def posOf (n : Nat) : Nat := 2 * (n / 12) + n % 2

/-- The pair at payload position `p` of data block `b` (R5); no report carries it (assumption 33). -/
def pairOf (b p : Nat) : Nat := 12 * (p / 2) + 2 * (b / 2) + p % 2

/-- The channel at payload position `p` of data block `b` (R5). -/
def chanOf (b p : Nat) : Nat := (b % 2 + p % 2) % 2

/-- The group of block `b`, data or parity: 0 for group A, 1 for group B (R2). -/
def groupOf (b : Nat) : Nat := b % 2

/-- The parity block of data block `b`'s group (R2). -/
def parityBlock (b : Nat) : Nat := 12 + groupOf b

/-- The five other data blocks of `b`'s group, in ascending order (R64). -/
def partners (b : Nat) : List Nat := (List.range 12).filter fun x => groupOf x = groupOf b ∧ x ≠ b

/-! ### The two maps of a record slot (R10, R19) -/

/-- The payload-written entry of position `p` of data block `b`. -/
def RecSlot.isWritten (x : RecSlot) (b p : Nat) : Bool := (vget x.written b 0).getLsbD p

/-- The parity-touched entry of position `p` of group `g`'s parity block. -/
def RecSlot.isTouched (x : RecSlot) (g p : Nat) : Bool := (vget x.touched g 0).getLsbD p

/-- The bit of payload position `p`. -/
def payloadBit (p : Nat) : BitVec 128 := BitVec.ofNat 128 (2 ^ p)

/-- A map with the entry of row `i`, position `p` set. -/
def setEntry {n : Nat} (m : Vector (BitVec 128) n) (i p : Nat) : Vector (BitVec 128) n :=
  vput m i (vget m i 0 ||| payloadBit p)

/-- How many bits of a map row are set. -/
def rowCount (w : BitVec 128) : Nat := ((List.range 128).filter fun p => w.getLsbD p).length

/-- How many payload-written entries are set (R24). -/
def RecSlot.fillCount (x : RecSlot) : Nat := (x.written.toList.map rowCount).sum

/-- Every payload-written entry is set. -/
def RecSlot.full (x : RecSlot) : Bool := x.written.toList.all fun w => w == BitVec.allOnes 128

/-- The offsets the close zero-fills: every data payload word whose payload-written entry is clear, then every parity
payload word whose parity-touched entry is clear (R32). -/
def RecSlot.fillList (x : RecSlot) : List Nat :=
  ((List.range 12).flatMap fun b =>
    ((List.range 128).filter fun p => !x.isWritten b p).map fun p => slotOffset b (2 + p)) ++
  ((List.range 2).flatMap fun g =>
    ((List.range 128).filter fun p => !x.isTouched g p).map fun p => slotOffset (12 + g) (2 + p))

/-! ### Check sums -/

/-- The modulus of the check sums (R12). -/
def sumMod : Nat := 65535

/-- The check sums of a block whose words 0..129 are listed (R12). -/
def sumsOf (ws : List Word) : Sums :=
  { s1 := (ws.map BitVec.toNat).sum % sumMod,
    s2 := (ws.mapIdx fun k w => (k + 1) * w.toNat).sum % sumMod }

/-- The sums after the word at index `k` changes from `old` to `new` (R14). The difference new − old is carried as
new + 65535 − old, which has the same residue and is not negative. -/
def Sums.update (σ : Sums) (k : Nat) (old new : Word) : Sums :=
  let d := new.toNat + sumMod - old.toNat
  { s1 := (σ.s1 + d) % sumMod, s2 := (σ.s2 + (k + 1) * d) % sumMod }

/-! ### Headers (R7, R8, R174) -/

/-- The code of a copy status in header A (R174). -/
def CopyStatus.code : CopyStatus → Nat
  | .free => 0
  | .once => 1
  | .none => 2

/-- The copy status of a code of header A, 3 being invalid and read as NONE by no rule (R174). -/
def CopyStatus.ofCode (n : Nat) : CopyStatus := if n = 0 then .free else if n = 1 then .once else .none

/-- Header A of block `b` of a frame (R7, R174). -/
def headerA (b rate : Nat) (st : CopyStatus) (frame : Nat) : Word :=
  word (b + 16 * rate + 64 * st.code + 4096 * (frame / 65536))

/-- Header B of a frame (R8). -/
def headerB (frame : Nat) : Word := word (frame % 65536)

/-- The block index field of header A (R174). -/
def headIndex (a : Word) : Nat := a.toNat % 16

/-- The rate code field of header A (R174). -/
def headRate (a : Word) : Nat := a.toNat / 16 % 4

/-- The copy status field of header A (R174). -/
def headStatus (a : Word) : Nat := a.toNat / 64 % 4

/-- The frame address of a block from its two headers (R8, R174). -/
def headFrame (a b : Word) : Nat := 65536 * (a.toNat / 4096) + b.toNat

/-! ### Copy statuses in order (R1) -/

/-- The more restrictive of two copy statuses (R1). -/
def CopyStatus.most (a b : CopyStatus) : CopyStatus := if a.code < b.code then b else a

/-- The most restrictive of a list of copy statuses; FREE of none (R1). -/
def mostRestrictive (l : List CopyStatus) : CopyStatus := l.foldl CopyStatus.most .free

end Sys2Proof.Machine
end

