-- ==== Sys2Proof/Machine/Copy.lean ====
section
/-! DEFINITION. Copy control: permissions, refusal, contribution records, the output status and the policy
(R130 to R144). -/

namespace Sys2Proof.Machine

/-! ### Permissions -/

/-- The permission derived from the input status and the policy's analog status (R132). -/
def derivedOf (i : InputStatus) (analog : CopyStatus) : CopyStatus :=
  if i.format = 0 then .free
  else if i.format = 2 then analog
  else if i.format = 1 then
    if i.permitted then .free else if !i.isCopy && i.category then .once else .none
  else .none

/-- The input status word's fields (R131, R175); bits 15..5 are ignored. -/
def inputOf (v : Word) : InputStatus :=
  { format := v.extractLsb' 0 2, permitted := v.getLsbD 2, isCopy := v.getLsbD 3, category := v.getLsbD 4 }

/-- The slot bound to the last half read: the slot of the current frame (R137). -/
def Monitor.currentSlot (m : Monitor) : Option (Fin 4) :=
  match m.lastHalf with
  | none => none
  | some h => m.halves[h]

/-- The output status that R137 and R138 give for the effective source and the current frame. -/
def State.outputTarget (s : State) : CopyStatus :=
  match s.mon.effective with
  | .decoded =>
    match s.mon.currentSlot with
    | some k => s.tape.slots[k].status
    | none => s.copy.output
  | .input => s.copy.derived
  | .pattern => .free
  | .mute => .free

/-- The output status set; nothing is written where it is in force already (R137). -/
def State.updateOutput (s : State) : State :=
  if s.outputTarget = s.copy.output then s
  else (s.modCopy fun c => { c with output := s.outputTarget }).markCopy

/-- The recording permission after the derived permission becomes `d`: a stricter one reaches it at once, a freer one
waits (R133). -/
def stricter (recording d : CopyStatus) : CopyStatus := if recording.code < d.code then d else recording

/-- The permission derived afresh, in the order of R132. -/
def State.rederive (s : State) : State :=
  let d := derivedOf s.copy.input s.copy.analog
  if d = s.copy.derived then s
  else
    let s1 := s.modCopy fun c => { c with derived := d, recording := stricter c.recording d }
    let s2 := if s.mon.effective = .input then s1.updateOutput else s1
    s2.markCopy.raise .inputChanged

/-- The recording permission becomes the derived permission: at a frame open and at RECORD_START (R133). -/
def State.samplePermission (s : State) : State :=
  if s.copy.recording = s.copy.derived then s
  else (s.modCopy fun c => { c with recording := c.derived }).markCopy

/-- A capture of the input status record (R131, R132). -/
def State.captureInput (s : State) (v : Word) : State := (s.modCopy fun c => { c with input := inputOf v }).rederive

/-! ### Resolution, refusal and contributions -/

/-- The resolved new value: the value written, or 0 while the recording permission is NONE (R134). -/
def resolve (recording : CopyStatus) (v : Word) : Word := if recording = .none then 0 else v

/-- The effects of a refused word of record slot `k` whose old-audio-only mark is clear (R134). -/
def State.refuse (s : State) (k : Fin 4) : State :=
  if s.copy.contrib[k].refused then s
  else ((s.modCopy fun c => { c with contrib := vmod c.contrib k fun x => { x with refused := true } }).raise
    .refused).bump .refusedFrames

/-- The status that new audio recorded under a permission carries on tape; NONE is refused and carries none (R135). -/
def recordedStatus (permission : CopyStatus) : CopyStatus := if permission = .free then .free else .none

/-- A contribution record after a stored word of new weight `wNew`, old weight `wOld`, refused or not, with the recorded
status and the source status of the word (R129, R135). -/
def Contribution.add (x : Contribution) (wNew wOld : Nat) (refused : Bool) (recorded source : CopyStatus) : Contribution :=
  let takesNew := 0 < wNew && !refused
  let takesOld := decide (0 < wOld)
  { x with
    gotNew := x.gotNew || takesNew
    gotOld := x.gotOld || takesOld
    newStatus := if takesNew then x.newStatus.most recorded else x.newStatus
    oldStatus := if takesOld then x.oldStatus.most source else x.oldStatus }

/-- The copy status of a recorded frame (R136). -/
def Contribution.decided (x : Contribution) : CopyStatus :=
  if x.refused then .none
  else (if x.gotNew then x.newStatus else .free).most (if x.gotOld then x.oldStatus else .free)

/-! ### Policy -/

/-- Frame address `f` lies in an enabled protected range (R140). -/
def CopyControl.isProtected (c : CopyControl) (f : Nat) : Bool :=
  c.ranges.toList.any fun r => r.active && decide (r.start ≤ f) && decide (f ≤ r.stop)

/-- Some address of `a..b` lies in an enabled protected range (R97). -/
def CopyControl.touches (c : CopyControl) (a b : Nat) : Bool :=
  c.ranges.toList.any fun r => r.active && decide (r.start ≤ b) && decide (a ≤ r.stop) && decide (a ≤ b)

/-- A range after the capture of its field `j`: start high, start low, end high, end low, enable (R140, R175). -/
def Range.capture (r : Range) (j : Nat) (v : Word) : Range :=
  match j with
  | 0 => { r with start := 65536 * (v.toNat % 16) + r.start % 65536 }
  | 1 => { r with start := r.start / 65536 * 65536 + v.toNat }
  | 2 => { r with stop := 65536 * (v.toNat % 16) + r.stop % 65536 }
  | 3 => { r with stop := r.stop / 65536 * 65536 + v.toNat }
  | _ => { r with enable := v.getLsbD 0 }

/-- A range judged: enabled when its enable is set and its start is not above its end (R140). -/
def Range.judge (r : Range) : Range := { r with active := r.enable && decide (r.start ≤ r.stop) }

/-- A range held disabled: its enable set and its start above its end (R140). -/
def Range.heldDisabled (r : Range) : Bool := r.enable && decide (r.stop < r.start)

/-- The capture of the analog status word, taken whole (R139, R175). -/
def State.captureAnalog (s : State) (v : Word) : State :=
  if v = 0 then (s.modCopy fun c => { c with analog := .free }).rederive
  else if v = 1 then (s.modCopy fun c => { c with analog := .once }).rederive
  else s.raise .configInvalid

/-- The capture of field `j` of range `n` (R140). -/
def State.captureRange (s : State) (n : Fin 4) (j : Nat) (v : Word) : State :=
  let r := (s.copy.ranges[n].capture j v).judge
  (s.modCopy fun c => { c with ranges := vset c.ranges n r }).raiseIf r.heldDisabled .configInvalid

/-- The capture of word `k` of the policy record (R139, R140, R175). -/
def State.capturePolicy (s : State) (k : Fin 21) (v : Word) : State :=
  if k.val = 0 then s.captureAnalog v
  else s.captureRange ⟨(k.val - 1) / 5, by omega⟩ ((k.val - 1) % 5) v

/-- The policy sealed: the shadow is to be written back, and a range held disabled has its enable cleared (R141). -/
def State.seal (s : State) : State :=
  if s.copy.sealed then s
  else ((s.modCopy fun c =>
      { c with sealed := true, ranges := vimap (fun _ r => { r with enable := r.active }) c.ranges }).modRep fun r =>
        { r with backPolicy := true }).markCopy

end Sys2Proof.Machine
end

