-- ==== Sys2Proof/Machine/Monitor.lean ====
section
/-! DEFINITION. The monitor selector: the effective source, its re-judgement and the pattern generator
(R79, R87 to R89, R92). -/

namespace Sys2Proof.Machine

/-- A fade is in progress at position `q` of transition `t` (R88). -/
def Transition.fading (t : Transition) (q : Nat) : Bool := decide (t.pos ≤ q) && decide (q < t.pos + t.len)

/-- A fade is in progress at the current record position (R88). -/
def State.fadeInProgress (s : State) : Bool :=
  match s.edit.trans, s.coder.recPos with
  | some t, some q => t.fading q
  | _, _ => false

/-- DECODED while the lock state is LOCKED or FLYWHEEL, else MUTE: the lock rows of R88. -/
def State.bylock (s : State) : Effective :=
  match s.tape.lock.state with
  | .locked => .decoded
  | .flywheel => .decoded
  | .search => .mute
  | .acquire => .mute

/-- The recording rows of the AUTO rules (R88). -/
def State.autoRecording (s : State) : Effective :=
  match s.coder.mode with
  | .assemble => .input
  | .insert => if s.edit.punch = .inside || s.fadeInProgress then .input else s.bylock

/-- The AUTO rules (R88). -/
def State.autoSource (s : State) : Effective := if s.coder.job = .recording then s.autoRecording else s.bylock

/-- The effective source a selected source names, AUTO by its rules (R87). -/
def State.named (s : State) : Effective :=
  match s.mon.selected with
  | .auto => s.autoSource
  | .tape => .decoded
  | .input => .input
  | .pattern => .pattern
  | .mute => .mute

/-- The effective source of R87. -/
def State.effectiveOf (s : State) : Effective :=
  if s.mon.override then s.named else if s.coder.job = .recording then s.autoRecording else s.named

/-- The ramp re-entry of a context (R73). -/
def Ctx.reentry : Ctx := { last := 0, mode := .recovering, hold := 0, step := 1 }

/-- The effective source re-judged (R89). -/
def State.rejudge (s : State) : State :=
  let e := s.effectiveOf
  if e = s.mon.effective then s
  else
    let s1 := s.modMon fun m => { m with effective := e }
    let s2 := if e = .decoded then s1.modDec fun d => { d with mon := Vector.replicate 2 Ctx.reentry } else s1
    s2.updateOutput.markPlayback

/-- The word of a PATTERN read: r − 16384 shifted right arithmetically by `a` places (R92). -/
def patternWord (r : BitVec 15) (a : Nat) : Word := BitVec.ofInt 16 (((r.toNat : Int) - 16384) / 2 ^ a)

/-- The pattern register after a read: shifted left by one place, the XOR of bits 14 and 13 entering at bit 0 (R92). -/
def patternNext (r : BitVec 15) : BitVec 15 :=
  BitVec.ofNat 15 (2 * r.toNat + if r.getLsbD 14 ^^ r.getLsbD 13 then 1 else 0)

end Sys2Proof.Machine
end

