-- ==== Sys2Proof/Machine/Concealment.lean ====
section
/-! DEFINITION. The decode service: classification, rebuild, the concealment contexts and the source statuses that travel
with the MIX contexts (R60 to R78, R128). -/

namespace Sys2Proof.Machine

/-! ### Classification and reading -/

/-- The class of a requested word (R61), with the slot, data block and payload position it lies at. -/
inductive WordClass where
  | direct (k : Fin 4) (b p : Nat)
  | rebuilt (k : Fin 4) (b p : Nat)
  | lost
  deriving DecidableEq, Repr

/-- The word is recoverable (R61). -/
def WordClass.recoverable : WordClass → Bool
  | .lost => false
  | _ => true

/-- The slot a recoverable word is read from. -/
def WordClass.slot : WordClass → Option (Fin 4)
  | .direct k _ _ => some k
  | .rebuilt k _ _ => some k
  | .lost => none

/-- The memory reads of a word of the class (R65). -/
def WordClass.cost : WordClass → Nat
  | .direct _ _ _ => 1
  | .rebuilt _ _ _ => 6
  | .lost => 0

/-- Block `b` of the slot is GOOD. -/
def TapeSlot.isGood (x : TapeSlot) (b : Nat) : Bool := (vget x.blocks b BlockRec.reset).status == .good

/-- The correctability of block `b`'s group (R41). -/
def TapeSlot.corrOf (x : TapeSlot) (b : Nat) : Corr := if groupOf b = 0 then x.corrA else x.corrB

/-- The class of word (f, n, c), `rate` being the record rate of a MIX request (R61, R62). -/
def Assembler.classify (t : Assembler) (rate : Option Nat) (f : Option Nat) (n c : Nat) : WordClass :=
  match f.bind t.completeAt with
  | none => .lost
  | some k =>
    if rate.any fun r => r != t.slots[k].rate then .lost
    else if t.slots[k].isGood (blockOf n c) then .direct k (blockOf n c) (posOf n)
    else if t.slots[k].corrOf (blockOf n c) = .correctable then .rebuilt k (blockOf n c) (posOf n)
    else .lost

/-- The rate test of R62 finds a mismatch at frame `f`. -/
def Assembler.rateClash (t : Assembler) (rate : Option Nat) (f : Option Nat) : Bool :=
  match f.bind t.completeAt with
  | none => false
  | some k => rate.any fun r => r != t.slots[k].rate

/-- Payload word `p` of block `b` of off-tape slot `k`, as memory holds it. -/
def State.tapeWord (s : State) (k : Fin 4) (b p : Nat) : Word := s.peek (s.tapeAddr k (slotOffset b (2 + p)))

/-- The value of a word of the class: read as stored, rebuilt from six reads, or none (R63, R64). -/
def State.classValue (s : State) : WordClass → Option Word
  | .direct k b p => some (s.tapeWord k b p)
  | .rebuilt k b p => some ((partners b).foldl (fun w x => w ^^^ s.tapeWord k x p) (s.tapeWord k (parityBlock b) p))
  | .lost => none

/-- The next word in time of (f, n), if there is one (R68). -/
def nextWord (f : Option Nat) (n : Nat) : Option Nat × Nat :=
  if n < 767 then (f, n + 1)
  else (f.bind fun x => if x < Config.maxFrame then some (x + 1) else none, 0)

/-! ### Delivery -/

/-- The four deliveries of the decode service. -/
inductive DeliveryKind where
  | recovered | interpolated | held | decayed
  deriving DecidableEq, Repr

/-- A delivery: its kind, and the context after it, whose last value is the value delivered (R71). -/
structure Delivery where
  kind : DeliveryKind
  ctx : Ctx
  deriving DecidableEq, Repr

/-- v·k/32 truncated toward zero (R67). -/
def rampWord (v : Word) (k : Nat) : Word := BitVec.ofInt 16 (Int.tdiv (v.toInt * k) 32)

/-- floor((a + b)/2) (R68). -/
def meanWord (a b : Word) : Word := BitVec.ofInt 16 ((a.toInt + b.toInt) / 2)

/-- 3·v/4 truncated toward zero (R70). -/
def decayWord (v : Word) : Word := BitVec.ofInt 16 (Int.tdiv (3 * v.toInt) 4)

/-- A recoverable word `v` delivered (R67). -/
def Ctx.recover (x : Ctx) (v : Word) : Ctx :=
  match x.mode with
  | .normal => { last := v, mode := .normal, hold := 0, step := 0 }
  | .holding => { last := v, mode := .normal, hold := 0, step := 0 }
  | .muting => { last := rampWord v 1, mode := .recovering, hold := x.hold, step := 2 }
  | .recovering =>
    if x.step < 32 then { last := rampWord v x.step, mode := .recovering, hold := x.hold, step := x.step + 1 }
    else { last := v, mode := .normal, hold := x.hold, step := 0 }

/-- A held delivery that takes the hold run to `run` (R69). -/
def Ctx.holdAt (x : Ctx) (run : Nat) : Ctx := { last := x.last, mode := .holding, hold := run, step := 0 }

/-- A decayed delivery (R70). -/
def Ctx.decay (x : Ctx) : Ctx := { last := decayWord x.last, mode := .muting, hold := x.hold, step := 0 }

/-- The delivery chosen from the word, the next word and the context, H being the hold limit (R67 to R70). -/
def Ctx.deliver (x : Ctx) (limit : Nat) (own next : Option Word) : Delivery :=
  match own with
  | some v => { kind := .recovered, ctx := x.recover v }
  | none =>
    match x.mode with
    | .muting => { kind := .decayed, ctx := x.decay }
    | .recovering => { kind := .held, ctx := x.holdAt 1 }
    | _ =>
      match next with
      | some w => { kind := .interpolated, ctx := { last := meanWord x.last w, mode := .normal, hold := 0, step := 0 } }
      | none =>
        if x.hold < limit then { kind := .held, ctx := x.holdAt (x.hold + 1) } else { kind := .decayed, ctx := x.decay }

/-- The next word is examined: the word is UNRECOVERABLE and the context NORMAL or HOLDING (R68). -/
def Ctx.examines (x : Ctx) (own : WordClass) : Bool := !own.recoverable && (x.mode == .normal || x.mode == .holding)

/-- The service looks at the next word of a request: it examines it by R68, and no rate mismatch made the word
unrecoverable, since R128 has such a word held or decayed. That this exception of R128 goes before R68, which taken alone
would bridge such a word at pair 767, is the model's choice: DESIGN CHOICE (assumption 37). -/
def Assembler.looksAhead (t : Assembler) (x : Ctx) (own : WordClass) (rate : Option Nat) (f : Option Nat) : Bool :=
  x.examines own && !t.rateClash rate f

/-- The source status of a MIX context after a delivery, by the table of R128. -/
def sourceAfter (t : Assembler) (before : CopyStatus) (kind : DeliveryKind) (own next : WordClass) : CopyStatus :=
  match kind with
  | .recovered => match own.slot with
    | some k => t.slots[k].status
    | none => before
  | .interpolated => match next.slot with
    | some k => before.most t.slots[k].status
    | none => before
  | .held => before
  | .decayed => before

/-- The counter a delivery adds one to, if any (R75). -/
def deliveryCounter (kind : DeliveryKind) (own : WordClass) : Option Counter :=
  match kind with
  | .recovered => match own with
    | .rebuilt _ _ _ => some .wordsCorrected
    | _ => none
  | .interpolated => some .wordsInterpolated
  | .held => some .wordsHeld
  | .decayed => some .wordsMuted

/-- The delivery's counter stepped (R71, R75). -/
def State.countDelivery (s : State) (kind : DeliveryKind) (own : WordClass) : State :=
  match deliveryCounter kind own with
  | some c => s.bump c
  | none => s

/-- RATE_MISMATCH raised at most once for each record frame (R62). -/
def State.noteRate (s : State) (rate : Option Nat) (f : Option Nat) : State :=
  if s.tape.rateClash rate f && s.dec.rateMark != some s.coder.r then
    (s.modDec fun d => { d with rateMark := some s.coder.r }).raise .rateMismatch
  else s

/-- The class of the next word where the service looks at it, else none to name (R68, R128). -/
def Assembler.classifyNext (t : Assembler) (x : Ctx) (own : WordClass) (rate : Option Nat) (f : Option Nat)
    (n c : Nat) : WordClass :=
  if t.looksAhead x own rate f then t.classify rate (nextWord f n).1 (nextWord f n).2 c else .lost

/-- A MONITOR request for (f, n, c), from start to delivery; the value delivered is the context's last value
(R60, R65, R71, R90). -/
def State.monitorRequest (s : State) (f : Option Nat) (n : Nat) (c : Fin 2) : State :=
  let x := s.dec.mon[c]
  let own := s.tape.classify none f n c
  let next := s.tape.classifyNext x own none f n c
  let d := x.deliver s.settings.hold (s.classValue own) (s.classValue next)
  ((s.modDec fun v => { v with mon := vset v.mon c d.ctx }).addAccesses (own.cost + next.cost)).countDelivery d.kind own

/-- The record rate: the rate code sampled into the OPEN record slot (R62). -/
def State.recordRate (s : State) : Option Nat := s.coder.openSlot.map fun k => s.coder.slots[k].rate

/-- A MIX request for (f, n, c), from start to delivery, with its rate tests and its source status (R60, R62, R128). -/
def State.mixRequest (s : State) (f n : Nat) (c : Fin 2) : State :=
  let x := s.dec.mix[c]
  let own := s.tape.classify s.recordRate (some f) n c
  let next := s.tape.classifyNext x own s.recordRate (some f) n c
  let d := x.deliver s.settings.hold (s.classValue own) (s.classValue next)
  let s1 := s.noteRate s.recordRate (some f)
  let s2 := if s.tape.looksAhead x own s.recordRate (some f) then s1.noteRate s.recordRate (nextWord (some f) n).1 else s1
  let s3 := (s2.modDec fun v => { v with mix := vset v.mix c d.ctx }).modCoder fun r =>
    { r with source := vmod r.source c fun b => sourceAfter s.tape b d.kind own next }
  (s3.addAccesses (own.cost + next.cost)).countDelivery d.kind own

end Sys2Proof.Machine
end

