-- ==== Sys2Proof/Machine/Crossfade.lean ====
section
/-! DEFINITION. The crossfade mixer: weights, mixing, rounding, saturation and the stored-word rule (R117 to R123). -/

namespace Sys2Proof.Machine

/-- The linear weight of fade step `k` of a fade of length `len` (R119). -/
def linearWeight (len k : Nat) : Nat := (2 * k + 1) * 16384 / len

/-- The fade-in weight from the linear weight `x` (R119, R120). -/
def fadeIn (shape : Shape) (x : Nat) : Nat :=
  match shape with
  | .linear => x
  | .power => x * (65536 - x) / 32768

/-- The fade-out weight from the linear weight `x` (R119, R120). -/
def fadeOut (shape : Shape) (x : Nat) : Nat :=
  match shape with
  | .linear => 32768 - x
  | .power => (32768 - x) * (32768 + x) / 32768

/-- The weight of the new audio at step `k` of a transition (R121). -/
def Transition.newWeight (t : Transition) (k : Nat) : Nat :=
  match t.kind with
  | .punchIn => fadeIn t.shape (linearWeight t.len k)
  | .punchOut => fadeOut t.shape (linearWeight t.len k)

/-- The weight of the old audio at step `k` of a transition (R121). -/
def Transition.oldWeight (t : Transition) (k : Nat) : Nat :=
  match t.kind with
  | .punchIn => fadeOut t.shape (linearWeight t.len k)
  | .punchOut => fadeIn t.shape (linearWeight t.len k)

/-- floor((new·w_new + old·w_old + 16384) / 32768) (R122). -/
def mixRaw (new old : Word) (wNew wOld : Nat) : Int := (new.toInt * wNew + old.toInt * wOld + 16384) / 32768

/-- A value saturated to the sample range (R123). -/
def saturate (r : Int) : Int := if r < -32768 then -32768 else if 32767 < r then 32767 else r

/-- A stored word, the weights copy control reads for it, and whether the mixer saturated it (R117, R123). -/
structure Stored where
  word : Word
  wNew : Nat
  wOld : Nat
  saturated : Bool
  deriving DecidableEq, Repr

/-- A word taken whole from the new side (R117). -/
def Stored.ofNew (v : Word) : Stored := { word := v, wNew := 32768, wOld := 0, saturated := false }

/-- A word taken whole from the old side (R117). -/
def Stored.ofOld (v : Word) : Stored := { word := v, wNew := 0, wOld := 32768, saturated := false }

/-- The mix at weights `wNew`, `wOld` (R122, R123). -/
def Stored.ofMix (new old : Word) (wNew wOld : Nat) : Stored :=
  let r := mixRaw new old wNew wOld
  { word := BitVec.ofInt 16 (saturate r), wNew := wNew, wOld := wOld, saturated := r < -32768 || 32767 < r }

/-- The stored-word rule (R117). The row with no transition held and punch state IN, which no run reaches, takes the new
value (assumption 20). -/
def storedWord (punch : Punch) (trans : Option Transition) (q : Nat) (new old : Word) : Stored :=
  match trans with
  | none => if punch = .outside then Stored.ofOld old else Stored.ofNew new
  | some t =>
    if q < t.pos then if t.prior = .outside then Stored.ofOld old else Stored.ofNew new
    else if q < t.pos + t.len then Stored.ofMix new old (t.newWeight (q - t.pos)) (t.oldWeight (q - t.pos))
    else
      match t.kind with
      | .punchIn => Stored.ofNew new
      | .punchOut => Stored.ofOld old

end Sys2Proof.Machine
end

