-- ==== Sys2Proof/Machine/Edit.lean ====
section
/-! DEFINITION. The edit engine: edit list, trigger comparator, LOCATE and the edit commands (R93 to R116). -/

namespace Sys2Proof.Machine

/-! ### Entries and outcome records -/

/-- The outcome record state of an entry in the list (R95). -/
def EntryState.outcome : EntryState → OutcomeState
  | .pending => .pending
  | .armed => .armed
  | .seeking => .seeking

/-- The fade length L of a fade exponent: 0, or 2^e (R94). -/
def fadeLength (expo : Nat) : Nat := if expo = 0 then 0 else 2 ^ expo

/-- A handle is in use while its outcome record is PENDING, ARMED or SEEKING (R95). -/
def OutcomeRec.inUse (o : OutcomeRec) : Bool := o.state == .pending || o.state == .armed || o.state == .seeking

/-- The frame address of an entry's location. -/
def Entry.frame (e : Entry) : Nat := e.loc / Config.pairsPerFrame

/-- The state of a handle's outcome record set. -/
def EditEngine.setOutcome (e : EditEngine) (h : Fin 8) (st : OutcomeState) : EditEngine :=
  { e with outcomes := vmod e.outcomes h fun o => { o with state := st } }

/-- The outcome records of the listed handles set to a finished state, kind and location kept (R95). -/
def EditEngine.finish (e : EditEngine) (hs : List (Fin 8)) (st : OutcomeState) : EditEngine :=
  hs.foldl (fun e h => e.setOutcome h st) e

/-- The head entry and its outcome record put in a state (R94, R95). -/
def EditEngine.setHead (e : EditEngine) (st : EntryState) : EditEngine :=
  match e.list with
  | [] => e
  | x :: rest => { e with list := { x with state := st } :: rest }.setOutcome x.handle st.outcome

/-- The comparator released: owner IDLE, and its entry, deadline and previous trigger value none. -/
def EditEngine.release (e : EditEngine) : EditEngine :=
  { e with owner := .idle, entry := none, deadline := none, prevTrig := none }

/-- An edit entry holds the comparator (R93). -/
def EditEngine.waiting (e : EditEngine) : Bool := e.owner == .waitL1 || e.owner == .waitL2

/-- The comparator entry, which is the head of the list, returned to PENDING, and the comparator released
(R103, R110, R111). -/
def EditEngine.returnEntry (e : EditEngine) : EditEngine := if e.waiting then (e.setHead .pending).release else e

/-! ### Arming and the return test -/

/-- The recording has passed an entry's location by more than its search span (R113). -/
def Entry.passed (e : Entry) (p : Option Nat) : Bool :=
  match p with
  | none => false
  | some q => e.loc + e.span.getD 0 < q

/-- The return test on the list: what is left of it, and the missed handles (R113). -/
def returnTest (p : Option Nat) : List Entry → List Entry × List (Fin 8)
  | [] => ([], [])
  | [e] => if e.passed p then ([], [e.handle]) else ([e], [])
  | e :: e2 :: rest =>
    if e.passed p then ((returnTest p rest).1, e.handle :: e2.handle :: (returnTest p rest).2) else (e :: e2 :: rest, [])

/-- The return test applied, where it is pending (R104, R113). -/
def State.applyReturnTest (s : State) : State :=
  if s.edit.returnTest then
    let t := returnTest s.coder.position s.edit.list
    let s1 := s.modEdit fun e => { e with list := t.1, returnTest := false }.finish t.2 .missed
    if t.2.isEmpty then s1 else s1.markEdit.raise .missed
  else s

/-- The conditions of R104 hold. -/
def EditEngine.canArm (e : EditEngine) : Bool :=
  e.arm == .armed && e.owner == .idle && e.rearm.isNone &&
    match e.list with
    | [] => false
    | x :: _ => x.state == .pending

/-- The head entry armed (R104). -/
def EditEngine.armTop (e : EditEngine) : EditEngine :=
  match e.list with
  | [] => e
  | x :: _ =>
    { e.setHead .armed with owner := .waitL1, entry := some x.handle, deadline := none, prevTrig := none }

/-- The head entry armed if R104 allows, after the return test where it is pending. -/
def State.armHead (s : State) : State :=
  if s.edit.canArm then (s.applyReturnTest.modEdit EditEngine.armTop).markEdit else s

/-! ### The trigger comparator -/

/-- The punch state after a punch of a kind (R108). -/
def PunchKind.after : PunchKind → Punch
  | .punchIn => .inside
  | .punchOut => .outside

/-- The comparator entry `x` fires at position `q` (R108). -/
def EditEngine.fire (e : EditEngine) (x : Entry) (q : Nat) (forced : Bool) : EditEngine :=
  { e.release with
    trans := some { pos := q, kind := x.kind, len := fadeLength x.expo, shape := x.shape, prior := e.punch }
    punch := x.kind.after
    list := e.list.tail
    outcomes := vmod e.outcomes x.handle fun o => { o with state := .fired, fire := some q, forced := some forced }
    rearm := some (q + fadeLength x.expo) }

/-- The fire with its report (R108). -/
def State.firePunch (s : State) (x : Entry) (q : Nat) (forced : Bool) : State :=
  (((s.modEdit fun e => e.fire x q forced).markEdit).raise .fired).raiseIf forced .forced

/-- The condition of a SEEKING entry is met by value `v`, `p` being the previous trigger value (R107). -/
def Entry.met (x : Entry) (p : Option Word) (v : Word) : Bool :=
  match x.cond with
  | .always => true
  | .zeroCross =>
    match p with
    | none => false
    | some w => (decide (w.toInt < 0) && decide (0 ≤ v.toInt)) || (decide (0 ≤ w.toInt) && decide (v.toInt < 0))
  | .below => decide (v.toInt.natAbs ≤ x.threshold.getD 0)

/-- Level 2 at position `q` with the old values of the pair (R107). -/
def State.level2 (s : State) (x : Entry) (q : Nat) (old : Vector Word 2) : State :=
  let v := old[x.chan.getD 0]
  if x.met s.edit.prevTrig v then s.firePunch x q false
  else if s.edit.deadline.any fun d => decide (d ≤ q) then s.firePunch x q true
  else s.modEdit fun e => { e with prevTrig := some v }

/-- Level 1 at position `q` (R106). -/
def State.level1 (s : State) (x : Entry) (q : Nat) (old : Vector Word 2) : State :=
  if q < x.loc then s
  else if x.cond = .always then s.firePunch x q false
  else
    ((s.modEdit fun e =>
      { e.setHead .seeking with owner := .waitL2, deadline := some (x.loc + x.span.getD 0), prevTrig := none }).markEdit).level2
      x q old

/-- The comparator takes the event (R105 step 2). The comparator entry is the head of the list (R96). In ASSEMBLE mode the
event carries no old values, and no entry holds the comparator (R105, R127). -/
def State.comparator (s : State) (q : Nat) (old : Option (Vector Word 2)) : State :=
  match s.edit.owner, s.edit.list, old with
  | .waitL1, x :: _, some v => s.level1 x q v
  | .waitL2, x :: _, some v => s.level2 x q v
  | _, _, _ => s

/-- The fade wait ends at the first pair event at or after the re-arm position (R105 step 1, R109). -/
def State.fadeWait (s : State) (q : Nat) : State :=
  if s.edit.rearm.any fun r => decide (r ≤ q) then (s.modEdit fun e => { e with rearm := none }).armHead else s

/-- A first-write pair event at position `q` handed to the edit engine, and the monitor re-judged after it
(R25, R89, R105). The current record position moves first (assumption 12). -/
def State.pairEvent (s : State) (q : Nat) (old : Option (Vector Word 2)) : State :=
  (((s.modCoder fun c => { c with recPos := some q }).fadeWait q).comparator q old).rejudge

/-! ### The record job and the list (R110) -/

/-- The fields of the edit status record (R115). -/
def EditEngine.shown (e : EditEngine) :
    ArmState × Owner × Punch × Option Transition × Vector OutcomeRec 8 := (e.arm, e.owner, e.punch, e.trans, e.outcomes)

/-- RECORD_START reaches the edit engine (R18, R110). -/
def EditEngine.start (e : EditEngine) (mode : RecMode) : EditEngine :=
  let e1 : EditEngine := match mode with
    | .insert => e
    | .assemble => { e.returnEntry with arm := .disarmed }
  { e1 with deadline := none, prevTrig := none, rearm := none, punch := .outside, trans := none }

/-- The head PUNCH_OUT cancelled, where the punch state is IN (R110). -/
def EditEngine.cancelOpenPunch (e : EditEngine) : EditEngine :=
  match e.punch, e.list with
  | .inside, x :: rest =>
    if x.kind = .punchOut then { e with list := rest }.setOutcome x.handle .cancelled else e
  | _, _ => e

/-- RECORD_STOP, the range end and SOFT_RESET RECORD reach the edit engine (R110). -/
def EditEngine.stop (e : EditEngine) : EditEngine :=
  { e.returnEntry.cancelOpenPunch with
    arm := .disarmed, deadline := none, prevTrig := none, rearm := none, punch := .outside, trans := none }

/-! ### LOCATE -/

/-- A LOCATE ended: the comparator returned, with the return test (R112 steps 1 to 3, R113). -/
def State.endLocate (s : State) : State :=
  ((s.modEdit fun e => { e with owner := .idle, target := none, returnTest := true }).armHead).markEdit

/-- The test of a pending LOCATE at the end of an evaluation of frame address `a` (R112). -/
def State.locateTest (s : State) (a : Nat) : State :=
  if s.edit.owner = .locateWait ∧ (s.tape.lock.state = .locked ∨ s.tape.lock.state = .flywheel) ∧
      s.edit.target.any (fun t => decide (t ≤ a)) = true then
    s.endLocate.raise .located
  else s

/-! ### The edit commands -/

/-- An entry placed in location order (R96, R97). -/
def insertEntry (x : Entry) : List Entry → List Entry
  | [] => [x]
  | y :: rest => if x.loc < y.loc then x :: y :: rest else y :: insertEntry x rest

/-- The kinds alternate, the first being opposite to the punch state (R96). -/
def alternates : Punch → List Entry → Bool
  | _, [] => true
  | p, x :: rest => x.kind.after != p && alternates x.kind.after rest

/-- Some PUNCH_IN and the PUNCH_OUT that follows it span an address of an enabled protected range (R97). -/
def spansProtected (c : CopyControl) : List Entry → Bool
  | [] => false
  | [_] => false
  | x :: y :: rest =>
    (x.kind == .punchIn && y.kind == .punchOut && c.touches x.frame y.frame) || spansProtected c (y :: rest)

/-- The entry EDIT_LOAD places, with its defaults (R98). -/
def newEntry (h : Fin 8) (kind : PunchKind) (loc : Nat) : Entry :=
  { handle := h, kind := kind, loc := loc, cond := .always, chan := none, threshold := none, span := none, expo := 0,
    shape := .linear, state := .pending }

/-- The tests of R97 after RANGE, in order; none when the load passes. -/
def State.loadTest (s : State) (x : Entry) : Option Result :=
  let placed := insertEntry x s.edit.list
  if 8 ≤ s.edit.list.length then some .full
  else if s.edit.outcomes[x.handle].inUse then some .conflict
  else if s.edit.list.any fun y => y.loc == x.loc then some .conflict
  else if s.edit.list.any fun y => y.state != .pending && decide (x.loc < y.loc) then some .conflict
  else if !alternates s.edit.punch placed then some .conflict
  else if s.copy.isProtected x.frame then some .prot
  else if spansProtected s.copy placed then some .prot
  else if s.edit.arm = .armed ∧ s.coder.job = .recording ∧ s.coder.position.any (fun p => decide (x.loc ≤ p)) = true then
    some .late
  else none

/-- A refused EDIT_LOAD sets the parameter target to none (R97). -/
def State.dropParam (s : State) : State := s.modEdit fun e => { e with param := none }

/-- The entry of a taken EDIT_LOAD placed, its outcome record replaced and the parameter target set (R98). -/
def EditEngine.load (e : EditEngine) (x : Entry) : EditEngine :=
  { e with
    list := insertEntry x e.list
    outcomes := vset e.outcomes x.handle
      { state := .pending, kind := some x.kind, loc := some x.loc, fire := none, forced := none }
    param := some x.handle }

/-- A taken EDIT_LOAD; it arms an entry that is now the head where R104 allows (R98). -/
def State.takeLoad (s : State) (x : Entry) : State :=
  let s1 := s.modEdit fun e => e.load x
  (if s.edit.list.isEmpty then s1.armHead else s1).markEdit

/-- EDIT_LOAD judged and taken (R97, R98). -/
def State.editLoad (s : State) (handle : BitVec 4) (kind : BitVec 2) (hi : BitVec 5) (lo pair : Word) : State × Result :=
  if h : handle.toNat < 8 then
    if 2 ≤ kind.toNat ∨ Config.maxFrame < 65536 * hi.toNat + lo.toNat ∨ Config.pairsPerFrame ≤ pair.toNat then
      (s.dropParam, .range)
    else
      let x := newEntry ⟨handle.toNat, h⟩ (if kind = 0 then .punchIn else .punchOut)
        (position (65536 * hi.toNat + lo.toNat) pair.toNat)
      match s.loadTest x with
      | some r => (s.dropParam, r)
      | none => (s.takeLoad x, .done)
  else (s.dropParam, .range)

/-- The exponent clamped to 0 or 4..11 (R100). The edit status record does not show it (R115, assumption 29). -/
def clampExpo (n : Nat) : Nat := if n = 0 then 0 else max 4 (min 11 n)

/-- An entry with the fields EDIT_PARAM gives it (R100). -/
def Entry.withParams (x : Entry) (cond : Condition) (chan : Fin 2) (threshold span expo : Nat) (shape : Shape) : Entry :=
  { x with
    cond := cond
    chan := if cond = .always then none else some chan
    threshold := if cond = .below then some (min 32767 threshold) else none
    span := if cond = .always then none else some span
    expo := clampExpo expo
    shape := shape }

/-- The condition of a code (R94, R175). -/
def conditionOf (n : Nat) : Option Condition :=
  if n = 0 then some .always else if n = 1 then some .zeroCross else if n = 2 then some .below else none

/-- The shape of a code (R94, R175). -/
def shapeOf (n : Nat) : Option Shape := if n = 0 then some .linear else if n = 1 then some .power else none

/-- The command consumed before an EDIT_PARAM keeps its sequence (R99). That only that command is tested, so that a NOP after a
command of another kind keeps the sequence, is the table of R99 and not its prose or that of R161: DESIGN CHOICE
(assumption 35). -/
def keepsSequence (k : Option CmdKind) : Bool := k == some .editLoad || k == some .editParam || k == some .nop

/-- EDIT_PARAM judged and taken (R99, R100). -/
def State.editParam (s : State) (cond : BitVec 2) (chan : BitVec 1) (expo : BitVec 4) (shape : BitVec 2)
    (threshold span : Word) : State × Result :=
  if keepsSequence s.cmd.prev then
    match s.edit.param with
    | none => (s, .sequence)
    | some h =>
      if s.edit.outcomes[h].inUse then
        if s.edit.outcomes[h].state = .pending then
          match conditionOf cond.toNat, shapeOf shape.toNat with
          | some c, some sh =>
            if 4095 < span.toNat then (s, .range)
            else
              ((s.modEdit fun e =>
                { e with list := e.list.map fun x =>
                    if x.handle = h then
                      x.withParams c (if chan = 0 then 0 else 1) threshold.toNat span.toNat expo.toNat sh
                    else x }).markEdit, .done)
          | _, _ => (s, .range)
        else (s, .state)
      else (s, .state)
  else (s, .sequence)

/-- The entries before the one of handle `h`. -/
def entriesBefore (h : Fin 8) (l : List Entry) : List Entry := l.takeWhile fun x => x.handle != h

/-- The entry of handle `h` and every entry after it. -/
def entriesFrom (h : Fin 8) (l : List Entry) : List Entry := l.dropWhile fun x => x.handle != h

/-- The entry of handle `h` and every entry after it cancelled (R101). -/
def EditEngine.cancelFrom (e : EditEngine) (h : Fin 8) : EditEngine :=
  let gone := (entriesFrom h e.list).map Entry.handle
  let e1 := { e with list := entriesBefore h e.list }.finish gone .cancelled
  if e.entry.any fun k => gone.contains k then e1.release else e1

/-- EDIT_CANCEL (R101). -/
def State.editCancel (s : State) (handle : BitVec 4) : State × Result :=
  if h : handle.toNat < 8 then
    if s.edit.outcomes[(⟨handle.toNat, h⟩ : Fin 8)].inUse then
      ((s.modEdit fun e => e.cancelFrom ⟨handle.toNat, h⟩).markEdit, .done)
    else (s, .state)
  else (s, .range)

/-- EDIT_ARM (R102). -/
def State.editArm (s : State) : State × Result :=
  if s.coder.mode = .assemble ∧ (s.coder.job = .recording ∨ s.coder.job = .stopping) then (s, .state)
  else if s.edit.arm = .armed then (s.markEdit, .done)
  else (((s.modEdit fun e => { e with arm := .armed }).armHead).markEdit, .done)

/-- EDIT_DISARM (R103). -/
def State.editDisarm (s : State) : State × Result :=
  if s.edit.arm = .disarmed then (s, .done)
  else ((s.modEdit fun e => { e.returnEntry with arm := .disarmed }).markEdit, .done)

/-- LOCATE (R111). -/
def State.locate (s : State) (hi lo : Word) : State × Result :=
  if Config.maxFrame < frameOf hi lo then (s, .range)
  else
    ((s.modEdit fun e => { e.returnEntry with owner := .locateWait, target := some (frameOf hi lo) }).markEdit, .done)

/-- LOCATE_CANCEL (R113). -/
def State.locateCancel (s : State) : State × Result :=
  if s.edit.owner = .locateWait then (s.endLocate, .done) else (s, .state)

/-- SOFT_RESET EDIT (R116). -/
def EditEngine.softReset (e : EditEngine) : EditEngine :=
  { ({ e with list := [] }.finish (e.list.map Entry.handle) .cancelled).release with
    target := none, param := none, rearm := none, returnTest := false }

end Sys2Proof.Machine
end

