-- ==== Sys2Proof/Machine/Tape.lean ====
section
/-! DEFINITION. The off-tape assembler: formatter writes, block and frame evaluation, the lock machine, the error-rate
monitor and the holding of slots (R39 to R59). -/

namespace Sys2Proof.Machine

/-! ### Holding and freeing slots (R58) -/

/-- The mix hold of an off-tape slot with frame address `f` (R58). -/
def RecordCoder.mixHolds (c : RecordCoder) (f : Nat) : Bool :=
  c.job == .recording && c.mode == .insert && decide (c.r ≤ f)

/-- Some hold stands on off-tape slot `k` (R58). -/
def State.isHeld (s : State) (k : Fin 4) : Bool :=
  s.mon.queue.contains k || s.mon.halves[(0 : Fin 2)] == some k || s.mon.halves[(1 : Fin 2)] == some k ||
    s.coder.mixHolds s.tape.slots[k].frame

/-- A COMPLETE slot on which no hold stands goes FREE (R58). -/
def State.releaseSlot (s : State) (k : Fin 4) : State :=
  if s.tape.slots[k].state = .complete ∧ s.isHeld k = false then
    (s.modTapeSlot k fun x => { x with state := .free }).markPlayback
  else s

/-- Every slot's holds tested: at a record frame open and when the record job leaves RECORDING (R58). -/
def State.retestHolds (s : State) : State := slotNumbers.foldl State.releaseSlot s

/-! ### Blocks (R46, R47) -/

/-- The header tests of R47: the block index, the rate code and the copy status of header A. -/
def headerOk (b : Nat) (a : Word) : Bool := headIndex a == b && headRate a != 3 && headStatus a != 3

/-- The status R47 gives block `b`, `v` being the value written to word 131. -/
def BlockRec.judge (x : BlockRec) (b : Nat) (v : Word) : BlockStatus :=
  if x.seen ≠ 132 then .missing
  else if x.sums.s1 ≠ x.w130.toNat ∨ x.sums.s2 ≠ v.toNat then .bad
  else if headerOk b x.headA then .good else .bad

/-- A write of `v` to word `j` of block `b` taken into the block's record (R46, R47). -/
def BlockRec.take (x : BlockRec) (b j : Nat) (v : Word) : BlockRec :=
  let x1 : BlockRec :=
    if j = 0 then { x with status := .filling, sums := { s1 := 0, s2 := 0 }, seen := 0 }
    else if x.status = .empty then { x with status := .filling } else x
  let x2 : BlockRec :=
    { x1 with
      seen := min 133 (x1.seen + 1)
      sums := if j < 130 then x1.sums.update j 0 v else x1.sums
      headA := if j = 0 then v else x1.headA
      headB := if j = 1 then v else x1.headB
      w130 := if j = 130 then v else x1.w130 }
  if j = 131 then { x2 with status := x2.judge b v } else x2

/-- The block has been judged. -/
def BlockStatus.settled : BlockStatus → Bool
  | .good => true
  | .bad => true
  | .missing => true
  | .empty => false
  | .filling => false

/-- Slot `k`, if FILLING, goes to EVALUATING and waits its turn (R43, R44, R47, R48). -/
def State.sendToEvaluation (s : State) (k : Fin 4) : State :=
  if s.tape.slots[k].state = .filling then
    ((s.modTapeSlot k fun x => { x with state := .evaluating }).modTape fun t =>
      { t with evalQueue := t.evalQueue ++ [k] }).markPlayback
  else s

/-- Slot `k` begins to fill, with every block record at its reset value (R42, R43). -/
def State.beginFill (s : State) (k : Fin 4) : State :=
  (s.modTapeSlot k fun x => { x with state := .filling, blocks := Vector.replicate 14 BlockRec.reset }).markPlayback

/-- The formatter's write passed and taken into the FILLING slot `k` (R42, R46), the slot tested after word 131 (R47). -/
def State.takeTapeWord (s : State) (k : Fin 4) (b j : Nat) (v : Word) : State :=
  let x := vget s.tape.slots[k].blocks b BlockRec.reset
  let y := x.take b j v
  let s1 := (s.upPoke (s.tapeAddr k (slotOffset b j)) v).treat .passed
  let s2 := s1.modTapeSlot k fun sl => { sl with blocks := vput sl.blocks b y }
  let s3 := if x.status = y.status then s2 else s2.markPlayback
  if j = 131 ∧ (s3.tape.slots[k].blocks.toList.all fun r => r.status.settled) = true then s3.sendToEvaluation k else s3

/-! ### The lock machine (R52 to R55) -/

/-- The step of the lock machine by a frame of good count `g` and address `a`, `q` being the lock quorum and `limit` the
flywheel limit, with the cause it raises (R53 to R55). -/
def Lock.step (x : Lock) (q limit g : Nat) (a : Option Nat) : Lock × Option Cause :=
  let onward := nextFrame x.expected
  let after := match a with
    | some f => nextFrame f
    | none => onward
  let quorum := decide (q ≤ g) && a.isSome
  let expectedHere := a == some x.expected
  match x.state with
  | .search =>
    if quorum then ({ x with state := .acquire, expected := after, run := 1 }, none) else (x, none)
  | .acquire =>
    if quorum && expectedHere then
      if x.run + 1 = 3 then
        ({ x with state := .locked, run := 3, expected := after, mismatch := 0, flywheel := 0 }, some .lockGained)
      else ({ x with run := x.run + 1, expected := after }, none)
    else ({ x with state := .search, run := 0 }, none)
  | .locked =>
    if g = 0 then ({ x with state := .flywheel, flywheel := 1, expected := onward }, none)
    else if expectedHere then ({ x with mismatch := 0, expected := onward }, none)
    else if quorum then
      if x.mismatch + 1 = 2 then
        ({ x with state := .acquire, expected := after, run := 1, mismatch := 0 }, some .lockLost)
      else ({ x with mismatch := x.mismatch + 1, expected := onward }, none)
    else ({ x with expected := onward }, none)
  | .flywheel =>
    if decide (1 ≤ g) && expectedHere then
      ({ x with state := .locked, flywheel := 0, mismatch := 0, expected := onward }, none)
    else if decide (1 ≤ g) && quorum then
      ({ x with state := .acquire, expected := after, run := 1, flywheel := 0 }, some .lockLost)
    else if limit < x.flywheel + 1 then
      ({ x with state := .search, run := 0, flywheel := 0, expected := onward }, some .lockLost)
    else ({ x with flywheel := x.flywheel + 1, expected := onward }, none)

/-- A raise of the cause, if there is one. -/
def State.raiseOpt (s : State) (c : Option Cause) : State :=
  match c with
  | some x => s.raise x
  | none => s

/-- The lock state or the expected address, the fields of the playback status record, differ (R171). -/
def Lock.differs (x y : Lock) : Bool := x.state != y.state || x.expected != y.expected

/-- The lock machine stepped by a frame, and its change handed to the monitor selector and the report unit (R52). -/
def State.lockStep (s : State) (g : Nat) (a : Option Nat) : State :=
  let t := s.tape.lock.step s.settings.quorum s.settings.flywheel g a
  (((s.modTape fun x => { x with lock := t.1 }).markPlaybackIf (t.1.differs s.tape.lock)).raiseOpt t.2).rejudge

/-! ### The error-rate monitor (R56, R57) -/

/-- The sum of the error-rate window (R56). -/
def Assembler.windowSum (t : Assembler) : Nat := t.window.sum

/-- The window after a push of `d`, of at most `w` entries (R56). -/
def pushWindow (l : List Nat) (w d : Nat) : List Nat := if w < l.length + 1 then l.tail ++ [d] else l ++ [d]

/-- The test of R57: ERROR_RATE raised, or the monitor armed again. -/
def State.rateTest (s : State) : State :=
  if s.settings.thresh < s.tape.windowSum ∧ s.tape.lock.state = .locked ∧ s.tape.rateArmed = true then
    ((s.modTape fun t => { t with rateArmed := false }).raise .errorRate).bump .errorRate
  else if s.tape.windowSum ≤ s.settings.thresh / 2 then s.modTape fun t => { t with rateArmed := true }
  else s

/-- A damage count pushed into the error-rate window, and the test made; the playback status record is marked where the
sum changes (R56, R57, R171). -/
def State.pushDamage (s : State) (d : Nat) : State :=
  let s1 := s.modTape fun t => { t with window := pushWindow t.window s.settings.window d }
  (s1.markPlaybackIf (s1.tape.windowSum != s.tape.windowSum)).rateTest

/-- `n` gap frames step the lock machine in turn (R44). -/
def State.gapSteps (s : State) : Nat → State
  | 0 => s
  | n + 1 => (s.lockStep 0 none).gapSteps n

/-- `n` gap frames push their counts (R44). -/
def State.gapPushes (s : State) : Nat → State
  | 0 => s
  | n + 1 => (s.pushDamage 14).gapPushes n

/-! ### Formatter writes (R42 to R45) -/

/-- The next slot in ring order (R42). -/
def nextSlot (k : Fin 4) : Fin 4 := k + 1

/-- The fill pointer advances to the next slot, which begins to fill, and the write is taken (R43). -/
def State.advanceFill (s : State) (b j : Nat) (v : Word) : State :=
  let n := nextSlot s.tape.fillPtr
  (((s.sendToEvaluation s.tape.fillPtr).modTape fun t => { t with fillPtr := n }).beginFill n).takeTapeWord n b j v

/-- An overrun begins on the next slot; the write is dropped (R44). -/
def State.beginOverrun (s : State) : State :=
  (((((s.sendToEvaluation s.tape.fillPtr).raise .playOverrun).bump .playOverrun).modTape fun t =>
    { t with wait := some 0, sticky := true }).markPlaybackIf (!s.tape.sticky)).treat .dropped

/-- A stray write, dropped (R45). -/
def State.strayWrite (s : State) : State := ((s.raise .strayWrite).bump .strayWrite).treat .dropped

/-- A write during an overrun wait with gap count `gap` (R44). -/
def State.waitWrite (s : State) (gap : Nat) (k b j : Nat) (v : Word) : State :=
  let n := nextSlot s.tape.fillPtr
  if k = n.val ∧ s.tape.slots[n].state = .free then
    (((s.gapSteps gap).gapPushes gap).modTape fun t => { t with wait := none }).advanceFill b j v
  else if b = 13 ∧ j = 131 then (s.modTape fun t => { t with wait := some (min 64 (gap + 1)) }).treat .dropped
  else s.treat .dropped

/-- A write outside an overrun wait, classified against the fill pointer (R42). -/
def State.fillWrite (s : State) (k b j : Nat) (v : Word) : State :=
  let p := s.tape.fillPtr
  let n := nextSlot p
  if k = p.val then
    match s.tape.slots[p].state with
    | .free => (s.beginFill p).takeTapeWord p b j v
    | .filling => s.takeTapeWord p b j v
    | .evaluating => s.strayWrite
    | .complete => s.strayWrite
  else if k = n.val then
    if s.tape.slots[n].state = .free then s.advanceFill b j v else s.beginOverrun
  else s.strayWrite

/-- A formatter write at offset `y` of the off-tape image while playback is RUNNING (R42). -/
def State.formatterWrite (s : State) (y : Nat) (v : Word) : State :=
  match s.tape.wait with
  | some gap => s.waitWrite gap (imageSlot y) (imageBlock y) (imageWord y) v
  | none => s.fillWrite (imageSlot y) (imageBlock y) (imageWord y) v

/-! ### Frame evaluation (R48 to R51) -/

/-- An unfinished block becomes MISSING (R49 stage 1). -/
def BlockRec.closeOff (x : BlockRec) : BlockRec := if x.status.settled then x else { x with status := .missing }

/-- A block's frame address (R8, R47). -/
def BlockRec.frame (x : BlockRec) : Nat := headFrame x.headA x.headB

/-- The GOOD blocks of a list, in block order. -/
def goodBlocks (l : List BlockRec) : List BlockRec := l.filter fun x => x.status == .good

/-- The address with the greatest number of votes; among several, the expected address if it is one of them, else the
smallest (R49 stage 2). -/
def voteWinner (expected : Nat) (votes : List Nat) : Nat :=
  let most := (votes.map fun a => votes.count a).foldl max 0
  let top := votes.filter fun a => votes.count a == most
  if top.contains expected then expected else top.foldl min (top.headD 0)

/-- A GOOD block of another address becomes BAD (R49 stage 3). -/
def BlockRec.strike (winner : Nat) (x : BlockRec) : BlockRec :=
  if x.status = .good ∧ x.frame ≠ winner then { x with status := .bad } else x

/-- The number of blocks of a status. -/
def countStatus (l : List BlockRec) (st : BlockStatus) : Nat := (l.filter fun x => x.status == st).length

/-- The correctability of a group from the count of its blocks that are not GOOD (R49 stage 5). -/
def corrOfCount (n : Nat) : Corr := if n = 0 then .clean else if n = 1 then .correctable else .uncorrectable

/-- The blocks of group `g` that are not GOOD, parity block included (R49 stage 5). -/
def notGood (l : List BlockRec) (g : Nat) : Nat :=
  ((l.zipIdx).filter fun x => x.1.status != .good && groupOf x.2 == g).length

/-- The block records after stages 1 to 3 of R49. -/
def judgedBlocks (expected : Nat) (blocks : Vector BlockRec 14) : Vector BlockRec 14 :=
  let closed := vimap (fun _ x => x.closeOff) blocks
  let winner := voteWinner expected ((goodBlocks closed.toList).map BlockRec.frame)
  vimap (fun _ x => x.strike winner) closed

/-- The slot as R49 and R50 judge it, `x` being the lock machine and `rate`, `st` the carried subcode. -/
def TapeSlot.judged (sl : TapeSlot) (x : Lock) (rate : Nat) (st : CopyStatus) : TapeSlot :=
  let bs := judgedBlocks x.expected sl.blocks
  let sl1 : TapeSlot :=
    { sl with
      blocks := bs
      good := (goodBlocks bs.toList).length
      corrA := corrOfCount (notGood bs.toList 0)
      corrB := corrOfCount (notGood bs.toList 1) }
  match goodBlocks bs.toList with
  | [] =>
    if x.state = .locked ∨ x.state = .flywheel then { sl1 with frame := x.expected, rate := rate, status := st } else sl1
  | y :: _ =>
    { sl1 with
      frame := y.frame
      rate := headRate y.headA
      status := mostRestrictive ((goodBlocks bs.toList).map fun z => CopyStatus.ofCode (headStatus z.headA)) }

/-- R50 discards a frame with no GOOD block in SEARCH or ACQUIRE. -/
def TapeSlot.discarded (sl : TapeSlot) (x : Lock) : Bool :=
  sl.good == 0 && (x.state == .search || x.state == .acquire)

/-- The engine takes slot `k`: the judgement of R49 and R50 with its counters (R48). -/
def State.takeEvaluation (s : State) (k : Fin 4) (rest : List (Fin 4)) : State :=
  let x := s.tape.slots[k]
  let y := x.judged s.tape.lock s.tape.carriedRate s.tape.carriedStatus
  let bad := countStatus y.blocks.toList .bad
  let missing := countStatus y.blocks.toList .missing
  let strays := (goodBlocks x.blocks.toList).length - y.good
  let s1 := (s.modTapeSlot k fun _ => y).modTape fun t =>
    { t with evalQueue := rest, eval := some { slot := k, discard := y.discarded t.lock, damage := bad + missing, done := 0 } }
  ((s1.count .strayBlock strays).count .blocksBad bad).count .blocksMissing missing

/-- A frame discarded at the end of its evaluation: the slot goes FREE and the frame is counted lost (R50, R51). -/
def State.loseFrame (s : State) (k : Fin 4) : State :=
  (s.modTapeSlot k fun x => { x with state := .free }).bump .framesLost

/-- Another off-tape slot is COMPLETE with slot `k`'s address (R51). -/
def Assembler.duplicates (t : Assembler) (k : Fin 4) : Bool :=
  slotNumbers.any fun n => n != k && t.slots[n].state == .complete && t.slots[n].frame == t.slots[k].frame

/-- The frame of slot `k` accepted: COMPLETE, at the tail of the monitor queue, its subcode carried (R51). -/
def State.acceptFrame (s : State) (k : Fin 4) : State :=
  let x := s.tape.slots[k]
  let s1 := (s.modTapeSlot k fun y => { y with state := .complete }).modMon fun m => { m with queue := m.queue ++ [k] }
  if 1 ≤ x.good then s1.modTape fun t => { t with carriedRate := x.rate, carriedStatus := x.status } else s1

/-- The end of an evaluation that R50 has not discarded (R51). -/
def State.settleFrame (s : State) (j : EvalJob) : State :=
  let x := s.tape.slots[j.slot]
  let s1 := if s.tape.duplicates j.slot then (s.loseFrame j.slot).raise .duplicate else s.acceptFrame j.slot
  ((s1.lockStep x.good (some x.frame)).pushDamage j.damage).locateTest x.frame

/-- The end of an evaluation (R50, R51). -/
def State.finishEvaluation (s : State) (j : EvalJob) : State :=
  let s0 := s.modTape fun t => { t with eval := none }
  if j.discard then ((s0.loseFrame j.slot).markPlayback.lockStep 0 none).pushDamage 14
  else (s0.settleFrame j).markPlayback

/-! ### Run state and soft reset (R39, R40, R59) -/

/-- The lock variables at their reset values and the error-rate window cleared, its monitor armed (R52, R56, R57). -/
def Assembler.restLock (t : Assembler) : Assembler := { t with lock := Lock.reset, window := [], rateArmed := true }

/-- Every evaluation abandoned and every slot FREE, without discard; any overrun wait ended (R40, R59). -/
def Assembler.emptyRing (t : Assembler) : Assembler :=
  { t with slots := vimap (fun _ x => { x with state := .free }) t.slots, evalQueue := [], eval := none, wait := none }

/-- Both playback halves unbound, the last half read none, the queue empty (R40, R59, R85). -/
def Monitor.unbind (m : Monitor) : Monitor := { m with halves := Vector.replicate 2 none, lastHalf := none, queue := [] }

/-- What an abandoned evaluation leaves of the holds that waited for it: a decode request of a playback-window read is
concealed (R48, R76), and a turnover binds nothing and is left to be delivered (R82). -/
def HoldKind.abandoned : HoldKind → HoldKind
  | .init => .init
  | .guard => .guard
  | .closing => .closing
  | .decodeWrite => .decodeWrite
  | .decodeRead => .conceal
  | .turnover => .decodeRead
  | .conceal => .conceal

/-- The held transaction, where there is one, as PLAY_STOP and SOFT_RESET PLAYBACK leave it. That a decode request is concealed
whatever effective source the command leaves (R76) and not answered by that source (R89): DESIGN CHOICE (assumption 34). -/
def BusPath.abandonReads (b : BusPath) : BusPath :=
  { b with held := b.held.map fun h => { h with kind := h.kind.abandoned } }

/-- PLAY_START (R39, R50, R85). -/
def State.playStart (s : State) : State × Result :=
  if s.tape.run = .running ∨ s.bus.valid = false then (s, .state)
  else
    let s1 := s.modTape fun t =>
      { t.restLock with fillPtr := 0, wait := none, run := .running, carriedRate := 0, carriedStatus := .free }
    (((s1.modMon fun m => { m with lastHalf := none }).markPlayback).rejudge, .done)

/-- PLAY_STOP (R40, R85). -/
def State.playStop (s : State) : State × Result :=
  if s.tape.run = .stopped ∨ (s.coder.job = .recording ∧ s.coder.mode = .insert) then (s, .state)
  else
    let s1 := s.modTape fun t => { t.emptyRing.restLock with fillPtr := 0, run := .stopped }
    ((((s1.modMon Monitor.unbind).modBus BusPath.abandonReads).markPlayback).rejudge, .done)

/-- SOFT_RESET PLAYBACK (R59, R74, R85). Where the reset changes the effective source the output status follows it by R89 and
R137, as R138 has it, although R143 says that the reset leaves copy control's state as it stands: DESIGN CHOICE
(assumption 30). -/
def State.resetPlayback (s : State) : State :=
  let s1 := s.modTape fun t => { t.emptyRing.restLock with carriedRate := 0, carriedStatus := .free }
  let s2 := s1.modDec fun d => { d with mon := Vector.replicate 2 Ctx.reset }
  (((s2.modMon Monitor.unbind).modBus BusPath.abandonReads).markPlayback).rejudge

end Sys2Proof.Machine
end

