-- ==== Sys2Proof/Machine/Record.lean ====
section
/-! DEFINITION. The record coder and the close engine: the record job, the record-window halves, word stores, turnover,
overrun, close, release, stop and soft reset (R16 to R38). -/

namespace Sys2Proof.Machine

/-! ### Record-window offsets (R21) -/

/-- The half a window offset falls in (R21, R80). -/
def halfOf (o : Nat) : Fin 2 := if o / Config.halfWords = 0 then 0 else 1

/-- The pair a window offset names (R21, R80). -/
def pairIn (o : Nat) : Nat := o % Config.halfWords / 2

/-- The channel a window offset names (R21, R80). -/
def chanIn (o : Nat) : Fin 2 := if o % Config.halfWords % 2 = 0 then 0 else 1

/-! ### Close (R31 to R33) -/

/-- The close engine's work on a slot as its close begins (R32). -/
def RecSlot.closeJob (x : RecSlot) (k : Fin 4) : CloseJob :=
  { slot := k, fill := x.fillList, underrun := !x.full, status := none, done := 0 }

/-- The close engine takes slot `k` (R31). -/
def State.startClose (s : State) (k : Fin 4) : State :=
  ((s.modCoder fun c => { c with close := some (c.slots[k].closeJob k) }).modRecSlot k fun x =>
    { x with state := .closing, closePending := false }).markRecord

/-- The close of the OPEN slot `k` begins, or waits behind a running one (R31). -/
def State.beginClose (s : State) (k : Fin 4) : State :=
  match s.coder.close with
  | none => s.startClose k
  | some _ => s.modRecSlot k fun x => { x with closePending := true }

/-- The slot the current half is bound to, while that slot is OPEN (R26, R35). -/
def RecordCoder.currentOpen (c : RecordCoder) : Option (Fin 4) :=
  match c.curHalf with
  | none => none
  | some h =>
    match c.halves[h] with
    | .slot k _ => if c.slots[k].state = .opened then some k else none
    | _ => none

/-- The current half left: the close of the OPEN slot it is bound to begins (R26 step 1). -/
def State.leaveHalf (s : State) : State :=
  match s.coder.currentOpen with
  | some k => s.beginClose k
  | none => s

/-- A STOPPING job goes IDLE once no slot is OPEN or CLOSING (R16, R33, R35). -/
def State.restJob (s : State) : State :=
  if s.coder.job = .stopping ∧ s.coder.unfinished = false then
    ((s.modCoder fun c => { c with job := .idle }).markRecord).rejudge
  else s

/-- The effects of a stop on a RECORDING job: RECORD_STOP and the range end (R29, R35, R58, R110). -/
def State.stopJob (s : State) : State :=
  let s1 := (s.leaveHalf.modCoder fun c => { c with job := .stopping, latch := none }).markRecord
  let s2 := (s1.modEdit EditEngine.stop).markEdit
  s2.retestHolds.rejudge.restJob

/-! ### Opening frames (R20, R22, R27, R30) -/

/-- Frame R opened in the slot at the ring pointer (R20), with the frame-open events of copy control and of the off-tape
assembler. -/
def State.openFrame (s : State) : State :=
  let k := s.coder.ringPtr
  let old := s.coder.mode == .insert && s.copy.isProtected s.coder.r
  let s1 := s.modCoder fun c =>
    { c with
      slots := vset c.slots k { RecSlot.reset with state := .opened, frame := c.r, rate := s.settings.rate, oldOnly := old }
      ringPtr := k + 1 }
  let s2 := s1.modCopy fun c => { c with contrib := vset c.contrib k Contribution.reset }
  s2.samplePermission.retestHolds.markRecord

/-- Half `h` bound. -/
def State.bindHalf (s : State) (h : Fin 2) (b : Binding) : State :=
  s.modCoder fun c => { c with halves := vset c.halves h b }

/-- The effects of an overrun frame besides its binding (R27). -/
def State.recordOverrun (s : State) : State :=
  (((s.raise .recordOverrun).bump .recordOverrun).modCoder fun c => { c with sticky := true }).markRecordIf
    (!s.coder.sticky)

/-- Frame R begun in half `h`, which becomes the current half (R22, R26 step 4, R27, R30). -/
def State.beginFrame (s : State) (h : Fin 2) : State :=
  let s0 := s.modCoder fun c => { c with curHalf := some h }
  let r := s.coder.r
  if s.coder.mode = .assemble ∧ s.copy.isProtected r = true then
    (s0.bindHalf h (.absorbed r)).raise .protectedFrame
  else if s.coder.slots[s.coder.ringPtr].state = .free then
    (s0.openFrame.bindHalf h (.slot s.coder.ringPtr r)).raiseIf (s.copy.isProtected r) .protectedFrame
  else s0.recordOverrun.bindHalf h (.absorbed r)

/-! ### Storing a word (R23 to R25) -/

/-- The latch holds position (R, n) (R25). -/
def RecordCoder.latchHolds (c : RecordCoder) (n : Nat) : Bool :=
  c.latch.any fun l => l.frame == c.r && l.pair == n

/-- The old values of both channels of (R, n) fetched through the MIX contexts into the latch, each with its source status
(R25 step 1, R128). -/
def State.fetchOld (s : State) (n : Nat) : State :=
  let s1 := (s.mixRequest s.coder.r n 0).mixRequest s.coder.r n 1
  s1.modCoder fun c =>
    { c with
      latch := some { frame := c.r, pair := n, old := #v[s1.dec.mix[(0 : Fin 2)].last, s1.dec.mix[(1 : Fin 2)].last],
                      source := c.source } }

/-- A word write needs an old-audio fetch: INSERT mode and another position in the latch, or none (R25). -/
def RecordCoder.needsFetch (c : RecordCoder) (n : Nat) : Bool := c.mode == .insert && !c.latchHolds n

/-- The latched old value of channel `c` (R25). -/
def RecordCoder.oldValue (x : RecordCoder) (c : Fin 2) : Word := (x.latch.map fun l => l.old[c]).getD 0

/-- The latched source status of channel `c` (R128). -/
def RecordCoder.oldSource (x : RecordCoder) (c : Fin 2) : CopyStatus := (x.latch.map fun l => l.source[c]).getD .free

/-- The stored word of (n, c) in slot `k` from the resolved new value, by the mode and the slot's mark (R23). -/
def State.settleWord (s : State) (k : Fin 4) (n : Nat) (c : Fin 2) (new : Word) : Stored :=
  match s.coder.mode with
  | .assemble => Stored.ofNew new
  | .insert =>
    if s.coder.slots[k].oldOnly then Stored.ofOld (s.coder.oldValue c)
    else storedWord s.edit.punch s.edit.trans (position s.coder.r n) new (s.coder.oldValue c)

/-- The word of the record image at offset `off` of slot `k`, where its map entry is set, else 0 (R24). -/
def State.recOld (s : State) (k : Fin 4) (off : Nat) (set : Bool) : Word := if set then s.peek (s.recAddr k off) else 0

/-- The six steps of R24: word `x` stored at payload position `p` of block `b` of slot `k`, with its parity, check sums
and maps. -/
def State.storeWord (s : State) (k : Fin 4) (b p : Nat) (x : Word) : State :=
  let sl := s.coder.slots[k]
  let pb := parityBlock b
  let g := groupOf b
  let d := s.recOld k (slotOffset b (2 + p)) (sl.isWritten b p)
  let t := s.recOld k (slotOffset pb (2 + p)) (sl.isTouched g p)
  let y := t ^^^ d ^^^ x
  let reads := (if sl.isWritten b p then 1 else 0) + (if sl.isTouched g p then 1 else 0)
  let s1 := ((s.poke (s.recAddr k (slotOffset b (2 + p))) x).poke (s.recAddr k (slotOffset pb (2 + p))) y).addAccesses
    (2 + reads)
  let zero : Sums := { s1 := 0, s2 := 0 }
  let sumsB := (vget sl.sums b zero).update (2 + p) d x
  let sums1 := vput sl.sums b sumsB
  let sums2 := vput sums1 pb ((vget sums1 pb zero).update (2 + p) t y)
  (s1.modRecSlot k fun z =>
    { z with sums := sums2, written := setEntry z.written b p, touched := setEntry z.touched g p }).markRecord

/-- A word of (n, c) resolved, settled, noted and stored in slot `k` (R23, R24, R129, R134, R135). -/
def State.settleAndStore (s : State) (k : Fin 4) (n : Nat) (c : Fin 2) (v : Word) : State :=
  let refused := s.copy.recording == .none && !s.coder.slots[k].oldOnly
  let w := s.settleWord k n c (resolve s.copy.recording v)
  let s1 := if refused then s.refuse k else s
  let s2 := s1.modCopy fun x =>
    { x with contrib := vmod x.contrib k fun z =>
        z.add w.wNew w.wOld (s.copy.recording == .none) (recordedStatus s.copy.recording) (s.coder.oldSource c) }
  ((if w.saturated then s2.bump .saturation else s2).storeWord k (blockOf n c.val) (posOf n) w.word).treat .translated

/-- A first-write pair event: neither channel of pair `n` has its payload-written entry set (R25). -/
def RecSlot.firstWrite (x : RecSlot) (n : Nat) : Bool :=
  !x.isWritten (blockOf n 0) (posOf n) && !x.isWritten (blockOf n 1) (posOf n)

/-- A word write of (n, c) to the OPEN slot `k` (R25 steps 1 to 3). -/
def State.wordWrite (s : State) (k : Fin 4) (n : Nat) (c : Fin 2) (v : Word) : State :=
  let s1 := if s.coder.needsFetch n then s.fetchOld n else s
  let s2 :=
    if s.coder.slots[k].firstWrite n then
      s1.pairEvent (position s.coder.r n)
        (if s.coder.mode = .insert then some #v[s1.coder.oldValue 0, s1.coder.oldValue 1] else none)
    else s1
  s2.settleAndStore k n c v

/-! ### Record-window writes and reads (R21, R26 to R29, R36, R37) -/

/-- The input echo takes a value (R91). -/
def State.echoIn (s : State) (c : Fin 2) (v : Word) : State := s.modMon fun m => { m with echo := vset m.echo c v }

/-- The transaction held (R152). -/
def State.hold (s : State) (t : Txn) (k : HoldKind) : State :=
  (s.modBus fun b => { b with held := some { txn := t, kind := k } }).treat .held

/-- A write taken in the current half `h`, by that half's binding (R21); it is held where it needs an old-audio fetch and
a slot is EVALUATING (R48). A current half bound to no OPEN slot is reached by no run, and absorbs (assumption 19). -/
def State.landWrite (s : State) (t : Txn) (h : Fin 2) (n : Nat) (c : Fin 2) (v : Word) : State :=
  match s.coder.halves[h] with
  | .slot k _ =>
    if s.coder.slots[k].state = .opened then
      if s.coder.needsFetch n && s.tape.evaluating then s.hold t .decodeWrite
      else (s.echoIn c v).wordWrite k n c v
    else (s.echoIn c v).treat .absorbed
  | .absorbed _ => (s.echoIn c v).treat .absorbed
  | .unbound => (s.echoIn c v).treat .absorbed

/-- The slot a half is bound to is CLOSING (R28). -/
def RecordCoder.halfClosing (c : RecordCoder) (h : Fin 2) : Bool :=
  match c.halves[h] with
  | .slot k _ => c.slots[k].state == .closing
  | _ => false

/-- The range end (R29). -/
def State.rangeEnd (s : State) (c : Fin 2) (v : Word) : State :=
  ((((s.echoIn c v).leaveHalf).raise .rangeEnd).stopJob).treat .dropped

/-- A turnover into half `h` (R26). -/
def State.turnover (s : State) (t : Txn) (h : Fin 2) (n : Nat) (c : Fin 2) (v : Word) : State :=
  if s.coder.r = Config.maxFrame then s.rangeEnd c v
  else
    let s1 := (s.leaveHalf.modCoder fun x => { x with r := x.r + 1, latch := none }).markRecord
    (s1.beginFrame h).landWrite t h n c v

/-- A record-window write dropped while the job is IDLE or STOPPING (R36). -/
def State.idleWrite (s : State) (c : Fin 2) (v : Word) : State := ((s.echoIn c v).raise .idleWrite).treat .dropped

/-- A record-window write at offset `o`, taken by the job state, the half it lands in and that half's binding (R21). -/
def State.recordWrite (s : State) (t : Txn) (o : Nat) (v : Word) : State :=
  let h := halfOf o
  let n := pairIn o
  let c := chanIn o
  if s.coder.job = .recording then
    match s.coder.curHalf with
    | none => (s.beginFrame h).landWrite t h n c v
    | some cur =>
      if h = cur then s.landWrite t h n c v
      else if s.coder.halfClosing h then s.hold t .closing
      else s.turnover t h n c v
  else s.idleWrite c v

/-- The word a record-window read at offset `o` returns (R37). -/
def State.recordReadWord (s : State) (o : Nat) : Word :=
  match s.coder.halves[halfOf o] with
  | .slot k _ =>
    let b := blockOf (pairIn o) (chanIn o).val
    let p := posOf (pairIn o)
    s.recOld k (slotOffset b (2 + p)) (s.coder.slots[k].isWritten b p)
  | _ => 0

/-- The memory accesses of a record-window read: one for an entry that is set (R37, R155). -/
def State.recordReadCost (s : State) (o : Nat) : Nat :=
  match s.coder.halves[halfOf o] with
  | .slot k _ => if s.coder.slots[k].isWritten (blockOf (pairIn o) (chanIn o).val) (posOf (pairIn o)) then 1 else 0
  | _ => 0

/-- A record-window read (R37). -/
def State.recordRead (s : State) (o : Nat) : State :=
  (s.addAccesses (s.recordReadCost o)).answer .answered (s.recordReadWord o)

/-! ### Release (R34) -/

/-- The binding with a binding to slot `k` ended (R21). -/
def Binding.unbindFrom (b : Binding) (k : Fin 4) : Binding :=
  match b with
  | .slot n f => if n = k then .unbound else .slot n f
  | x => x

/-- A READY slot goes FREE at the read of its final word (R34). -/
def State.releaseRecord (s : State) (k : Fin 4) : State :=
  ((s.modRecSlot k fun x => { x with state := .free }).modCoder fun c =>
    { c with halves := vimap (fun _ b => b.unbindFrom k) c.halves }).markRecord

/-- The slot whose final word is at image offset `y`, if it is one (R34). -/
def finalWordOf (y : Nat) : Option (Fin 4) :=
  slotNumbers.find? fun k => y == Config.slotWords * k.val + 1847

/-- A read at offset `y` of the record image watched for the final-word release (R34). -/
def State.watchRelease (s : State) (y : Nat) : State :=
  match finalWordOf y with
  | some k => if s.coder.slots[k].state = .ready then s.releaseRecord k else s
  | none => s

/-! ### The close engine's accesses (R32, R33) -/

/-- The engine has accesses still to make. -/
def CloseJob.wanting (j : CloseJob) : Bool := !j.fill.isEmpty || decide (j.done < 56)

/-- The close engine waits for the port (R153). -/
def RecordCoder.closeWaiting (c : RecordCoder) : Bool := c.close.any CloseJob.wanting

/-- The close job replaced. -/
def State.setClose (s : State) (j : CloseJob) : State := s.modCoder fun c => { c with close := some j }

/-- Stages 2 and 3 of R32, before the first header word: UNDERRUN, and the frame's copy status (R136). -/
def State.closeStages (s : State) (j : CloseJob) : State :=
  match j.status with
  | some _ => s
  | none =>
    let s1 := if j.underrun then (s.raise .underrun).bump .recordUnderrun else s
    s1.setClose { j with status := some s.copy.contrib[j.slot].decided }

/-- The `n`-th of the 28 header words: word 0 or 1 of block n/2 (R32 stage 4). -/
def RecSlot.headWord (x : RecSlot) (n : Nat) (st : CopyStatus) : Word :=
  if n % 2 = 0 then headerA (n / 2) x.rate st x.frame else headerB x.frame

/-- A block's check sums completed with its headers (R15). -/
def RecSlot.completeSums (x : RecSlot) (b : Nat) (st : CopyStatus) : Sums :=
  ((vget x.sums b { s1 := 0, s2 := 0 }).update 0 0 (headerA b x.rate st x.frame)).update 1 0 (headerB x.frame)

/-- One header or check write of the close (R32 stages 4 and 5): 28 header words, then S1 and S2 of each block. -/
def State.closeHead (s : State) (j : CloseJob) (st : CopyStatus) : State :=
  let k := j.slot
  let x := s.coder.slots[k]
  let s0 := s.setClose { j with status := some st, done := j.done + 1 }
  if j.done < 28 then s0.poke (s.recAddr k (slotOffset (j.done / 2) (j.done % 2))) (x.headWord j.done st)
  else
    let b := (j.done - 28) / 2
    if j.done % 2 = 0 then
      let σ := x.completeSums b st
      (s0.modRecSlot k fun z => { z with sums := vput z.sums b σ }).poke (s.recAddr k (slotOffset b 130)) (word σ.s1)
    else s0.poke (s.recAddr k (slotOffset b 131)) (word (vget x.sums b { s1 := 0, s2 := 0 }).s2)

/-- One access of the close engine (R32). -/
def State.closeAccess (s : State) (j : CloseJob) : State :=
  match j.fill with
  | o :: rest => (s.poke (s.recAddr j.slot o) 0).setClose { j with fill := rest }
  | [] =>
    (s.closeStages j).closeHead j (j.status.getD s.copy.contrib[j.slot].decided)

/-- The slot that waits with its close-pending mark (R31). -/
def RecordCoder.pendingClose (c : RecordCoder) : Option (Fin 4) :=
  slotNumbers.find? fun k => c.slots[k].state == .opened && c.slots[k].closePending

/-- The READY marking and what follows at the close's end (R33). -/
def State.finishClose (s : State) (j : CloseJob) : State :=
  let s1 := (((s.modCoder fun c => { c with close := none }).modRecSlot j.slot fun x =>
    { x with state := .ready }).markRecord).bump .framesRecorded
  (match s1.coder.pendingClose with
    | some k => s1.startClose k
    | none => s1).restJob

/-! ### The record commands (R17, R18, R35, R38) -/

/-- The effects of a taken RECORD_START (R18, R62, R110, R133). -/
def State.startRecording (s : State) (mode : RecMode) (a : Nat) : State :=
  let s1 := (s.seal.samplePermission.modEdit fun e => e.start mode).markEdit
  let s2 := s1.modCoder fun c =>
    { c with
      job := .recording, mode := mode, r := a, halves := Vector.replicate 2 .unbound, curHalf := none, latch := none,
      recPos := none }
  ((s2.modDec fun d => { d with rateMark := none }).markRecord).rejudge

/-- RECORD_START judged and taken (R17, R18). -/
def State.recordStart (s : State) (mode : BitVec 2) (hi lo : Word) : State × Result :=
  if s.coder.job ≠ .idle then (s, .state)
  else if s.bus.valid = false then (s, .state)
  else if 2 ≤ mode.toNat ∨ Config.maxFrame < frameOf hi lo then (s, .range)
  else if mode = 0 ∧ s.copy.isProtected (frameOf hi lo) = true then (s, .prot)
  else (s.startRecording (if mode = 0 then .assemble else .insert) (frameOf hi lo), .done)

/-- RECORD_STOP (R35). -/
def State.recordStop (s : State) : State × Result :=
  if s.coder.job = .recording then (s.stopJob, .done) else (s, .state)

/-- An OPEN or CLOSING slot freed, its maps and sums as they stand (R38). -/
def RecSlot.abandon (x : RecSlot) : RecSlot :=
  if x.state = .opened ∨ x.state = .closing then { x with state := .free, closePending := false }
  else { x with closePending := false }

/-- A half's binding after SOFT_RESET RECORD: kept where its slot is READY (R38). -/
def RecordCoder.keptBinding (c : RecordCoder) (b : Binding) : Binding :=
  match b with
  | .slot k f => if c.slots[k].state = .opened ∨ c.slots[k].state = .closing then .unbound else .slot k f
  | _ => .unbound

/-- SOFT_RESET RECORD changes a field of the record status record: the job, or an OPEN or CLOSING slot (R38, R171). -/
def RecordCoder.restless (c : RecordCoder) : Bool := c.job != .idle || c.unfinished

/-- SOFT_RESET RECORD (R38, R58, R62, R74, R110, R128). The edit status record is rewritten at a change of the job (R110)
and where one of its fields changes (R171). Where the reset changes the effective source the output status follows it by
R89 and R137, although R143 says that the reset does not change it: DESIGN CHOICE (assumption 30). -/
def State.resetRecord (s : State) : State :=
  let s1 := s.modCoder fun c =>
    { c with
      close := none, slots := vimap (fun _ x => x.abandon) c.slots, halves := vimap (fun _ b => c.keptBinding b) c.halves,
      curHalf := none, job := .idle, latch := none, source := Vector.replicate 2 .free }
  let s2 := (s1.modEdit EditEngine.stop).modDec fun d => { d with mix := Vector.replicate 2 Ctx.reset, rateMark := none }
  let s3 := s2.markRecordIf s.coder.restless
  (s3.markEditIf (s.coder.job != .idle || s.edit.shown != s2.edit.shown)).retestHolds.rejudge

end Sys2Proof.Machine
end

