-- ==== Sys2Proof/Machine/Report.lean ====
section
/-! DEFINITION. The report unit: the words of the status records, report passes, cause-word reads and the words INIT
writes (R164, R166 to R173, R175 to R177). -/

namespace Sys2Proof.Machine

/-! ### Codes: each value numbered in the order its chapter first lists it (R175) -/

def JobState.code : JobState → Nat
  | .idle => 0 | .recording => 1 | .stopping => 2

def RecMode.code : RecMode → Nat
  | .assemble => 0 | .insert => 1

def RecSlotState.code : RecSlotState → Nat
  | .free => 0 | .opened => 1 | .closing => 2 | .ready => 3

def RunState.code : RunState → Nat
  | .stopped => 0 | .running => 1

def TapeSlotState.code : TapeSlotState → Nat
  | .free => 0 | .filling => 1 | .evaluating => 2 | .complete => 3

def BlockStatus.code : BlockStatus → Nat
  | .empty => 0 | .filling => 1 | .good => 2 | .bad => 3 | .missing => 4

def Corr.code : Corr → Nat
  | .clean => 0 | .correctable => 1 | .uncorrectable => 2

def LockState.code : LockState → Nat
  | .search => 0 | .acquire => 1 | .locked => 2 | .flywheel => 3

def Source.code : Source → Nat
  | .auto => 0 | .tape => 1 | .input => 2 | .pattern => 3 | .mute => 4

def Effective.code : Effective → Nat
  | .decoded => 0 | .input => 1 | .pattern => 2 | .mute => 3

def PunchKind.code : PunchKind → Nat
  | .punchIn => 0 | .punchOut => 1

def Shape.code : Shape → Nat
  | .linear => 0 | .power => 1

def OutcomeState.code : OutcomeState → Nat
  | .unused => 0 | .pending => 1 | .armed => 2 | .seeking => 3 | .fired => 4 | .missed => 5 | .cancelled => 6

def ArmState.code : ArmState → Nat
  | .disarmed => 0 | .armed => 1

def Owner.code : Owner → Nat
  | .idle => 0 | .waitL1 => 1 | .waitL2 => 2 | .locateWait => 3

def Punch.code : Punch → Nat
  | .inside => 0 | .outside => 1

/-- The result codes (R176). -/
def Result.code : Result → Nat
  | .done => 1 | .illegal => 2 | .sequence => 3 | .range => 4 | .state => 5 | .conflict => 6 | .prot => 7 | .full => 8
  | .late => 9

/-- A flag is 1 when set and 0 when clear (R175). -/
def flagWord (b : Bool) : Word := if b then 1 else 0

/-- An optional field's word: its value, or 0xFFFF where it is absent (R175). -/
def optWord (o : Option Nat) : Word :=
  match o with
  | some n => word n
  | none => Config.absentWord

/-- The high word of a frame address (R175). -/
def hiWord (f : Nat) : Word := word (f / 65536)

/-- The low word of a frame address (R175). -/
def loWord (f : Nat) : Word := word (f % 65536)

/-- A position as its three words: frame address in two words, and pair; absent where there is none (R175). -/
def posWords (o : Option Nat) : List Word :=
  [optWord (o.map fun q => q / Config.pairsPerFrame / 65536), optWord (o.map fun q => q / Config.pairsPerFrame % 65536),
    optWord (o.map fun q => q % Config.pairsPerFrame)]

/-- Consecutive words from an offset. -/
def wordsAt (off : Nat) (ws : List Word) : List (Nat × Word) := ws.mapIdx fun k w => (off + k, w)

/-! ### The five status records (R171, R175) -/

/-- The open-frame fill count: the set payload-written entries of the OPEN slot; 0 where none is OPEN (R24,
assumption 15). -/
def RecordCoder.fillCount (c : RecordCoder) : Nat :=
  match c.openSlot with
  | some k => c.slots[k].fillCount
  | none => 0

/-- The record status record (R171, R175). Words 0x106 and 0x107, which hold no field, are not written: DESIGN CHOICE
(assumption 32). -/
def State.recordWords (s : State) : List (Nat × Word) :=
  wordsAt 0x100 [word s.coder.job.code, word s.coder.mode.code, hiWord s.coder.r, loWord s.coder.r,
    word s.coder.fillCount, flagWord s.coder.sticky] ++
  slotNumbers.flatMap fun k =>
    let x := s.coder.slots[k]
    wordsAt (0x108 + 3 * k.val) [word x.state.code, hiWord x.frame, loWord x.frame]

/-- The `n`-th of the 21 words of a playback slot-table entry that follow its state word (R48, R175). -/
def TapeSlot.evalWord (x : TapeSlot) (n : Nat) : Word :=
  match n with
  | 0 => hiWord x.frame
  | 1 => loWord x.frame
  | 2 => word x.rate
  | 3 => word x.status.code
  | 4 => word x.good
  | 5 => word x.corrA.code
  | 6 => word x.corrB.code
  | _ => word (vget x.blocks (n - 7) BlockRec.reset).status.code

/-- The place of a monitor queue entry, absent where the queue is shorter (R175). -/
def queueWord (q : List (Fin 4)) (n : Nat) : Word := optWord (q[n]?.map Fin.val)

/-- The fields of the playback status record before its slot table (R171, R175). Words 0x217..0x21F, which hold no field,
are not written: DESIGN CHOICE (assumption 32). -/
def State.playbackHead (s : State) : List (Nat × Word) :=
  wordsAt 0x200 [word s.tape.run.code, word s.tape.lock.state.code, hiWord s.tape.lock.expected,
    loWord s.tape.lock.expected, word s.tape.fillPtr.val, flagWord s.tape.sticky, word s.tape.windowSum,
    word s.mon.queue.length, queueWord s.mon.queue 0, queueWord s.mon.queue 1, queueWord s.mon.queue 2,
    queueWord s.mon.queue 3, optWord (s.mon.halves[(0 : Fin 2)].map Fin.val), optWord (s.mon.halves[(1 : Fin 2)].map Fin.val),
    optWord (s.mon.lastHalf.map Fin.val), word s.mon.selected.code, flagWord s.mon.override, word s.mon.effective.code,
    s.bus.table[(0 : Fin 4)], s.bus.table[(1 : Fin 4)], s.bus.table[(2 : Fin 4)], s.bus.table[(3 : Fin 4)],
    flagWord !s.bus.valid]

/-- The offset of the state word of playback slot-table entry `k` (R175). -/
def tapeEntry (k : Fin 4) : Nat := 0x220 + 22 * k.val

/-- The edit status record (R114, R115, R175). It carries none of the fields EDIT_PARAM sets: R100 says that the record
shows the clamped value, R115 that those fields are not carried in it, and R175 gives them no word; the model follows R115,
DESIGN CHOICE (assumption 29). Words 0x30A..0x30F and words 9..15 of each outcome record, which hold no field, are not
written: DESIGN CHOICE (assumption 32). -/
def State.editWords (s : State) : List (Nat × Word) :=
  let e := s.edit
  wordsAt 0x300 ([word e.arm.code, word e.owner.code, word e.punch.code] ++ posWords (e.trans.map Transition.pos) ++
    [optWord (e.trans.map fun t => t.kind.code), optWord (e.trans.map Transition.len),
      optWord (e.trans.map fun t => t.shape.code), optWord (e.trans.map fun t => t.prior.code)]) ++
  ([0, 1, 2, 3, 4, 5, 6, 7] : List (Fin 8)).flatMap fun h =>
    let o := e.outcomes[h]
    wordsAt (0x310 + 16 * h.val) ([word o.state.code, optWord (o.kind.map PunchKind.code)] ++ posWords o.loc ++
      posWords o.fire ++ [optWord (o.forced.map fun b => if b then 1 else 0)])

/-- The copy status record (R144, R175). -/
def State.copyWords (s : State) : List (Nat × Word) :=
  wordsAt 0x3A0 [word s.copy.derived.code, word s.copy.recording.code, flagWord s.copy.sealed, word s.copy.output.code]

/-- The counters record (R172, R175). -/
def State.counterWords (s : State) : List (Nat × Word) := wordsAt 0x3B0 (s.counters.toList.map word)

/-! ### Settings and policy words (R164, R175) -/

/-- The value in force of settings field `k` (R164). -/
def Settings.get (x : Settings) (k : Fin 7) : Nat :=
  match k with
  | 0 => x.rate | 1 => x.hold | 2 => x.flywheel | 3 => x.quorum | 4 => x.window | 5 => x.thresh | 6 => x.atten

/-- Settings field `k` set (R164). -/
def Settings.put (x : Settings) (k : Fin 7) (n : Nat) : Settings :=
  match k with
  | 0 => { x with rate := n } | 1 => { x with hold := n } | 2 => { x with flywheel := n } | 3 => { x with quorum := n }
  | 4 => { x with window := n } | 5 => { x with thresh := n } | 6 => { x with atten := n }

/-- The five words of a protected range (R175). -/
def Range.words (r : Range) : List Word := [hiWord r.start, loWord r.start, hiWord r.stop, loWord r.stop, flagWord r.enable]

/-- The policy record as the shadow holds it (R141, R175). -/
def CopyControl.policyWords (c : CopyControl) : List (Nat × Word) :=
  wordsAt 0x030 (word c.analog.code :: c.ranges.toList.flatMap Range.words)

/-! ### Report passes (R168, R170, R171) -/

/-- A record's words as writes of their values at the beginning of the pass. -/
def asWrites (ws : List (Nat × Word)) : List RepWrite := ws.map fun w => .word w.1 w.2

/-- The playback status record's writes: the evaluation words of its slot table carry their values at the moment of each
write (R171). A word of the extent that holds no field is not written: DESIGN CHOICE (assumption 32). R5 says that the
assembler names, in its reports, the pairs a damaged block carries, and R171 and R175 give the record no field for pairs: the
record shows block statuses and no pairs, DESIGN CHOICE (assumption 33). -/
def State.playbackWrites (s : State) : List RepWrite :=
  asWrites s.playbackHead ++
  slotNumbers.flatMap fun k =>
    .word (tapeEntry k) (word s.tape.slots[k].state.code) :: (List.range 21).map fun n => .evalWord k n

/-- The settings fields, in order. -/
def settingNumbers : List (Fin 7) := [0, 1, 2, 3, 4, 5, 6]

/-- The RAISED causes of group `g` (R166). -/
def ReportUnit.raisedIn (r : ReportUnit) (g : Fin 6) : Word := r.raised[g]

/-- The cause word of group `g` is to be written: it has a RAISED cause, or a read has marked it (R168, R169). -/
def ReportUnit.causeWork (r : ReportUnit) (g : Fin 6) : Bool := r.raisedIn g != 0 || r.causeMarks[g]

/-- The writes of a pass that begins now, in the order of R168: records and write-backs, cause words, summary. The order
within the first two steps is the model's, DESIGN CHOICE (assumption 31): record, playback, edit, copy and counters records,
settings, policy; then the cause words of groups 0 to 5. -/
def State.passWrites (s : State) : List RepWrite :=
  let m := s.rep.marks
  (if m.record then asWrites s.recordWords else []) ++
  (if m.playback then s.playbackWrites else []) ++
  (if m.edit then asWrites s.editWords else []) ++
  (if m.copy then asWrites s.copyWords else []) ++
  (if m.counters then asWrites s.counterWords else []) ++
  ((settingNumbers.filter fun k => s.rep.backSettings[k]).map RepWrite.setting) ++
  (if s.rep.backPolicy then asWrites s.copy.policyWords else []) ++
  ((groups.filter s.rep.causeWork).map fun g => RepWrite.cause g (s.rep.raisedIn g)) ++
  [.summary]

/-- The report unit has work for a pass (R168). -/
def ReportUnit.hasWork (r : ReportUnit) : Bool :=
  r.marks.any || groups.any r.causeWork ||
    (settingNumbers.any fun k => r.backSettings[k]) || r.backPolicy

/-- The running pass needs another access: its next write is to be made, the summary only where its value differs from the
value last written (R168). -/
def ReportUnit.passWanting (r : ReportUnit) : Bool :=
  match r.pass with
  | none => false
  | some [] => false
  | some (.summary :: _) => r.summary != r.lastSummary
  | some (_ :: _) => true

/-- One write of a pass (R168, R170, R171); CONFIG_INVALID is raised after the write-back of a setting (R164). -/
def State.passWrite (s : State) (w : RepWrite) : State :=
  match w with
  | .word off v => s.poke (ctlAddr off) v
  | .evalWord k n => s.poke (ctlAddr (tapeEntry k + 1 + n)) (s.tape.slots[k].evalWord n)
  | .setting k => (s.poke (ctlAddr (0x010 + k.val)) (word (s.settings.get k))).raise .configInvalid
  | .cause g taken =>
    (s.poke (ctlAddr (0x002 + g.val)) (s.rep.posted[g] ||| taken)).modRep fun r =>
      { r with posted := vset r.posted g (r.posted[g] ||| taken), raised := vset r.raised g (r.raised[g] &&& ~~~taken) }
  | .summary =>
    (s.poke (ctlAddr 0x001) s.rep.summary).modRep fun r => { r with lastSummary := r.summary }

/-- The pass's next write made (R168). -/
def State.passAccess (s : State) : State :=
  match s.rep.pass with
  | some (w :: rest) => (s.passWrite w).modRep fun r => { r with pass := some rest }
  | _ => s

/-- A pass begun: it takes the marked records, the RAISED causes and the write-backs as they stand (R168). -/
def State.beginPass (s : State) : State :=
  let ws := s.passWrites
  s.modRep fun r =>
    { r with
      marks := Marks.clear, causeMarks := Vector.replicate 6 false, backSettings := Vector.replicate 7 false,
      backPolicy := false, pass := some ws }

/-- A pass ended, and ALERT judged (R168 step 4, R170). -/
def State.endPass (s : State) : State := (s.modRep fun r => { r with pass := none }).judgeAlert

/-- A read of the cause word of group `g` that returned `v` (R169). ALERT is judged at every such read, as R169 has it, also at
one that clears no cause, which R170 does not list: DESIGN CHOICE (assumption 36). -/
def State.clearCauses (s : State) (g : Fin 6) (v : Word) : State :=
  (s.modRep fun r =>
    { r with posted := vset r.posted g (r.posted[g] &&& ~~~v), causeMarks := vset r.causeMarks g true }).judgeAlert

/-! ### INIT (R173) -/

/-- The settings record's words, mask words included (R164, R167, R175). -/
def State.settingWords (s : State) : List (Nat × Word) :=
  wordsAt 0x010 (settingNumbers.map fun k => word (s.settings.get k)) ++ wordsAt 0x018 s.rep.masks.toList

/-- The words of the control area that INIT writes with other values than 0, from the reset values of every shadow
(R173). Bits of the input status word as R175 gives them. -/
def initWords : List (Nat × Word) :=
  let s := State.reset
  [(0x000, Config.identityWord)] ++ s.settingWords ++ wordsAt 0x020 s.bus.table.toList ++
  [(0x028, word s.copy.input.format.toNat)] ++ s.copy.policyWords ++ s.recordWords ++ s.playbackHead ++
  (slotNumbers.flatMap fun k =>
    wordsAt (tapeEntry k) (word s.tape.slots[k].state.code :: (List.range 21).map fun n => s.tape.slots[k].evalWord n)) ++
  s.editWords ++ s.copyWords ++ s.counterWords

/-- Buffer memory after INIT: every word of the control area written, with the listed value or with 0 (R173). The control
area is the top of memory, so its old words are the tail of the list. -/
def Memory.init (m : Memory) : Memory :=
  Memory.writeAll (m.filter fun x => x.1 < Config.controlBase) (initWords.map fun w => (ctlAddr w.1, w.2))

end Sys2Proof.Machine
end

