-- ==== Sys2Proof/Machine/Ring.lean ====
section
/-! DEFINITION. The command ring, the memory port's engines and their grants, and the settings (R153, R154, R157 to R165,
R168). -/

namespace Sys2Proof.Machine

/-! ### The ring (R157, R175) -/

/-- The number of outstanding commands (R157). -/
def CommandUnit.outstanding (c : CommandUnit) : BitVec 8 := c.producer - c.consumer

/-- The busy flag (R157). -/
def CommandUnit.busy (c : CommandUnit) : Bool := c.phase != .idle

/-- The offset of word `n` of the entry at the consumer index (R157, R175). -/
def CommandUnit.entryOffset (c : CommandUnit) (n : Nat) : Nat := 0x060 + 4 * (c.consumer.toNat % 16) + n

/-- The next entry taken, where one is outstanding and the busy flag is clear (R159 step 1). -/
def CommandUnit.wake (c : CommandUnit) : CommandUnit :=
  if c.phase = .idle ∧ c.producer ≠ c.consumer then { c with phase := .reading [] } else c

/-- A producer index write that passes the test of R158. -/
def CommandUnit.admits (c : CommandUnit) (n : BitVec 8) : Bool :=
  let d := n - c.consumer
  decide (d.toNat ≤ 16) && (!c.busy || d != 0)

/-- The command unit waits for the port: to read an entry, or to write a result or the consumer index once due
(R159, R160, R168). -/
def CommandUnit.wanting (c : CommandUnit) : Bool :=
  match c.phase with
  | .reading _ => true
  | .due _ _ => true
  | .written _ _ => true
  | _ => false

/-! ### The three engines of the memory port (R153, R154) -/

/-- The internal engines, in order of priority (R153). -/
inductive Engine where
  | close | eval | report
  deriving DecidableEq, Repr

/-- The evaluation engine waits for the port (R48, R153). -/
def Assembler.evalWaiting (t : Assembler) : Bool := t.eval.any fun j => decide (j.done < 21)

/-- The report unit waits for the port: for its running pass, or between passes for the command unit (R168). -/
def State.reportWaiting (s : State) : Bool :=
  match s.rep.pass with
  | some _ => s.rep.passWanting
  | none => s.cmd.wanting

/-- An engine waits for the port (R153). -/
def State.waiting (s : State) (e : Engine) : Bool :=
  match e with
  | .close => s.coder.closeWaiting
  | .eval => s.tape.evalWaiting
  | .report => s.reportWaiting

/-- The wait count of an engine (R154). -/
def WaitCounts.get (w : WaitCounts) (e : Engine) : Nat :=
  match e with
  | .close => w.close
  | .eval => w.eval
  | .report => w.report

/-- The wait counts with one engine's set (R154). -/
def WaitCounts.put (w : WaitCounts) (e : Engine) (n : Nat) : WaitCounts :=
  match e with
  | .close => { w with close := n }
  | .eval => { w with eval := n }
  | .report => { w with report := n }

/-- Some engine's wait count stands at 16 (R154). -/
def WaitCounts.guarded (w : WaitCounts) : Bool :=
  decide (Config.guardCount ≤ w.close) || decide (Config.guardCount ≤ w.eval) || decide (Config.guardCount ≤ w.report)

/-- The wait counts with an engine that is not waiting at 0 (R154). -/
def State.normCounts (s : State) : State :=
  s.modBus fun b =>
    { b with counts :=
        { close := if s.waiting .close then b.counts.close else 0
          eval := if s.waiting .eval then b.counts.eval else 0
          report := if s.waiting .report then b.counts.report else 0 } }

/-- The wait counts after an upstream transaction has taken the port, `before` being the state it found: one more for each
engine that was waiting, up to 16 (R154). -/
def State.countWaits (s before : State) : State :=
  s.modBus fun b =>
    { b with counts :=
        { close := if before.waiting .close then min Config.guardCount (b.counts.close + 1) else b.counts.close
          eval := if before.waiting .eval then min Config.guardCount (b.counts.eval + 1) else b.counts.eval
          report := if before.waiting .report then min Config.guardCount (b.counts.report + 1) else b.counts.report } }

/-- The starvation guard holds a transaction now (R154). -/
def State.guarding (s : State) : Bool := s.bus.held.any fun h => h.kind == .guard

/-- The engine the port is granted to: of the waiting engines, and under the guard of those whose count stands at 16, the
one of highest priority (R153, R154). -/
def State.grantee (s : State) : Option Engine :=
  ([.close, .eval, .report] : List Engine).find? fun e =>
    s.waiting e && (!s.guarding || decide (Config.guardCount ≤ s.bus.counts.get e))

/-! ### The command unit's accesses (R159, R160) -/

/-- The command completed with its kind and result (R160): its kind noted, the busy flag cleared, the COMMAND causes
raised, the next entry taken where one is outstanding. -/
def State.completeCommand (s : State) (k : CmdKind) (r : Result) : State :=
  ((s.modCmd fun c => ({ c with consumer := c.consumer + 1, prev := some k, phase := .idle } : CommandUnit).wake).raise
    .commandDone).raiseIf (r != .done) .commandError

/-- The write of the result word (R160 step 2). -/
def State.writeResult (s : State) (k : CmdKind) (r : Result) : State :=
  (s.poke (ctlAddr (s.cmd.entryOffset 3)) (word r.code)).modCmd fun c => { c with phase := .written k r }

/-- The write of the advanced consumer index, with which the command completes (R160 steps 3 and 4). -/
def State.writeConsumer (s : State) (k : CmdKind) (r : Result) : State :=
  (s.poke (ctlAddr 0x051) ((s.cmd.consumer + 1).setWidth 16)).completeCommand k r

/-- The phase after the entry's words read so far: decoded once all three are read (R159 steps 2 and 3). -/
def phaseOfWords (ws : List Word) : CmdPhase :=
  match ws with
  | [w, a1, a2] => .fetched (decodeEntry w a1 a2)
  | _ => .reading ws

/-- One access of the command unit (R159, R160). -/
def State.commandAccess (s : State) : State :=
  match s.cmd.phase with
  | .reading ws =>
    s.modCmd fun c => { c with phase := phaseOfWords (ws ++ [s.peek (ctlAddr (c.entryOffset ws.length))]) }
  | .due k r => s.writeResult k r
  | .written k r => s.writeConsumer k r
  | _ => s

/-- One access of the evaluation engine: the next of 21 slot-table words (R48). -/
def State.evalAccess (s : State) (j : EvalJob) : State :=
  (s.poke (ctlAddr (tapeEntry j.slot + 1 + j.done)) (s.tape.slots[j.slot].evalWord j.done)).modTape fun t =>
    { t with eval := some { j with done := j.done + 1 } }

/-- One access of an engine (R153). -/
def State.engineAccess (s : State) (e : Engine) : State :=
  match e with
  | .close =>
    match s.coder.close with
    | some j => s.closeAccess j
    | none => s
  | .eval =>
    match s.tape.eval with
    | some j => s.evalAccess j
    | none => s
  | .report =>
    match s.rep.pass with
    | some _ => s.passAccess
    | none => s.commandAccess

/-- An access granted to an engine, whose wait count returns to 0 (R153, R154). -/
def State.grant (s : State) (e : Engine) : State :=
  (s.engineAccess e).modBus fun b => { b with counts := b.counts.put e 0 }

/-! ### Taking a command (R159, R168) -/

/-- The command unit can make its accesses now, one after another: no pass is running, no other engine waits and the guard
holds nothing (R153, R168). -/
def State.commandFree (s : State) : Bool :=
  s.bus.op == .running && s.rep.pass.isNone && !s.waiting .close && !s.waiting .eval && !s.guarding

/-- The entry at the consumer index, decoded, `ws` being its words read so far (R159). -/
def State.entryWith (s : State) (ws : List Word) : Instr :=
  let w (n : Nat) : Word := ws[n]?.getD (s.peek (ctlAddr (s.cmd.entryOffset n)))
  decodeEntry (w 0) (w 1) (w 2)

/-- The command whose taking is due: the entry that has been read, or one whose remaining reads can be made now. -/
def State.dueCommand (s : State) : Option Instr :=
  match s.cmd.phase with
  | .fetched c => if s.bus.op = .running then some c else none
  | .reading ws => if s.commandFree then some (s.entryWith ws) else none
  | _ => none

/-- The marks of the records cleared, to see which of them a command's owner marks. -/
def ReportUnit.unmarked (r : ReportUnit) : ReportUnit := { r with marks := Marks.clear }

/-- The owner of a command has marked a record or raised a cause for it (R168). -/
def ReportUnit.touched (r before : ReportUnit) : Bool := r.marks.any || r.raised != before.raised

/-- A command taken at step 4 of R159: its owner judges it and makes its effects. Its result and consumer index writes are
due at once where the owner marks no record and raises no cause, and else when the next pass to begin has ended (R168). -/
def State.take (s : State) (k : CmdKind) (owner : State → State × Result) : State :=
  let x := owner (s.modRep ReportUnit.unmarked)
  let phase := if x.1.rep.touched s.rep then CmdPhase.waitPass k x.2 else CmdPhase.due k x.2
  (x.1.modRep fun r => { r with marks := r.marks.union s.rep.marks }).modCmd fun c => { c with phase := phase }

/-! ### CLEAR and SOFT_RESET (R162, R163) -/

/-- CLEAR STICKY (R162). -/
def State.clearSticky (s : State) : State :=
  ((s.modCoder fun c => { c with sticky := false }).modTape fun t => { t with sticky := false }).markRecord.markPlayback

/-- The kind of a command word that names no row (R157, R159, R162, R163). -/
def unknownKind (w : Word) : CmdKind :=
  if w.toNat % 32 = 14 then .clear else if w.toNat % 32 = 15 then .softReset else .unknown

/-- The result of a command word that names no row: ILLEGAL, and RANGE for a CLEAR or SOFT_RESET (R159, R162, R163). -/
def unknownResult (w : Word) : Result :=
  if w.toNat % 32 = 14 ∨ w.toNat % 32 = 15 then .range else .illegal

/-- MONITOR_SELECT's source of a code (R86, R175). -/
def sourceOf (n : Nat) : Option Source :=
  if n = 0 then some .auto else if n = 1 then some .tape else if n = 2 then some .input else if n = 3 then some .pattern
  else if n = 4 then some .mute else none

/-- MONITOR_SELECT (R86). A repeat of the selection in force changes nothing. -/
def State.monitorSelect (s : State) (source override : Word) : State × Result :=
  match sourceOf source.toNat with
  | none => (s, .range)
  | some x =>
    if 1 < override.toNat ∨ (x = .auto ∧ override = 1) then (s, .range)
    else if s.mon.selected = x ∧ s.mon.override = decide (override = 1) then (s, .done)
    else
      (((s.modMon fun m => { m with selected := x, override := decide (override = 1) }).markPlayback).rejudge, .done)

/-! ### Settings (R164, R165) -/

/-- The range of settings field `k` (R164). -/
def settingRange (k : Fin 7) : Nat × Nat :=
  match k with
  | 0 => (0, 2) | 1 => (1, 64) | 2 => (1, 15) | 3 => (1, 14) | 4 => (4, 64) | 5 => (1, 896) | 6 => (0, 15)

/-- The written value is within the field's range (R164). -/
def settingOk (k : Fin 7) (n : Nat) : Bool := decide ((settingRange k).1 ≤ n) && decide (n ≤ (settingRange k).2)

/-- The value in force after a capture of `n`, `now` being the one before it: clamped, or held for the rate code (R164). -/
def settingValue (k : Fin 7) (now n : Nat) : Nat :=
  if settingOk k n then n
  else if k = 0 then now
  else max (settingRange k).1 (min (settingRange k).2 n)

/-- What a change of a field starts at once: W clears the window and arms the monitor, T makes the test of R57
(R56, R57, R165). The playback status record is marked where the window's sum changes (R171). -/
def State.settingEffect (s : State) (k : Fin 7) : State :=
  if k = 4 then ((s.modTape fun t => { t with window := [], rateArmed := true }).markPlaybackIf (s.tape.windowSum != 0)).rateTest
  else if k = 5 then s.rateTest
  else s

/-- A capture of settings field `k` (R164, R165). A value out of range calls for the write-back of the value in force;
CONFIG_INVALID is raised once that write is made (`State.passWrite`). -/
def State.captureSetting (s : State) (k : Fin 7) (v : Word) : State :=
  let now := s.settings.get k
  let n := settingValue k now v.toNat
  let s1 := if n = now then s else (s.modSettings fun x => x.put k n).settingEffect k
  if settingOk k v.toNat then s1
  else s1.modRep fun r => { r with backSettings := vset r.backSettings k true }

/-- A capture of the mask word of group `g` (R167, R170). -/
def State.captureMask (s : State) (g : Fin 6) (v : Word) : State :=
  (s.modRep fun r => { r with masks := vset r.masks g v }).judgeAlert

end Sys2Proof.Machine
end

