-- ==== Sys2Proof/Machine/Bus.lean ====
section
/-! DEFINITION. The bus path: the service of an upstream transaction, its arrival, the holds and their release, and the
playback-window reads it hands to the monitor selector (R80 to R92, R145 to R156). -/

namespace Sys2Proof.Machine

/-! ### Passed and dropped transactions (R146) -/

/-- A read passed to memory. -/
def State.passRead (s : State) (a : BusAddr) : State := (s.addAccesses 1).answer .passed (s.peek a.toNat)

/-- A write passed to memory. -/
def State.passWord (s : State) (a : BusAddr) (v : Word) : State := (s.upPoke a.toNat v).treat .passed

/-- A write dropped with a cause. -/
def State.dropWith (s : State) (c : Cause) : State := (s.raise c).treat .dropped

/-! ### Control-area writes and reads (R147, R149, R151, R158) -/

/-- A passed window table write captured, and the table judged (R149, R150, R151). -/
def State.captureTable (s : State) (k : Fin 4) (v : Word) : State :=
  let changed := s.bus.table[k] != v
  let s1 := s.modBus fun b => { b with table := vset b.table k v }
  let ok := s1.bus.judge
  let s2 := s1.modBus fun b => { b with valid := ok }
  let s3 := if changed || s.bus.valid != ok then s2.markPlayback else s2
  let s4 := if ok && changed && k == 1 then s3.modMon fun m => { m with lastHalf := none } else s3
  s4.raiseIf (!ok) .configInvalid

/-- A write of window table word `k` (R149, R151). -/
def State.tableWrite (s : State) (a : BusAddr) (k : Fin 4) (v : Word) : State :=
  if s.coder.job = .idle ∧ s.tape.run = .stopped then (s.passWord a v).captureTable k v else s.dropWith .configBusy

/-- A write of the policy record (R139, R142). -/
def State.policyWrite (s : State) (a : BusAddr) (k : Fin 21) (v : Word) : State :=
  if s.copy.sealed then s.dropWith .sealWrite else (s.passWord a v).capturePolicy k v

/-- A write of the producer index, judged on bits 7..0 (R158, R175). -/
def State.producerWrite (s : State) (a : BusAddr) (v : Word) : State :=
  let n := v.setWidth 8
  if s.cmd.admits n then (s.passWord a v).modCmd fun c => ({ c with producer := n } : CommandUnit).wake
  else s.dropWith .ringOverflow

/-- A write that falls in the control area (R147). -/
def State.controlWrite (s : State) (a : BusAddr) (v : Word) : State :=
  match controlWord (ctlOffset a) with
  | .settings k => (s.passWord a v).captureSetting k v
  | .mask k => (s.passWord a v).captureMask k v
  | .table k => s.tableWrite a k v
  | .input => (s.passWord a v).captureInput v
  | .policy k => s.policyWrite a k v
  | .producer => s.producerWrite a v
  | .cause _ => s.passWord a v
  | .other => s.passWord a v

/-- A read that falls in the control area (R147, R169). -/
def State.controlRead (s : State) (a : BusAddr) : State :=
  match controlWord (ctlOffset a) with
  | .cause g => (s.passRead a).clearCauses g (s.peek a.toNat)
  | _ => s.passRead a

/-! ### Playback-window reads (R80 to R84, R90 to R92) -/

/-- A playback-window read answered by a MONITOR request for (f, n, c) (R60, R90). -/
def State.decodeAnswer (s : State) (f : Option Nat) (n : Nat) (c : Fin 2) : State :=
  let s1 := s.monitorRequest f n c
  s1.answer .answered s1.dec.mon[c].last

/-- A read of (h, n, c) answered by the effective source as it stands (R80 step 2, R90 to R92); a decode request is held
while a slot is EVALUATING (R48). -/
def State.deliver (s : State) (t : Txn) (h : Fin 2) (n : Nat) (c : Fin 2) : State :=
  match s.mon.effective with
  | .decoded =>
    if s.tape.evaluating then s.hold t .decodeRead
    else s.decodeAnswer (s.mon.halves[h].map fun k => s.tape.slots[k].frame) n c
  | .input => s.answer .answered s.mon.echo[c]
  | .pattern =>
    (s.answer .answered (patternWord s.mon.pattern s.settings.atten)).modMon fun m => { m with pattern := patternNext m.pattern }
  | .mute => s.answer .answered 0

/-- The release of half `h` at a turnover into it (R81 step 1); the change of its binding marks the playback status record
also where a hold keeps the slot (R79). -/
def State.releaseHalf (s : State) (h : Fin 2) : State :=
  match s.mon.halves[h] with
  | none => s
  | some k => ((s.modMon fun m => { m with halves := vset m.halves h none }).markPlayback).releaseSlot k

/-- The binding of half `h` at a turnover, or the underrun, and the hand-offs (R81 steps 2 to 4, R84). -/
def State.bindTurnover (s : State) (h : Fin 2) : State :=
  let s1 :=
    if s.tape.run = .running then
      match s.mon.queue with
      | k :: rest => s.modMon fun m => { m with queue := rest, halves := vset m.halves h (some k) }
      | [] => (s.raise .monitorUnderrun).bump .monitorUnderrun
    else s
  ((s1.modMon fun m => { m with lastHalf := some h }).updateOutput).markPlayback

/-- A turnover that finds the queue empty waits for a running evaluation (R82). -/
def State.turnoverWaits (s : State) : Bool := s.tape.run == .running && s.mon.queue.isEmpty && s.tape.evaluating

/-- A playback-window read at offset `o` (R80). -/
def State.playbackRead (s : State) (t : Txn) (o : Nat) : State :=
  let h := halfOf o
  if s.mon.lastHalf = some h then s.deliver t h (pairIn o) (chanIn o)
  else
    let s1 := s.releaseHalf h
    if s1.turnoverWaits then s1.hold t .turnover else (s1.bindTurnover h).deliver t h (pairIn o) (chanIn o)

/-! ### Service by region (R145, R148) -/

/-- The offset of address `a` in the region of window table entry `k` (R145). -/
def BusPath.offset (b : BusPath) (k : Fin 4) (a : Nat) : Nat := a - b.base k

/-- An upstream write served by its region (R145, R147, R148). -/
def State.serveWrite (s : State) (t : Txn) : State :=
  match s.bus.regionOf t.addr.toNat with
  | .control => s.controlWrite t.addr t.data
  | .recordWindow => s.recordWrite t (s.bus.offset 0 t.addr.toNat) t.data
  | .playbackWindow => s.dropWith .playbackImageWrite
  | .recordImage => s.dropWith .recordImageWrite
  | .offTapeImage =>
    if s.tape.run = .running then s.formatterWrite (s.bus.offset 3 t.addr.toNat) t.data else s.passWord t.addr t.data
  | .elsewhere => s.passWord t.addr t.data

/-- An upstream read served by its region (R145, R147, R148). -/
def State.serveRead (s : State) (t : Txn) : State :=
  match s.bus.regionOf t.addr.toNat with
  | .control => s.controlRead t.addr
  | .recordWindow => s.recordRead (s.bus.offset 0 t.addr.toNat)
  | .playbackWindow => s.playbackRead t (s.bus.offset 1 t.addr.toNat)
  | .recordImage => (s.passRead t.addr).watchRelease (s.bus.offset 2 t.addr.toNat)
  | .offTapeImage => s.passRead t.addr
  | .elsewhere => s.passRead t.addr

/-- An upstream transaction served by its region and direction (R145). -/
def State.serve (s : State) (t : Txn) : State := if t.write then s.serveWrite t else s.serveRead t

/-- No access of its own made yet (R155). -/
def State.freshAccesses (s : State) : State := s.modBus fun b => { b with accesses := 0 }

/-- The wait counts after a service: a transaction that is held has not taken the port (R154). -/
def State.tookPort (s before : State) : State := if s.bus.held.isSome then s else s.countWaits before

/-- A transaction taken into service (R145, R146, R154). -/
def State.service (s : State) (t : Txn) : State := (s.freshAccesses.serve t).tookPort s

/-! ### Arrival, holds and release (R146, R152, R154, R156) -/

/-- An upstream transaction arrives: kept back by the deck's arbiter behind a held one, held during RESET and INIT, held by
the starvation guard, or taken into service. -/
def State.arrive (s : State) (t : Txn) : State :=
  if s.bus.held.isSome then s.modBus fun b => { b with waiting := b.waiting ++ [t] }
  else if s.bus.op ≠ .running then s.hold t .init
  else if s.bus.counts.guarded then s.hold t .guard
  else s.service t

/-- A held transaction has nothing left to wait for (R28, R48, R82, R152). -/
def State.ready (s : State) (h : Held) : Bool :=
  s.bus.op == .running &&
    match h.kind with
    | .init => true
    | .guard => !s.bus.counts.guarded
    | .closing => !s.coder.halfClosing (halfOf (s.bus.offset 0 h.txn.addr.toNat))
    | .decodeWrite => !s.tape.evaluating
    | .decodeRead => !s.tape.evaluating
    | .turnover => !s.tape.evaluating
    | .conceal => !s.tape.evaluating

/-- The service of a transaction that was held: a turnover goes on from R81 step 2, a decode request is answered by the
source that now stands, or concealed where PLAY_STOP or SOFT_RESET PLAYBACK has freed every slot, any other transaction is
served by its region (R25, R28, R76, R82, R89, R152). -/
def State.resume (s : State) (h : Held) : State :=
  let o := s.bus.offset 1 h.txn.addr.toNat
  match h.kind with
  | .turnover =>
    ((s.freshAccesses.bindTurnover (halfOf o)).deliver h.txn (halfOf o) (pairIn o) (chanIn o)).tookPort s
  | .decodeRead => (s.freshAccesses.deliver h.txn (halfOf o) (pairIn o) (chanIn o)).tookPort s
  | .conceal => (s.freshAccesses.decodeAnswer none (pairIn o) (chanIn o)).tookPort s
  | _ => s.service h.txn

/-- The held transaction released and served, once nothing holds it. -/
def State.release (s : State) : State :=
  match s.bus.held with
  | none => s
  | some h => if s.ready h then (s.modBus fun b => { b with held := none }).resume h else s

/-- The transactions kept back presented in turn, until one is held. Each finds the wait counts as the one before it left
them, an engine that no longer waits at 0 (R154). -/
def State.drain (s : State) : List Txn → State
  | [] => s.modBus fun b => { b with waiting := [] }
  | t :: rest => if s.bus.held.isSome then s.modBus fun b => { b with waiting := t :: rest } else (s.arrive t).normCounts.drain rest

/-- What follows every event: an engine that no longer waits has no wait count, a transaction that nothing holds any longer
is served, and those behind it arrive (R152, R154). -/
def State.settle (s : State) : State :=
  let s1 := s.normCounts.release.normCounts
  if s1.bus.held.isSome then s1 else s1.drain s1.bus.waiting

end Sys2Proof.Machine
end

