-- ==== Sys2Proof/Machine/Commands.lean ====
section
/-! DEFINITION. The meanings of the ring commands' rows. Each takes the command that is due at the consumer index
(R159 step 4) and makes its owner's effects; a row whose command is not the due one finds nothing to take
(assumptions 3 and 8). -/

namespace Sys2Proof.Machine

/-- The accesses of an entry's last reads have been granted: the report unit's wait count is 0 again (R154, R159). -/
def State.finishReads (s : State) : State :=
  match s.cmd.phase with
  | .reading _ => s.modBus fun b => { b with counts := b.counts.put .report 0 }
  | _ => s

/-- The command `i`, if it is the due one, taken with its kind by its owner (R159, R168). -/
def State.command (s : State) (i : Instr) (k : CmdKind) (owner : State → State × Result) : State :=
  if s.dueCommand = some i then (s.finishReads.take k owner).settle else s

/-- NOP (R161). -/
def execNop (s : State) : Host.Outcome State Fault Refusal := .next (s.command .nop .nop fun x => (x, .done))

/-- RECORD_START (R17, R18). -/
def execRecordStart (mode : BitVec 2) (hi lo : Word) (s : State) : Host.Outcome State Fault Refusal :=
  .next (s.command (.recordStart mode hi lo) .recordStart fun x => x.recordStart mode hi lo)

/-- RECORD_STOP (R35). -/
def execRecordStop (s : State) : Host.Outcome State Fault Refusal :=
  .next (s.command .recordStop .recordStop State.recordStop)

/-- PLAY_START (R39). -/
def execPlayStart (s : State) : Host.Outcome State Fault Refusal := .next (s.command .playStart .playStart State.playStart)

/-- PLAY_STOP (R40). -/
def execPlayStop (s : State) : Host.Outcome State Fault Refusal := .next (s.command .playStop .playStop State.playStop)

/-- MONITOR_SELECT (R86). -/
def execMonitorSelect (source override : Word) (s : State) : Host.Outcome State Fault Refusal :=
  .next (s.command (.monitorSelect source override) .monitorSelect fun x => x.monitorSelect source override)

/-- EDIT_LOAD (R97, R98). -/
def execEditLoad (handle : BitVec 4) (kind : BitVec 2) (hi : BitVec 5) (lo pair : Word) (s : State) :
    Host.Outcome State Fault Refusal :=
  .next (s.command (.editLoad handle kind hi lo pair) .editLoad fun x => x.editLoad handle kind hi lo pair)

/-- EDIT_PARAM (R99, R100). -/
def execEditParam (cond : BitVec 2) (chan : BitVec 1) (expo : BitVec 4) (shape : BitVec 2) (threshold span : Word)
    (s : State) : Host.Outcome State Fault Refusal :=
  .next (s.command (.editParam cond chan expo shape threshold span) .editParam fun x =>
    x.editParam cond chan expo shape threshold span)

/-- EDIT_CANCEL (R101). -/
def execEditCancel (handle : BitVec 4) (s : State) : Host.Outcome State Fault Refusal :=
  .next (s.command (.editCancel handle) .editCancel fun x => x.editCancel handle)

/-- EDIT_ARM (R102). -/
def execEditArm (s : State) : Host.Outcome State Fault Refusal := .next (s.command .editArm .editArm State.editArm)

/-- EDIT_DISARM (R103). -/
def execEditDisarm (s : State) : Host.Outcome State Fault Refusal :=
  .next (s.command .editDisarm .editDisarm State.editDisarm)

/-- LOCATE (R111). -/
def execLocate (hi lo : Word) (s : State) : Host.Outcome State Fault Refusal :=
  .next (s.command (.locate hi lo) .locate fun x => x.locate hi lo)

/-- LOCATE_CANCEL (R113). -/
def execLocateCancel (s : State) : Host.Outcome State Fault Refusal :=
  .next (s.command .locateCancel .locateCancel State.locateCancel)

/-- POLICY_SEAL (R141). -/
def execPolicySeal (s : State) : Host.Outcome State Fault Refusal :=
  .next (s.command .policySeal .policySeal fun x => (x.seal, .done))

/-- CLEAR COUNTERS (R162). -/
def execClearCounters (s : State) : Host.Outcome State Fault Refusal :=
  .next (s.command .clearCounters .clear fun x => (x.zeroCounters, .done))

/-- CLEAR STICKY (R162). -/
def execClearSticky (s : State) : Host.Outcome State Fault Refusal :=
  .next (s.command .clearSticky .clear fun x => (x.clearSticky, .done))

/-- SOFT_RESET RECORD (R38, R163). -/
def execSoftResetRecord (s : State) : Host.Outcome State Fault Refusal :=
  .next (s.command .softResetRecord .softReset fun x => (x.resetRecord, .done))

/-- SOFT_RESET PLAYBACK (R59, R163). -/
def execSoftResetPlayback (s : State) : Host.Outcome State Fault Refusal :=
  .next (s.command .softResetPlayback .softReset fun x => (x.resetPlayback, .done))

/-- SOFT_RESET EDIT (R116, R163). -/
def execSoftResetEdit (s : State) : Host.Outcome State Fault Refusal :=
  .next (s.command .softResetEdit .softReset fun x => ((x.modEdit EditEngine.softReset).markEdit, .done))

/-- SOFT_RESET COUNTERS (R163). -/
def execSoftResetCounters (s : State) : Host.Outcome State Fault Refusal :=
  .next (s.command .softResetCounters .softReset fun x => (x.zeroCounters, .done))

/-- UNKNOWN_COMMAND: no effect but its result (R159). -/
def execUnknownCommand (w : Word) (s : State) : Host.Outcome State Fault Refusal :=
  .next (s.command (.unknownCommand w) (unknownKind w) fun x => (x, unknownResult w))

end Sys2Proof.Machine
end

