-- ==== Sys2Proof/Machine/Engines.lean ====
section
/-! DEFINITION. The meanings of the rows of the part's own engines: command completion, port grants, the close's end,
frame evaluation and report passes. A row whose event is not due leaves the state as it stands (assumption 3). -/

namespace Sys2Proof.Machine

/-- The result and the consumer index written, and the command completed (R160). -/
def State.complete (s : State) (k : CmdKind) (r : Result) (written : Bool) : State :=
  let s1 := (if written then s else s.writeResult k r).writeConsumer k r
  s1.modBus fun b => { b with counts := b.counts.put .report 0 }

/-- COMMAND_COMPLETION (R160). -/
def execCommandCompletion (s : State) : Host.Outcome State Fault Refusal :=
  .next
    (if s.commandFree then
      match s.cmd.phase with
      | .due k r => (s.complete k r false).settle
      | .written k r => (s.complete k r true).settle
      | _ => s
    else s)

/-- ENGINE_PORT_GRANT (R153). -/
def execEnginePortGrant (s : State) : Host.Outcome State Fault Refusal :=
  .next
    (if s.bus.op = .running then
      match s.grantee with
      | some e => (s.grant e).settle
      | none => s
    else s)

/-- The close whose last access has been made (R33). -/
def State.closeToEnd (s : State) : Option CloseJob :=
  if s.bus.op = .running then s.coder.close.filter fun j => !j.wanting else none

/-- CLOSE_END (R33). -/
def execCloseEnd (s : State) : Host.Outcome State Fault Refusal :=
  .next
    (match s.closeToEnd with
    | some j => (s.finishClose j).settle
    | none => s)

/-- EVALUATION_TAKE (R48, R49): the engine, idle, takes the slot that has waited longest. -/
def execEvaluationTake (s : State) : Host.Outcome State Fault Refusal :=
  .next
    (if s.bus.op = .running ∧ s.tape.eval = none then
      match s.tape.evalQueue with
      | k :: rest => (s.takeEvaluation k rest).settle
      | [] => s
    else s)

/-- The evaluation whose 21 writes have been made (R48, R51). -/
def State.evalToEnd (s : State) : Option EvalJob :=
  if s.bus.op = .running then s.tape.eval.filter fun j => decide (21 ≤ j.done) else none

/-- EVALUATION_END (R50, R51). -/
def execEvaluationEnd (s : State) : Host.Outcome State Fault Refusal :=
  .next
    (match s.evalToEnd with
    | some j => (s.finishEvaluation j).settle
    | none => s)

/-- The phase of a command whose owner's records and causes the pass that begins now carries (R168). -/
def CmdPhase.passBegun : CmdPhase → CmdPhase
  | .waitPass k r => .inPass k r
  | p => p

/-- The phase of a command whose pass has ended (R168). -/
def CmdPhase.passEnded : CmdPhase → CmdPhase
  | .inPass k r => .due k r
  | p => p

/-- A pass can begin: the report unit has work, no pass is running and the command unit waits for no access (R168). -/
def State.passDue (s : State) : Bool :=
  s.bus.op == .running && s.rep.pass.isNone && s.rep.hasWork && !s.cmd.wanting

/-- REPORT_PASS_BEGIN (R168). -/
def execReportPassBegin (s : State) : Host.Outcome State Fault Refusal :=
  .next (if s.passDue then (s.beginPass.modCmd fun c => { c with phase := c.phase.passBegun }).settle else s)

/-- A running pass has made its writes (R168). -/
def State.passOver (s : State) : Bool := s.bus.op == .running && s.rep.pass.isSome && !s.rep.passWanting

/-- REPORT_PASS_END (R168, R170). -/
def execReportPassEnd (s : State) : Host.Outcome State Fault Refusal :=
  .next (if s.passOver then (s.endPass.modCmd fun c => { c with phase := c.phase.passEnded }).settle else s)

end Sys2Proof.Machine
end

