-- ==== Sys2Proof/Machine/Reset.lean ====
section
/-! DEFINITION. The meanings of the RESET input's rows: asserted, released, and the end of INIT (R156, R173). -/

namespace Sys2Proof.Machine

/-- The transactions a RESET finds stay held (R156). -/
def BusPath.heldThrough (b : BusPath) : Option Held := b.held.map fun h => { h with kind := .init }

/-- Every block at its reset value. Memory is the external SRAM's and keeps its words; a transaction in progress or held
stays held, and those behind it wait (R156). -/
def State.assertReset (s : State) : State :=
  { State.reset with
    bus := { BusPath.reset with held := s.bus.heldThrough, waiting := s.bus.waiting }
    mem := s.mem
    pending := s.pending }

/-- RESET_ASSERTED (R156). -/
def execResetAsserted (s : State) : Host.Outcome State Fault Refusal := .next s.assertReset

/-- RESET_RELEASED: INIT begins (R156). Its writes are made at its end, as nothing is served between (assumption 6). -/
def execResetReleased (s : State) : Host.Outcome State Fault Refusal :=
  .next (if s.bus.op = .reset then s.modBus fun b => { b with op := .init } else s)

/-- The control area written and the bus path RUNNING (R156, R173). -/
def State.endInit (s : State) : State := (s.modMem Memory.init).modBus fun b => { b with op := .running }

/-- INIT_END: the bus path enters RUNNING, and a held transaction is served (R156, R173). -/
def execInitEnd (s : State) : Host.Outcome State Fault Refusal :=
  .next (if s.bus.op = .init then s.endInit.settle else s)

end Sys2Proof.Machine
end

