-- ==== Sys2Proof/Machine/Upstream.lean ====
section
/-! DEFINITION. The meanings of the upstream transactions' rows. Each presents its transaction to the bus path, which
holds it or serves it by the region of its address (R145, R152); what follows an event is then settled. -/

namespace Sys2Proof.Machine

/-- An upstream write presented to the bus path. -/
def State.upWrite (s : State) (a : BusAddr) (v : Word) : State :=
  (s.arrive { write := true, addr := a, data := v }).settle

/-- An upstream read presented to the bus path. -/
def State.upRead (s : State) (a : BusAddr) : State := (s.arrive { write := false, addr := a, data := 0 }).settle

/-- The bus address of control-area offset `off` (R175). -/
def ctlBus (off : Nat) : BusAddr := BitVec.ofNat 19 (ctlAddr off)

/-- RECORD_WINDOW_WRITE (R21). -/
def execRecordWindowWrite (a : BusAddr) (v : Word) (s : State) : Host.Outcome State Fault Refusal :=
  .next (s.upWrite a v)

/-- RECORD_WINDOW_READ (R37). -/
def execRecordWindowRead (a : BusAddr) (s : State) : Host.Outcome State Fault Refusal := .next (s.upRead a)

/-- PLAYBACK_WINDOW_READ (R80). -/
def execPlaybackWindowRead (a : BusAddr) (s : State) : Host.Outcome State Fault Refusal := .next (s.upRead a)

/-- PLAYBACK_WINDOW_WRITE (R148). -/
def execPlaybackWindowWrite (a : BusAddr) (v : Word) (s : State) : Host.Outcome State Fault Refusal :=
  .next (s.upWrite a v)

/-- RECORD_IMAGE_READ (R34). -/
def execRecordImageRead (a : BusAddr) (s : State) : Host.Outcome State Fault Refusal := .next (s.upRead a)

/-- RECORD_IMAGE_WRITE (R148). -/
def execRecordImageWrite (a : BusAddr) (v : Word) (s : State) : Host.Outcome State Fault Refusal :=
  .next (s.upWrite a v)

/-- OFF_TAPE_IMAGE_WRITE (R42). -/
def execOffTapeImageWrite (a : BusAddr) (v : Word) (s : State) : Host.Outcome State Fault Refusal :=
  .next (s.upWrite a v)

/-- WINDOW_TABLE_WRITE (R149, R175). -/
def execWindowTableWrite (k : Fin 4) (v : Word) (s : State) : Host.Outcome State Fault Refusal :=
  .next (s.upWrite (ctlBus (0x020 + k.val)) v)

/-- SETTINGS_WRITE (R164, R175). -/
def execSettingsWrite (k : Fin 7) (v : Word) (s : State) : Host.Outcome State Fault Refusal :=
  .next (s.upWrite (ctlBus (0x010 + k.val)) v)

/-- MASK_WORD_WRITE (R167, R175). -/
def execMaskWordWrite (k : Fin 6) (v : Word) (s : State) : Host.Outcome State Fault Refusal :=
  .next (s.upWrite (ctlBus (0x018 + k.val)) v)

/-- POLICY_RECORD_WRITE (R139, R175). -/
def execPolicyRecordWrite (k : Fin 21) (v : Word) (s : State) : Host.Outcome State Fault Refusal :=
  .next (s.upWrite (ctlBus (0x030 + k.val)) v)

/-- INPUT_STATUS_WRITE (R131, R175). -/
def execInputStatusWrite (v : Word) (s : State) : Host.Outcome State Fault Refusal := .next (s.upWrite (ctlBus 0x028) v)

/-- PRODUCER_INDEX_WRITE (R158, R175). -/
def execProducerIndexWrite (v : Word) (s : State) : Host.Outcome State Fault Refusal :=
  .next (s.upWrite (ctlBus 0x050) v)

/-- CAUSE_WORD_READ (R169, R175). -/
def execCauseWordRead (k : Fin 6) (s : State) : Host.Outcome State Fault Refusal :=
  .next (s.upRead (ctlBus (0x002 + k.val)))

/-- CONTROL_AREA_WRITE (R147, R175). -/
def execControlAreaWrite (off : BitVec 12) (v : Word) (s : State) : Host.Outcome State Fault Refusal :=
  .next (s.upWrite (ctlBus off.toNat) v)

end Sys2Proof.Machine
end

