-- ==== Sys2Proof/Machine/Dispatch.lean ====
section
/-! DEFINITION. The meaning of every command: one arm per constructor of Instr. -/

namespace Sys2Proof.Machine

def exec (i : Instr) (s : State) : Host.Outcome State Fault Refusal :=
  match i with
  | .resetAsserted => Sys2Proof.Machine.execResetAsserted s
  | .resetReleased => Sys2Proof.Machine.execResetReleased s
  | .initEnd => Sys2Proof.Machine.execInitEnd s
  | .recordWindowWrite a v => Sys2Proof.Machine.execRecordWindowWrite a v s
  | .recordWindowRead a => Sys2Proof.Machine.execRecordWindowRead a s
  | .playbackWindowRead a => Sys2Proof.Machine.execPlaybackWindowRead a s
  | .playbackWindowWrite a v => Sys2Proof.Machine.execPlaybackWindowWrite a v s
  | .recordImageRead a => Sys2Proof.Machine.execRecordImageRead a s
  | .recordImageWrite a v => Sys2Proof.Machine.execRecordImageWrite a v s
  | .offTapeImageWrite a v => Sys2Proof.Machine.execOffTapeImageWrite a v s
  | .windowTableWrite k v => Sys2Proof.Machine.execWindowTableWrite k v s
  | .settingsWrite k v => Sys2Proof.Machine.execSettingsWrite k v s
  | .maskWordWrite k v => Sys2Proof.Machine.execMaskWordWrite k v s
  | .policyRecordWrite k v => Sys2Proof.Machine.execPolicyRecordWrite k v s
  | .inputStatusWrite v => Sys2Proof.Machine.execInputStatusWrite v s
  | .producerIndexWrite v => Sys2Proof.Machine.execProducerIndexWrite v s
  | .causeWordRead k => Sys2Proof.Machine.execCauseWordRead k s
  | .controlAreaWrite off v => Sys2Proof.Machine.execControlAreaWrite off v s
  | .nop => Sys2Proof.Machine.execNop s
  | .recordStart mode hi lo => Sys2Proof.Machine.execRecordStart mode hi lo s
  | .recordStop => Sys2Proof.Machine.execRecordStop s
  | .playStart => Sys2Proof.Machine.execPlayStart s
  | .playStop => Sys2Proof.Machine.execPlayStop s
  | .monitorSelect source override => Sys2Proof.Machine.execMonitorSelect source override s
  | .editLoad handle kind hi lo pair => Sys2Proof.Machine.execEditLoad handle kind hi lo pair s
  | .editParam cond chan expo shape threshold span => Sys2Proof.Machine.execEditParam cond chan expo shape threshold span s
  | .editCancel handle => Sys2Proof.Machine.execEditCancel handle s
  | .editArm => Sys2Proof.Machine.execEditArm s
  | .editDisarm => Sys2Proof.Machine.execEditDisarm s
  | .locate hi lo => Sys2Proof.Machine.execLocate hi lo s
  | .locateCancel => Sys2Proof.Machine.execLocateCancel s
  | .policySeal => Sys2Proof.Machine.execPolicySeal s
  | .clearCounters => Sys2Proof.Machine.execClearCounters s
  | .clearSticky => Sys2Proof.Machine.execClearSticky s
  | .softResetRecord => Sys2Proof.Machine.execSoftResetRecord s
  | .softResetPlayback => Sys2Proof.Machine.execSoftResetPlayback s
  | .softResetEdit => Sys2Proof.Machine.execSoftResetEdit s
  | .softResetCounters => Sys2Proof.Machine.execSoftResetCounters s
  | .unknownCommand w => Sys2Proof.Machine.execUnknownCommand w s
  | .commandCompletion => Sys2Proof.Machine.execCommandCompletion s
  | .enginePortGrant => Sys2Proof.Machine.execEnginePortGrant s
  | .closeEnd => Sys2Proof.Machine.execCloseEnd s
  | .evaluationTake => Sys2Proof.Machine.execEvaluationTake s
  | .evaluationEnd => Sys2Proof.Machine.execEvaluationEnd s
  | .reportPassBegin => Sys2Proof.Machine.execReportPassBegin s
  | .reportPassEnd => Sys2Proof.Machine.execReportPassEnd s

end Sys2Proof.Machine
end

