-- ==== Sys2Proof/Safety.lean ====
section
/-! DEFINITION. What statements about the block are said in: the parts of State that a command leaves as they stand, the
conditions under which a transaction or a command is served at once, and the laws every state keeps. -/

namespace Sys2Proof.Machine

/-! ### Frames -/

/-- The parts of State that a frame names. The bus path is two of them: `bus` is what classifies and holds (operating
state, held transaction, those behind it, window table, validity), `port` is the arbiter's counts and what the last
transaction saw (R146, R154, R155). -/
inductive Part where
  | bus | port | coder | tape | dec | mon | edit | copy | settings | counters | cmd | rep | mem | pending
  deriving DecidableEq, Repr

/-- Part `p` is the same in both states. -/
def State.agree (s t : State) : Part → Prop
  | .bus => t.bus.op = s.bus.op ∧ t.bus.held = s.bus.held ∧ t.bus.waiting = s.bus.waiting ∧
      t.bus.table = s.bus.table ∧ t.bus.valid = s.bus.valid
  | .port => t.bus.counts = s.bus.counts ∧ t.bus.data = s.bus.data ∧ t.bus.treatment = s.bus.treatment ∧
      t.bus.accesses = s.bus.accesses
  | .coder => t.coder = s.coder
  | .tape => t.tape = s.tape
  | .dec => t.dec = s.dec
  | .mon => t.mon = s.mon
  | .edit => t.edit = s.edit
  | .copy => t.copy = s.copy
  | .settings => t.settings = s.settings
  | .counters => t.counters = s.counters
  | .cmd => t.cmd = s.cmd
  | .rep => t.rep = s.rep
  | .mem => t.mem = s.mem
  | .pending => t.pending = s.pending

/-- Every part but the listed ones is the same in both states. -/
def State.sameBut (ps : List Part) (s t : State) : Prop := ∀ p, p ∉ ps → s.agree t p

/-- Every word of buffer memory but those at the listed addresses reads as before. -/
def State.memSameBut (as : List Nat) (s t : State) : Prop :=
  ∀ a, a < Config.memoryWords → a ∉ as → t.peek a = s.peek a

/-- Cause `c` is set: RAISED or POSTED (R166). -/
def State.isSet (s : State) (c : Cause) : Bool := s.isRaised c || s.isPosted c

/-! ### Conditions -/

/-- Nothing holds an upstream transaction back: the bus path is RUNNING, none is held or waits, and no wait count stands
at 16 (R152 to R156). -/
abbrev State.portFree (s : State) : Prop :=
  s.bus.op = .running ∧ s.bus.held = none ∧ s.bus.waiting = [] ∧ s.bus.counts.guarded = false

/-- No upstream transaction is held, and none waits behind one. -/
abbrev State.noneHeld (s : State) : Prop := s.bus.held = none ∧ s.bus.waiting = []

/-- The row that presents a transaction. The bus path classifies it by its address whatever its row (R145, assumption 2). -/
def Txn.row (t : Txn) : Instr := if t.write then .recordWindowWrite t.addr t.data else .recordWindowRead t.addr

/-- The state with no transaction held. -/
def State.unheld (s : State) : State := s.modBus fun b => { b with held := none }

/-- `x` is held and nothing waits behind it; a read carries no data. -/
abbrev State.holds (s : State) (x : Held) : Prop :=
  s.bus.held = some x ∧ s.bus.waiting = [] ∧ (x.txn.write = false → x.txn.data = 0)

/-- Command `i` has been read and decoded, its taking is next (R159 step 4), and no transaction waits behind a hold. -/
abbrev State.aboutToTake (s : State) (i : Instr) : Prop :=
  s.bus.op = .running ∧ s.cmd.phase = .fetched i ∧ s.noneHeld

/-- What the command unit is left with by a command of kind `k` that its owner took with result `r` and marked a record or
raised a cause for: its completion waits for the next pass (R160, R168). -/
def CommandUnit.takenMarked (c : CommandUnit) (k : CmdKind) (r : Result) : CommandUnit := { c with phase := .waitPass k r }

/-- What the command unit is left with by a command whose owner marked and raised nothing: its completion is due at once
(R160, R168). -/
def CommandUnit.takenQuiet (c : CommandUnit) (k : CmdKind) (r : Result) : CommandUnit := { c with phase := .due k r }

/-! ### Laws of every state -/

/-- The ring (R157): at most 16 commands are outstanding, and one is while the command unit is busy (R158). -/
def CommandUnit.sound (c : CommandUnit) : Prop :=
  c.outstanding.toNat ≤ 16 ∧ (c.busy = true → c.producer ≠ c.consumer)

/-- Every counter lies in 0..65535 (R172). -/
def countersSound (v : Vector Nat 17) : Prop := ∀ c : Counter, v[c.index] ≤ Config.counterMax

/-- Every setting lies in its range (R164). -/
def Settings.sound (x : Settings) : Prop := ∀ k : Fin 7, (settingRange k).1 ≤ x.get k ∧ x.get k ≤ (settingRange k).2

/-- Every wait count lies in 0..16 (R154). -/
def WaitCounts.sound (w : WaitCounts) : Prop :=
  w.close ≤ Config.guardCount ∧ w.eval ≤ Config.guardCount ∧ w.report ≤ Config.guardCount

/-- The laws together: canonical memory, the ring, counters, settings, wait counts, and the pattern register's law that it
is never 0 (R92). -/
structure State.Sound (s : State) : Prop where
  mem : s.mem.wf = true
  ring : s.cmd.sound
  counters : countersSound s.counters
  settings : s.settings.sound
  waits : s.bus.counts.sound
  pattern : s.mon.pattern ≠ 0

/-- The frame addresses of COMPLETE off-tape slots are distinct (R51). -/
def Assembler.distinct (t : Assembler) : Prop :=
  ∀ j k : Fin 4, j ≠ k → t.slots[j].state = .complete → t.slots[k].state = .complete → t.slots[j].frame ≠ t.slots[k].frame

/-- The evaluation engine's slot and the slots that wait for it are EVALUATING, each once (R48). -/
def Assembler.evalSound (t : Assembler) : Prop :=
  t.evalQueue.Nodup ∧ (∀ k ∈ t.evalQueue, t.slots[k].state = .evaluating) ∧
    ∀ j, t.eval = some j → t.slots[j.slot].state = .evaluating ∧ j.slot ∉ t.evalQueue

/-- The edit list stands in strictly increasing location order and holds at most eight entries (R96). -/
def EditEngine.ordered (e : EditEngine) : Prop := e.list.length ≤ 8 ∧ (e.list.map Entry.loc).Pairwise (· < ·)

/-- The kinds of the entries alternate along the list, the first being opposite to the punch state, which is OUT unless the
record job is RECORDING (R96, R110). -/
def State.punchLaw (s : State) : Prop :=
  (∀ x, s.edit.list.head? = some x → (x.kind = .punchOut ↔ s.edit.punch = .inside)) ∧
    (s.edit.list.map Entry.kind).IsChain (· ≠ ·) ∧ (s.coder.job ≠ .recording → s.edit.punch = .outside)

/-! ### Block and error-rate judgements (R47, R49, R57) -/

/-- How many of a slot's fourteen blocks have a property. -/
def blockCount (p : Fin 14 → Bool) : Nat := (List.finRange 14).countP p

/-- `t` is what the test of R57 makes of `s` with the window, threshold and lock state that `t` has: ERROR_RATE raised, counted
and the monitor disarmed where the sum exceeds T while LOCKED and armed; else armed again at half of T or less. -/
def State.rateTested (s t : State) : Prop :=
  if t.settings.thresh < t.tape.window.sum ∧ t.tape.lock.state = .locked ∧ s.tape.rateArmed = true then
    t.tape.rateArmed = false ∧ t.isSet .errorRate = true ∧ t.counter .errorRate = min 65535 (s.counter .errorRate + 1)
  else
    t.tape.rateArmed = (s.tape.rateArmed || decide (2 * t.tape.window.sum ≤ t.settings.thresh)) ∧
    t.isSet .errorRate = s.isSet .errorRate ∧ t.counter .errorRate = s.counter .errorRate

/-! ### The output status and the delivery of a playback-window read (R80, R89 to R92, R137, R138) -/

/-- The output status is set again between `s` and `t`, and nothing else of copy control: while DECODED, to the copy status of
the slot bound to the last half read, or as it stood where there is no such slot (R138); while INPUT, to the derived
permission; while PATTERN or MUTE, to FREE (R137). The copy status record is reported where it changes, and only there. -/
def State.outputSet (s t : State) : Prop :=
  (t.mon.effective = .decoded →
    (∀ h : Fin 2, t.mon.lastHalf = some h →
      (∀ k : Fin 4, t.mon.halves[h] = some k → t.copy.output = t.tape.slots[k].status) ∧
      (t.mon.halves[h] = none → t.copy.output = s.copy.output)) ∧
    (t.mon.lastHalf = none → t.copy.output = s.copy.output)) ∧
  (t.mon.effective = .input → t.copy.output = t.copy.derived) ∧
  (t.mon.effective = .pattern ∨ t.mon.effective = .mute → t.copy.output = .free) ∧
  t.copy = { s.copy with output := t.copy.output } ∧
  t.rep.marks.copy = (s.rep.marks.copy || decide (t.copy.output ≠ s.copy.output))

/-- Memory reads of a word of a class: one as stored, six to rebuild it, none where it is lost (R65). -/
def readsOf : WordClass → Nat
  | .direct _ _ _ => 1
  | .rebuilt _ _ _ => 6
  | .lost => 0

/-- The delivery of a read of word `n` of channel `c` from `s` to `t`, `f` naming the frame of the half it lands in: the echo,
the attenuated pattern word with the register advanced, 0, or what the channel's MONITOR context gives for the word and the
next one in the slots as `t` has them, with the counter of that delivery (R60, R65, R71, R75, R80, R90 to R92). Of the
underrun counter it says nothing. -/
def State.delivered (s t : State) (f : Option Nat) (n : Nat) (c : Fin 2) : Prop :=
  let rest : Prop := t.bus.accesses = 0 ∧ t.dec = s.dec ∧ ∀ k : Counter, k ≠ .monitorUnderrun → t.counter k = s.counter k
  t.bus.treatment = .answered ∧
  match s.mon.effective with
  | .input => t.bus.data = s.mon.echo[c] ∧ t.mon.pattern = s.mon.pattern ∧ rest
  | .mute => t.bus.data = 0 ∧ t.mon.pattern = s.mon.pattern ∧ rest
  | .pattern =>
    t.bus.data.toInt = ((s.mon.pattern.toNat : Int) - 16384) / 2 ^ s.settings.atten ∧
    t.mon.pattern.toNat = (2 * s.mon.pattern.toNat) % 32768 +
      (s.mon.pattern.toNat / 16384 + s.mon.pattern.toNat / 8192 % 2) % 2 ∧ rest
  | .decoded =>
    let own := t.tape.classify none f n c.val
    let next := t.tape.classifyNext s.dec.mon[c] own none f n c.val
    let d := s.dec.mon[c].deliver s.settings.hold (s.classValue own) (s.classValue next)
    let counted : Counter → Prop := fun k =>
      (k = .wordsCorrected ∧ readsOf own = 6) ∨ (k = .wordsInterpolated ∧ d.kind = .interpolated) ∨
        (k = .wordsHeld ∧ d.kind = .held) ∨ (k = .wordsMuted ∧ d.kind = .decayed)
    t.bus.data = d.ctx.last ∧ t.bus.accesses = readsOf own + readsOf next ∧ t.mon.pattern = s.mon.pattern ∧
    t.dec = { s.dec with mon := vset s.dec.mon c d.ctx } ∧
    ∀ k : Counter, (counted k → t.counter k = min 65535 (s.counter k + 1)) ∧
      (¬counted k → k ≠ .monitorUnderrun → t.counter k = s.counter k)

/-! ### The return test and the end of a LOCATE (R112, R113) -/

/-- The return test of R113 on list `l`, `p` being the current record position, misses the entries `gone` and leaves `kept`.
The entries at the even places of `gone` are heads that `p` has passed by more than their search span, each missed with the
entry after it, if there is one; the test ends at a head that passes or at an empty list. -/
def returnSplit (p : Option Nat) (l gone kept : List Entry) : Prop :=
  l = gone ++ kept ∧ (gone.length % 2 = 0 ∨ kept = []) ∧
  (∀ (n : Nat) (x : Entry), gone[2 * n]? = some x → ∃ q, p = some q ∧ x.loc + x.span.getD 0 < q) ∧
  ∀ (x : Entry) (q : Nat), kept.head? = some x → p = some q → q ≤ x.loc + x.span.getD 0

/-- The outcome records with those of the entries `gone` set to MISSED (R113). -/
def missedRecords (gone : List Entry) (o : Vector OutcomeRec 8) : Vector OutcomeRec 8 :=
  Vector.ofFn fun h : Fin 8 => if gone.any (fun y => y.handle == h) then { o[h] with state := .missed } else o[h]

/-- The edit engine after a LOCATE's end (R112 steps 1 to 3): the comparator IDLE with the return test pending, where the list
is disarmed or empty or a fade wait stands; else the return test made on the list, and the head it leaves, if any, armed
(R104, R113). -/
def State.locateEnded (s t : State) : Prop :=
  (s.edit.arm = .disarmed ∨ s.edit.rearm ≠ none ∨ s.edit.list = [] →
    t.edit = { s.edit with owner := .idle, target := none, returnTest := true } ∧ t.isSet .missed = s.isSet .missed) ∧
  ∀ gone kept : List Entry, s.edit.arm = .armed → s.edit.rearm = none →
    (∃ x rest, s.edit.list = x :: rest ∧ x.state = .pending) → returnSplit s.coder.position s.edit.list gone kept →
    t.isSet .missed = (s.isSet .missed || !gone.isEmpty) ∧
    (kept = [] → t.edit = { s.edit with
      list := [], owner := .idle, target := none, returnTest := false,
      outcomes := missedRecords gone s.edit.outcomes }) ∧
    (∀ z rest, kept = z :: rest → t.edit = { s.edit with
      list := { z with state := .armed } :: rest, owner := .waitL1, target := none, returnTest := false,
      entry := some z.handle, deadline := none, prevTrig := none,
      outcomes := vset (missedRecords gone s.edit.outcomes) z.handle
        { s.edit.outcomes[z.handle] with state := .armed } })

/-! ### The stop of a record job (R29, R35, R58, R89, R110) -/

/-- The edit engine after the stop of a record job (R110): the list DISARMED, the comparator entry returned to PENDING, the
deadline, previous trigger value and re-arm position none, and the punch OUT with no transition; a PUNCH_OUT at the head leaves
the list CANCELLED where the punch was IN. -/
def State.editStopped (s t : State) : Prop :=
  let waits := s.edit.owner = .waitL1 ∨ s.edit.owner = .waitL2
  t.edit = { s.edit with
    arm := .disarmed, owner := if waits then .idle else s.edit.owner, entry := if waits then none else s.edit.entry,
    deadline := none, prevTrig := none, rearm := none, punch := .outside, trans := none, list := t.edit.list,
    outcomes := t.edit.outcomes } ∧
  (s.edit.list = [] → t.edit.list = [] ∧ t.edit.outcomes = s.edit.outcomes) ∧
  ∀ x rest, s.edit.list = x :: rest →
    let ends := s.edit.punch = .inside ∧ x.kind = .punchOut
    (ends → t.edit.list = rest ∧ t.edit.outcomes =
      vset s.edit.outcomes x.handle { s.edit.outcomes[x.handle] with state := .cancelled }) ∧
    (¬ends → waits → t.edit.list = { x with state := .pending } :: rest ∧ t.edit.outcomes =
      vset s.edit.outcomes x.handle { s.edit.outcomes[x.handle] with state := .pending }) ∧
    (¬ends → ¬waits → t.edit.list = s.edit.list ∧ t.edit.outcomes = s.edit.outcomes)

/-- The off-tape assembler after the mix holds have lapsed (R58): a COMPLETE slot that is neither queued nor bound goes FREE
with its frame fields and block records as they stand, which is reported, and nothing else of the assembler changes. -/
def State.mixHoldsLapsed (s t : State) : Prop :=
  t.tape = { s.tape with slots := t.tape.slots } ∧
  (∀ k : Fin 4, t.tape.slots[k] =
    if s.tape.slots[k].state = .complete ∧ k ∉ s.mon.queue ∧ ∀ h : Fin 2, s.mon.halves[h] ≠ some k then
      { s.tape.slots[k] with state := .free }
    else s.tape.slots[k]) ∧
  (t.tape ≠ s.tape → t.rep.marks.playback = true)

/-- The effective source re-judged between `s` and `t` (R89): a change of it is reported and the output status set again, and
one to DECODED re-enters both MONITOR contexts on the ramp; where it does not change, those stay as they stand. -/
def State.sourceJudged (s t : State) : Prop :=
  t.mon = { s.mon with effective := t.effectiveOf } ∧
  (t.effectiveOf = s.mon.effective → t.copy = s.copy) ∧
  (t.effectiveOf ≠ s.mon.effective → s.outputSet t ∧ t.rep.marks.playback = true) ∧
  (t.effectiveOf = .decoded → s.mon.effective ≠ .decoded → ∀ c : Fin 2, t.dec.mon[c] = Ctx.reentry) ∧
  (t.effectiveOf ≠ .decoded ∨ s.mon.effective = .decoded → t.dec.mon = s.dec.mon)

/-! ### What INIT writes (R173, R175, R177) -/

/-- The word INIT writes at control-area offset `off`, from R173, the layouts of R175 and the reset values of the owning
chapters; 0 wherever none of them names another value. -/
def initValue (off : Nat) : Word :=
  if off = 0x000 then 0x6121
  else if off = 0x011 then 8 else if off = 0x012 then 4 else if off = 0x013 then 7 else if off = 0x014 then 16
  else if off = 0x015 then 24 else if off = 0x016 then 4
  else if off = 0x018 then 0x007F else if off = 0x019 then 0x00FF else if off = 0x01A then 0x000F
  else if off = 0x01B then 0x0005 else if off = 0x01C then 0x0006 else if off = 0x01D then 0x0003
  else if off = 0x020 ∨ off = 0x212 then 0x70 else if off = 0x021 ∨ off = 0x213 then 0x71
  else if off = 0x022 ∨ off = 0x214 then 0x72 else if off = 0x023 ∨ off = 0x215 then 0x74
  else if off = 0x028 then 2
  else if 0x208 ≤ off ∧ off ≤ 0x20E then 0xFFFF
  else if off = 0x211 then 3
  else if 0x220 ≤ off ∧ off ≤ 0x277 ∧ ((off - 0x220) % 22 = 6 ∨ (off - 0x220) % 22 = 7) then 2
  else if off = 0x302 then 1
  else if 0x303 ≤ off ∧ off ≤ 0x309 then 0xFFFF
  else if 0x310 ≤ off ∧ off ≤ 0x38F ∧ 1 ≤ off % 16 ∧ off % 16 ≤ 8 then 0xFFFF
  else 0

/-! ### What a report pass writes (R171, R172, R175) -/

/-- An absent field's word is 0xFFFF (R175). -/
def orAbsent (o : Option Nat) : Nat := o.getD 0xFFFF

/-- A flag's word (R175). -/
def flagBit (b : Bool) : Nat := if b then 1 else 0

/-- A position as frame address high part, low part and pair (R175). -/
def positionFields (o : Option Nat) : List Nat :=
  [orAbsent (o.map fun q => q / 768 / 65536), orAbsent (o.map fun q => q / 768 % 65536), orAbsent (o.map fun q => q % 768)]

/-- The fields of the record status record in the order of R175, by offset. -/
def State.recordFields (s : State) : List (Nat × Nat) :=
  [(0x100, s.coder.job.code), (0x101, s.coder.mode.code), (0x102, s.coder.r / 65536), (0x103, s.coder.r % 65536),
    (0x104, s.coder.fillCount), (0x105, flagBit s.coder.sticky)] ++
  (List.finRange 4).flatMap fun k =>
    [(0x108 + 3 * k.val, s.coder.slots[k].state.code), (0x109 + 3 * k.val, s.coder.slots[k].frame / 65536),
      (0x10A + 3 * k.val, s.coder.slots[k].frame % 65536)]

/-- The fields of the playback status record in the order of R175, by offset, with the state word of each slot-table entry. -/
def State.playbackFields (s : State) : List (Nat × Nat) :=
  [(0x200, s.tape.run.code), (0x201, s.tape.lock.state.code), (0x202, s.tape.lock.expected / 65536),
    (0x203, s.tape.lock.expected % 65536), (0x204, s.tape.fillPtr.val), (0x205, flagBit s.tape.sticky),
    (0x206, s.tape.window.sum), (0x207, s.mon.queue.length), (0x208, orAbsent (s.mon.queue[0]?.map Fin.val)),
    (0x209, orAbsent (s.mon.queue[1]?.map Fin.val)), (0x20A, orAbsent (s.mon.queue[2]?.map Fin.val)),
    (0x20B, orAbsent (s.mon.queue[3]?.map Fin.val)), (0x20C, orAbsent (s.mon.halves[(0 : Fin 2)].map Fin.val)),
    (0x20D, orAbsent (s.mon.halves[(1 : Fin 2)].map Fin.val)), (0x20E, orAbsent (s.mon.lastHalf.map Fin.val)),
    (0x20F, s.mon.selected.code), (0x210, flagBit s.mon.override), (0x211, s.mon.effective.code),
    (0x212, s.bus.table[(0 : Fin 4)].toNat), (0x213, s.bus.table[(1 : Fin 4)].toNat),
    (0x214, s.bus.table[(2 : Fin 4)].toNat), (0x215, s.bus.table[(3 : Fin 4)].toNat), (0x216, flagBit !s.bus.valid)] ++
  (List.finRange 4).map fun k => (0x220 + 22 * k.val, s.tape.slots[k].state.code)

/-- The fields of the edit status record in the order of R175, by offset. -/
def State.editFields (s : State) : List (Nat × Nat) :=
  let x := s.edit.trans
  ([s.edit.arm.code, s.edit.owner.code, s.edit.punch.code] ++ positionFields (x.map Transition.pos) ++
    [orAbsent (x.map fun y => y.kind.code), orAbsent (x.map fun y => y.len), orAbsent (x.map fun y => y.shape.code),
      orAbsent (x.map fun y => y.prior.code)]).mapIdx (fun n v => (0x300 + n, v)) ++
  (List.finRange 8).flatMap fun h =>
    let o := s.edit.outcomes[h]
    ([o.state.code, orAbsent (o.kind.map PunchKind.code)] ++ positionFields o.loc ++ positionFields o.fire ++
      [orAbsent (o.forced.map flagBit)]).mapIdx fun n v => (0x310 + 16 * h.val + n, v)

/-- The fields of the copy status record in the order of R175, by offset. -/
def State.copyFields (s : State) : List (Nat × Nat) :=
  [(0x3A0, s.copy.derived.code), (0x3A1, s.copy.recording.code), (0x3A2, flagBit s.copy.sealed), (0x3A3, s.copy.output.code)]

/-- The counters in the order of R172, by offset. -/
def State.counterFields (s : State) : List (Nat × Nat) := (List.finRange 17).map fun n => (0x3B0 + n.val, s.counters[n])

/-- The policy record as the shadow holds it, by offset (R141, R175). -/
def State.policyFields (s : State) : List (Nat × Nat) :=
  (0x030, s.copy.analog.code) ::
  (List.finRange 4).flatMap fun n =>
    let r := s.copy.ranges[n]
    [(0x031 + 5 * n.val, r.start / 65536), (0x032 + 5 * n.val, r.start % 65536), (0x033 + 5 * n.val, r.stop / 65536),
      (0x034 + 5 * n.val, r.stop % 65536), (0x035 + 5 * n.val, flagBit r.enable)]

/-- The words that a pass beginning now writes with their values as they stand: the fields of the records marked changed, and
the policy where its write-back is due (R141, R168). -/
def State.dueFields (s : State) : List (Nat × Nat) :=
  (if s.rep.marks.record then s.recordFields else []) ++ (if s.rep.marks.playback then s.playbackFields else []) ++
  (if s.rep.marks.edit then s.editFields else []) ++ (if s.rep.marks.copy then s.copyFields else []) ++
  (if s.rep.marks.counters then s.counterFields else []) ++ (if s.rep.backPolicy then s.policyFields else [])

/-! ### Parity of a record slot (R9, R10) -/

/-- The stored value of payload word `p` of data block `b` of record slot `k`, an unwritten word counting as 0 (R10). -/
def State.dataValue (s : State) (k : Fin 4) (b p : Nat) : Word :=
  s.recOld k (slotOffset b (2 + p)) (s.coder.slots[k].isWritten b p)

/-- The parity word of group `g` at `p` of record slot `k`, an untouched word counting as 0 (R10). -/
def State.parityValue (s : State) (k : Fin 4) (g p : Nat) : Word :=
  s.recOld k (slotOffset (12 + g) (2 + p)) (s.coder.slots[k].isTouched g p)

/-- The parity relation of R9 as R10 keeps it in a slot that is being written. -/
def State.parityHolds (s : State) (k : Fin 4) : Prop :=
  ∀ g p, g < 2 → p < 128 →
    s.parityValue k g p = (List.range 6).foldl (fun w n => w ^^^ s.dataValue k (2 * n + g) p) 0

end Sys2Proof.Machine
end

