-- ==== Sys2Proof/Certificates/Slice0/Obligations.lean ====
section
/-! DEFINITION. The statements for the provers. A statement about a command says for which states and operands it answers a
next state, what that state holds, and in `sameBut` and `memSameBut` what it leaves as it stands. -/

section

open Sys2Proof Sys2Proof.Machine

/-! ### The queue, reset, and the laws of every state -/

/-- A step takes the command at the front of the queue and runs it on the state with the queue's rest. On an empty queue the
block idles, which is the model's choice (assumption 4). -/
def Obligations.StepRunsFrontCommand : Prop :=
  (∀ (c : Instr) (rest : List Instr) (s : State),
    step { s with pending := c :: rest } = exec c { s with pending := rest }) ∧
  ∀ s : State, s.pending = [] → step s = .next s

/-- The state after the RESET input keeps every law of `State.Sound`, and the laws of COMPLETE off-tape slots and of the edit
list, which alternate in kind (R96). -/
def Obligations.ResetKeepsTheLaws : Prop :=
  State.reset.Sound ∧ State.reset.tape.distinct ∧ State.reset.tape.evalSound ∧ State.reset.edit.ordered ∧
  State.reset.punchLaw

/-- Every step keeps the laws together: canonical memory, at most 16 outstanding commands (R157, R158), counters in range
(R172), settings in range (R164), wait counts in range (R154), the pattern register not 0 (R92). -/
def Obligations.StepKeepsSound : Prop := ∀ s t : State, s.Sound → step s = .next t → t.Sound

/-- The values the chapters give after the RESET input (R16, R19, R21, R39, R41, R46, R50, R52, R57, R62, R66, R79, R93,
R128, R130, R149, R154, R157, R164, R166, R167, R172). That no transaction is held in `State.reset` is the model's
(assumption 10): R156 keeps a transaction that a RESET finds held. -/
def Obligations.ResetValues : Prop :=
  let s := State.reset
  s.coder.job = .idle ∧ s.coder.mode = .assemble ∧ s.coder.r = 0 ∧ s.coder.ringPtr = 0 ∧ s.coder.curHalf = none ∧
  s.coder.latch = none ∧ s.coder.sticky = false ∧ s.coder.recPos = none ∧
  (∀ k : Fin 4, s.coder.slots[k] =
    { state := .free, frame := 0, rate := 0, written := Vector.replicate 12 0, touched := Vector.replicate 2 0,
      sums := Vector.replicate 14 { s1 := 0, s2 := 0 }, oldOnly := false, closePending := false }) ∧
  (∀ h : Fin 2, s.coder.halves[h] = .unbound ∧ s.coder.source[h] = .free) ∧
  s.tape.run = .stopped ∧ s.tape.fillPtr = 0 ∧ s.tape.wait = none ∧ s.tape.sticky = false ∧ s.tape.window = [] ∧
  s.tape.rateArmed = true ∧
  s.tape.lock = { state := .search, expected := 0, run := 0, mismatch := 0, flywheel := 0 } ∧
  s.tape.carriedRate = 0 ∧ s.tape.carriedStatus = .free ∧
  (∀ k : Fin 4, s.tape.slots[k].state = .free ∧ s.tape.slots[k].frame = 0 ∧ s.tape.slots[k].rate = 0 ∧
    s.tape.slots[k].status = .free ∧ s.tape.slots[k].good = 0 ∧ s.tape.slots[k].corrA = .uncorrectable ∧
    s.tape.slots[k].corrB = .uncorrectable ∧
    ∀ b : Fin 14, s.tape.slots[k].blocks[b] =
      { status := .empty, sums := { s1 := 0, s2 := 0 }, seen := 0, headA := 0, headB := 0, w130 := 0 }) ∧
  (∀ c : Fin 2, s.dec.mon[c] = { last := 0, mode := .normal, hold := 0, step := 0 } ∧
    s.dec.mix[c] = { last := 0, mode := .normal, hold := 0, step := 0 }) ∧ s.dec.rateMark = none ∧
  s.mon.selected = .auto ∧ s.mon.override = false ∧ s.mon.effective = .mute ∧ s.mon.lastHalf = none ∧ s.mon.queue = [] ∧
  s.mon.pattern = 1 ∧ (∀ c : Fin 2, s.mon.echo[c] = 0 ∧ s.mon.halves[c] = none) ∧
  s.edit.list = [] ∧ s.edit.arm = .disarmed ∧ s.edit.owner = .idle ∧ s.edit.entry = none ∧ s.edit.deadline = none ∧
  s.edit.prevTrig = none ∧ s.edit.target = none ∧ s.edit.punch = .outside ∧ s.edit.trans = none ∧
  s.edit.rearm = none ∧ s.edit.returnTest = false ∧ s.edit.param = none ∧
  (∀ h : Fin 8, s.edit.outcomes[h] = { state := .unused, kind := none, loc := none, fire := none, forced := none }) ∧
  s.copy.sealed = false ∧ s.copy.derived = .free ∧ s.copy.recording = .free ∧ s.copy.analog = .free ∧
  s.copy.output = .free ∧ s.copy.input = { format := 2, permitted := false, isCopy := false, category := false } ∧
  (∀ n : Fin 4, s.copy.ranges[n] = { start := 0, stop := 0, enable := false, active := false } ∧
    s.copy.contrib[n].refused = false ∧ s.copy.contrib[n].gotNew = false ∧ s.copy.contrib[n].gotOld = false) ∧
  s.settings = { rate := 0, hold := 8, flywheel := 4, quorum := 7, window := 16, thresh := 24, atten := 4 } ∧
  (∀ c : Counter, s.counter c = 0) ∧
  s.bus.op = .reset ∧ s.bus.held = none ∧ s.bus.table = #v[0x70, 0x71, 0x72, 0x74] ∧ s.bus.valid = true ∧
  s.bus.counts = { close := 0, eval := 0, report := 0 } ∧
  s.cmd.producer = 0 ∧ s.cmd.consumer = 0 ∧ s.cmd.prev = none ∧ s.cmd.busy = false ∧
  (∀ c : Cause, s.isRaised c = false ∧ s.isPosted c = false) ∧
  s.rep.masks = #v[0x007F, 0x00FF, 0x000F, 0x0005, 0x0006, 0x0003] ∧ s.rep.alert = false

/-- RESET_ASSERTED takes every block to its value after the RESET input and leaves buffer memory as it stands; a transaction
in progress or held stays held. RESET_RELEASED begins INIT, and INIT_END leaves the bus path RUNNING with every word of the
control area at its INIT value and every other word of memory as it stands (R156, R173); a held transaction is then served,
as if it arrived on the state INIT leaves. The model's own: that the words are all written at the end (assumption 6), the
transactions that wait behind a held one (assumption 5), the open-frame fill count of 0 in word 0x104 (assumption 15), and
the values after RESET of the fields the spec does not name, such as the last data returned (assumption 10). -/
def Obligations.ResetAndInit : Prop :=
  (∀ s : State, ∃ t, exec .resetAsserted s = .next t ∧ State.reset.sameBut [.bus, .mem, .pending] t ∧
       t.bus.op = .reset ∧ t.bus.table = Config.resetPages ∧ t.bus.valid = true ∧
       t.bus.held = s.bus.held.map (fun h => { txn := h.txn, kind := .init }) ∧ t.bus.waiting = s.bus.waiting ∧
       s.sameBut [.bus, .port, .coder, .tape, .dec, .mon, .edit, .copy, .settings, .counters, .cmd, .rep] t) ∧
  ((∀ s : State, s.bus.op = .reset → ∃ t, exec .resetReleased s = .next t ∧ t.bus.op = .init ∧ s.sameBut [.bus] t ∧
       t.bus.held = s.bus.held ∧ t.bus.waiting = s.bus.waiting ∧ t.bus.table = s.bus.table ∧ t.bus.valid = s.bus.valid) ∧
     (∀ s : State, s.bus.op = .init → s.noneHeld → s.mem.wf = true →
       ∃ t, exec .initEnd s = .next t ∧ t.bus.op = .running ∧ s.sameBut [.bus, .port, .mem] t ∧
         t.bus.table = s.bus.table ∧ t.bus.valid = s.bus.valid ∧ t.noneHeld ∧
         (∀ off, off < 4096 → t.peek (ctlAddr off) = initValue off) ∧
         ∀ a, a < Config.controlBase → t.peek a = s.peek a) ∧
     ∀ (s : State) (x : Held), s.bus.op = .init → s.holds x → x.kind = .init → s.bus.counts.guarded = false →
       ∃ u, exec .initEnd s.unheld = .next u ∧ u.bus.op = .running ∧ exec .initEnd s = exec x.txn.row u)

/-- A raise makes a CLEAR cause RAISED, leaves a RAISED or POSTED one as it stands, and touches no other cause (R166). -/
def Obligations.RaiseMovesOnlyAClearCause : Prop :=
  ∀ (s : State) (c d : Cause),
    (s.raise c).isPosted d = s.isPosted d ∧
    (s.raise c).isRaised d = (s.isRaised d || (d == c && !s.isPosted c)) ∧ s.sameBut [.rep] (s.raise c) ∧
    (s.raise c).rep = { s.rep with raised := (s.raise c).rep.raised }

/-! ### The tape frame format -/

/-- The interleave of R4 and its inverse of R5 undo each other between the 768 × 2 sample words and the 12 × 128 data
payload words; the two channels of a pair, and a word and the next of its channel, lie in different groups, also across the
frame edge (R6). -/
def Obligations.InterleaveIsOneToOne : Prop :=
  (∀ n c, n < 768 → c < 2 → blockOf n c < 12 ∧ posOf n < 128 ∧
    pairOf (blockOf n c) (posOf n) = n ∧ chanOf (blockOf n c) (posOf n) = c) ∧
  (∀ b p, b < 12 → p < 128 → pairOf b p < 768 ∧ chanOf b p < 2 ∧
    blockOf (pairOf b p) (chanOf b p) = b ∧ posOf (pairOf b p) = p) ∧
  (∀ n, n < 768 → groupOf (blockOf n 0) ≠ groupOf (blockOf n 1)) ∧
  (∀ n c, n < 767 → c < 2 → groupOf (blockOf n c) ≠ groupOf (blockOf (n + 1) c)) ∧
  ∀ c, c < 2 → groupOf (blockOf 767 c) ≠ groupOf (blockOf 0 c)

/-- R14: the update of a block's sums by one changed word, in integers with the mod rule of R1. -/
def Obligations.SumsUpdateByResidue : Prop :=
  ∀ (σ : Sums) (i : Nat) (old new : Word), i < 130 → σ.s1 < 65535 → σ.s2 < 65535 →
    ((σ.update i old new).s1 : Int) = ((σ.s1 : Int) + new.toNat - old.toNat) % 65535 ∧
    ((σ.update i old new).s2 : Int) = ((σ.s2 : Int) + (i + 1) * ((new.toNat : Int) - old.toNat)) % 65535 ∧
    (σ.update i old new).s1 < 65535 ∧ (σ.update i old new).s2 < 65535 ∧
    σ.update i 0 0xFFFF = σ ∧ σ.update i 0xFFFF 0 = σ

/-- Updating the sums of a block by a changed word gives the sums of the changed block (R12, R14). -/
def Obligations.SumsFollowTheBlock : Prop :=
  ∀ (ws : List Word) (i : Nat) (v : Word) (h : i < ws.length),
    (sumsOf ws).update i ws[i] v = sumsOf (ws.set i v)

/-- What the close engine writes into header A and header B is what the assembler reads from them: block index, rate code,
copy status and frame address, and the header tests pass (R7, R8, R47, R174). -/
def Obligations.HeadersReadBack : Prop :=
  ∀ (b rate f : Nat) (st : CopyStatus), b < 14 → rate < 3 → f ≤ Config.maxFrame →
    headIndex (headerA b rate st f) = b ∧ headRate (headerA b rate st f) = rate ∧
    CopyStatus.ofCode (headStatus (headerA b rate st f)) = st ∧
    headFrame (headerA b rate st f) (headerB f) = f ∧ headerOk b (headerA b rate st f) = true ∧
    (headerA b rate st f).extractLsb' 8 4 = 0

/-- A word stored by R24 reads back, leaves every other data word of the slot as it was, and keeps the parity relation of
R9 as R10 has it: the parity words stay the XOR of the words stored. -/
def Obligations.StoreKeepsParity : Prop :=
  ∀ (s : State) (k : Fin 4) (b p : Nat) (x : Word), s.mem.wf = true → b < 12 → p < 128 → s.parityHolds k →
    (s.storeWord k b p x).parityHolds k ∧ (s.storeWord k b p x).dataValue k b p = x ∧
    ∀ b' p', b' < 12 → p' < 128 → (b' ≠ b ∨ p' ≠ p) →
      (s.storeWord k b p x).dataValue k b' p' = s.dataValue k b' p'

/-! ### Ring words -/

/-- A well-formed ring command written as its words is decoded to itself, with every operand at every value (R159, R176). -/
def Obligations.RingEntriesRoundTrip : Prop :=
  ∀ (i : Instr) (w a1 a2 : Word), WellFormed i = true → ringEntry i = some (w, a1, a2) → decodeEntry w a1 a2 = i

/-! ### The record path -/

/-- RECORD_START. The tests of R17 in order, and where one applies the command has no effect but its result. Else it is taken
(R18, R62, R110, R133): the job RECORDING at R = A with both halves unbound and no transition held, the policy sealed, the
permission sampled, and in ASSEMBLE mode the list disarmed. The record slots stay as they stand. -/
def Obligations.RecordStartJudgedAndTaken : Prop :=
  (∀ (s : State) (m : BitVec 2) (hi lo : Word), s.aboutToTake (.recordStart m hi lo) →
       ∀ r : Result,
         (if s.coder.job ≠ .idle then r = .state
           else if s.bus.valid = false then r = .state
           else if 2 ≤ m.toNat ∨ 1048575 < 65536 * hi.toNat + lo.toNat then r = .range
           else m = 0 ∧ s.copy.isProtected (65536 * hi.toNat + lo.toNat) = true ∧ r = .prot) →
         ∃ t, exec (.recordStart m hi lo) s = .next t ∧ t.cmd = s.cmd.takenQuiet .recordStart r ∧ s.sameBut [.port, .cmd] t) ∧
  (∀ (s : State) (m : BitVec 2) (hi lo : Word), s.aboutToTake (.recordStart m hi lo) →
       s.coder.job = .idle → s.bus.valid = true → m.toNat < 2 → 65536 * hi.toNat + lo.toNat ≤ 1048575 →
       (m = 0 → s.copy.isProtected (65536 * hi.toNat + lo.toNat) = false) →
       ∃ t, exec (.recordStart m hi lo) s = .next t ∧
         t.cmd = s.cmd.takenMarked .recordStart .done ∧
         t.coder = { s.coder with
           job := .recording, mode := if m = 0 then .assemble else .insert, r := 65536 * hi.toNat + lo.toNat,
           halves := #v[.unbound, .unbound], curHalf := none, latch := none, recPos := none } ∧
         t.edit.punch = .outside ∧ t.edit.trans = none ∧ t.edit.deadline = none ∧ t.edit.prevTrig = none ∧
         t.edit.rearm = none ∧ t.edit.target = s.edit.target ∧ t.edit.returnTest = s.edit.returnTest ∧
         t.edit.param = s.edit.param ∧ t.edit.list.map Entry.handle = s.edit.list.map Entry.handle ∧
         (m = 0 → t.edit.arm = .disarmed ∧ t.edit.waiting = false) ∧
         (m ≠ 0 → t.edit = { s.edit with punch := .outside, trans := none, deadline := none, prevTrig := none, rearm := none }) ∧
         t.dec.rateMark = none ∧ t.dec.mix = s.dec.mix ∧
         t.copy.sealed = true ∧ t.copy.recording = s.copy.derived ∧ t.copy.derived = s.copy.derived ∧
         t.copy.input = s.copy.input ∧ t.copy.analog = s.copy.analog ∧ t.copy.contrib = s.copy.contrib ∧
         t.mon.effective = t.effectiveOf ∧ t.mon = { s.mon with effective := t.mon.effective } ∧
         t.rep.raised = s.rep.raised ∧ t.rep.posted = s.rep.posted ∧ t.rep.marks.record = true ∧
         s.sameBut [.port, .coder, .dec, .mon, .edit, .copy, .cmd, .rep] t)

/-- RECORD_STOP: refused with STATE and no effect unless the job is RECORDING; else taken: the OPEN slot's close begins or
waits, the latch is empty, and the job is STOPPING, or IDLE at once where no slot is OPEN or CLOSING (R35, R31). The list is
disarmed, the comparator entry returned to PENDING, the punch OUT with no transition, and a PUNCH_OUT at the head cancelled
where the punch was IN (R110); every off-tape slot that only the mix hold kept is freed (R58). The MIX contexts and their
source statuses stay (R74, R128). The effective source is re-judged, and the output status follows a change of it (R89, R137,
R138). -/
def Obligations.RecordStopStops : Prop :=
  ∀ s : State, s.aboutToTake .recordStop →
    (s.coder.job ≠ .recording →
      ∃ t, exec .recordStop s = .next t ∧ t.cmd = s.cmd.takenQuiet .recordStop .state ∧ s.sameBut [.port, .cmd] t) ∧
    (s.coder.job = .recording →
      ∃ t, exec .recordStop s = .next t ∧ t.cmd = s.cmd.takenMarked .recordStop .done ∧
        t.coder.job = (if t.coder.unfinished then .stopping else .idle) ∧
        t.coder = { s.coder with job := t.coder.job, latch := none, slots := t.coder.slots, close := t.coder.close } ∧
        (∀ k : Fin 4, s.coder.currentOpen = some k → s.coder.close = none →
          t.coder.slots[k] = { s.coder.slots[k] with state := .closing, closePending := false } ∧
          t.coder.close = some (s.coder.slots[k].closeJob k)) ∧
        (∀ k : Fin 4, s.coder.currentOpen = some k → s.coder.close ≠ none →
          t.coder.slots[k] = { s.coder.slots[k] with closePending := true } ∧ t.coder.close = s.coder.close) ∧
        (s.coder.currentOpen = none → t.coder.close = s.coder.close) ∧
        (∀ k : Fin 4, s.coder.currentOpen ≠ some k → t.coder.slots[k] = s.coder.slots[k]) ∧
        s.editStopped t ∧ s.mixHoldsLapsed t ∧ s.sourceJudged t ∧ t.dec.mix = s.dec.mix ∧
        t.dec.rateMark = s.dec.rateMark ∧ t.rep.marks.record = true ∧ t.rep.marks.edit = true ∧
        t.rep.raised = s.rep.raised ∧ s.sameBut [.port, .coder, .tape, .dec, .mon, .edit, .copy, .cmd, .rep] t)

/-- SOFT_RESET RECORD (R38): OPEN and CLOSING slots freed with their maps and sums as they stand, READY slots and what is
bound to them kept, the job IDLE, the latch and both MIX contexts reset, and every off-tape slot freed that only the mix hold
kept (R58); the list disarmed, the comparator entry returned to PENDING, the punch OUT, and a PUNCH_OUT at the head cancelled
where the punch was IN (R110); memory, R, the mode, the ring pointer, the sticky flag and the counters as they stand. A job
that leaves rest is reported (R110, R168); a reset that changes no field of a status record marks none, so that its completion
is due at once (R168, R171, assumption 18). The effective source is re-judged, and a change of it is reported (R89); the output status then follows it by R137 and R138:
the derived permission for INPUT, FREE for PATTERN and MUTE, the bound frame's for DECODED, which re-enters both MONITOR
contexts on the ramp. That it does so, beside R143, is the model's choice (assumption 30). -/
def Obligations.SoftResetRecordRests : Prop :=
  ∀ s : State, s.aboutToTake .softResetRecord →
    ∃ t, exec .softResetRecord s = .next t ∧
      (s.coder.job ≠ .idle → t.cmd = s.cmd.takenMarked .softReset .done ∧ t.rep.marks.record = true ∧
        t.rep.marks.edit = true) ∧
      (s.coder.unfinished = true → t.cmd = s.cmd.takenMarked .softReset .done ∧ t.rep.marks.record = true) ∧
      (s.coder.job = .idle → s.coder.unfinished = false → t.tape = s.tape → t.mon = s.mon → t.edit.arm = s.edit.arm →
        t.edit.owner = s.edit.owner → t.edit.punch = s.edit.punch → t.edit.trans = s.edit.trans →
        t.edit.outcomes = s.edit.outcomes → t.cmd = s.cmd.takenQuiet .softReset .done ∧ t.rep = s.rep) ∧
      (t.cmd = s.cmd.takenMarked .softReset .done ∨ t.cmd = s.cmd.takenQuiet .softReset .done) ∧
      t.rep.raised = s.rep.raised ∧
      t.mon = { s.mon with effective := t.effectiveOf } ∧
      (t.effectiveOf = s.mon.effective → t.copy = s.copy) ∧
      (t.effectiveOf ≠ s.mon.effective → s.outputSet t ∧ t.cmd = s.cmd.takenMarked .softReset .done ∧
        t.rep.marks.playback = true) ∧
      (t.effectiveOf = .decoded → s.mon.effective ≠ .decoded → ∀ c : Fin 2, t.dec.mon[c] = Ctx.reentry) ∧
      (t.effectiveOf ≠ .decoded ∨ s.mon.effective = .decoded → t.dec.mon = s.dec.mon) ∧
      t.coder.job = .idle ∧ t.coder.latch = none ∧ t.coder.curHalf = none ∧ t.coder.close = none ∧
      t.coder.mode = s.coder.mode ∧ t.coder.r = s.coder.r ∧ t.coder.ringPtr = s.coder.ringPtr ∧
      t.coder.sticky = s.coder.sticky ∧
      (∀ k : Fin 4, t.coder.slots[k] = { s.coder.slots[k] with
        closePending := false
        state := if s.coder.slots[k].state = .ready then .ready else .free }) ∧
      (∀ h : Fin 2, ∀ k f, s.coder.halves[h] = .slot k f → s.coder.slots[k].state = .ready →
        t.coder.halves[h] = .slot k f) ∧
      (∀ h : Fin 2, ∀ k f, s.coder.halves[h] = .slot k f → s.coder.slots[k].state = .opened ∨ s.coder.slots[k].state = .closing →
        t.coder.halves[h] = .unbound) ∧
      (∀ h : Fin 2, ∀ f, s.coder.halves[h] = .absorbed f → t.coder.halves[h] = .unbound) ∧
      (let waits := s.edit.owner = .waitL1 ∨ s.edit.owner = .waitL2
       t.edit = { s.edit with
         arm := .disarmed, owner := if waits then .idle else s.edit.owner, entry := if waits then none else s.edit.entry,
         deadline := none, prevTrig := none, rearm := none, punch := .outside, trans := none, list := t.edit.list,
         outcomes := t.edit.outcomes } ∧
       (s.edit.list = [] → t.edit.list = [] ∧ t.edit.outcomes = s.edit.outcomes) ∧
       ∀ x rest, s.edit.list = x :: rest →
         let ends := s.edit.punch = .inside ∧ x.kind = .punchOut
         (ends → t.edit.list = rest ∧ t.edit.outcomes =
           vset s.edit.outcomes x.handle { s.edit.outcomes[x.handle] with state := .cancelled }) ∧
         (¬ends → waits → t.edit.list = { x with state := .pending } :: rest ∧ t.edit.outcomes =
           vset s.edit.outcomes x.handle { s.edit.outcomes[x.handle] with state := .pending }) ∧
         (¬ends → ¬waits → t.edit.list = s.edit.list ∧ t.edit.outcomes = s.edit.outcomes)) ∧
      t.tape = { s.tape with slots := t.tape.slots } ∧
      (∀ k : Fin 4, t.tape.slots[k] =
        if s.tape.slots[k].state = .complete ∧ k ∉ s.mon.queue ∧ ∀ h : Fin 2, s.mon.halves[h] ≠ some k then
          { s.tape.slots[k] with state := .free }
        else s.tape.slots[k]) ∧
      (∀ c : Fin 2, t.dec.mix[c] = Ctx.reset ∧ t.coder.source[c] = .free) ∧ t.dec.rateMark = none ∧
      t.copy.contrib = s.copy.contrib ∧ t.copy.recording = s.copy.recording ∧ t.copy.sealed = s.copy.sealed ∧
      s.sameBut [.port, .coder, .tape, .dec, .mon, .edit, .copy, .cmd, .rep] t

/-- A record-window write of (n, c) in ASSEMBLE mode into the current half, bound to the OPEN slot `k`, is a word write of
the resolved value `x`: 0 while the recording permission is NONE, else the value written (R21, R23, R24, R134). It writes
two words of memory, the data word and its parity word, and touches two map entries and two accumulator pairs. The slot's
contribution record notes new audio and its recorded status, or the refusal (R129, R134, R135), and the first write of the
pair moves the current record position (R88). -/
def Obligations.RecordWindowWriteStores : Prop :=
  ∀ (s : State) (a : BusAddr) (v : Word) (k : Fin 4) (f : Nat), s.mem.wf = true → s.portFree →
    s.bus.regionOf a.toNat = .recordWindow → s.coder.job = .recording → s.coder.mode = .assemble →
    s.coder.curHalf = some (halfOf (s.bus.offset 0 a.toNat)) →
    s.coder.halves[halfOf (s.bus.offset 0 a.toNat)] = .slot k f → s.coder.slots[k].state = .opened →
    let o := s.bus.offset 0 a.toNat
    let b := blockOf (pairIn o) (chanIn o).val
    let p := posOf (pairIn o)
    let g := groupOf b
    let x : Word := if s.copy.recording = .none then 0 else v
    let y := s.parityValue k g p ^^^ s.dataValue k b p ^^^ x
    ∃ t, exec (.recordWindowWrite a v) s = .next t ∧
      t.bus.treatment = .translated ∧ t.dataValue k b p = x ∧ t.parityValue k g p = y ∧
      s.memSameBut [s.recAddr k (slotOffset b (2 + p)) % Config.memoryWords,
        s.recAddr k (slotOffset (12 + g) (2 + p)) % Config.memoryWords] t ∧
      (∀ b' p', b' < 12 → p' < 128 →
        t.coder.slots[k].isWritten b' p' = (s.coder.slots[k].isWritten b' p' || (b' == b && p' == p))) ∧
      (∀ g' p', g' < 2 → p' < 128 →
        t.coder.slots[k].isTouched g' p' = (s.coder.slots[k].isTouched g' p' || (g' == g && p' == p))) ∧
      (∀ n : Fin 14, t.coder.slots[k].sums[n] =
        if n.val = b then s.coder.slots[k].sums[n].update (2 + p) (s.dataValue k b p) x
        else if n.val = 12 + g then s.coder.slots[k].sums[n].update (2 + p) (s.parityValue k g p) y
        else s.coder.slots[k].sums[n]) ∧
      t.coder.slots[k].state = .opened ∧ t.coder.slots[k].frame = s.coder.slots[k].frame ∧
      (∀ j : Fin 4, j ≠ k → t.coder.slots[j] = s.coder.slots[j]) ∧
      (s.copy.recording = .none → s.coder.slots[k].oldOnly = false →
        t.copy.contrib[k].refused = true ∧ (s.copy.contrib[k].refused = false → t.isSet .refused = true)) ∧
      t.copy.contrib[k] =
        (if s.copy.recording = .none then
          { s.copy.contrib[k] with refused := s.copy.contrib[k].refused || !s.coder.slots[k].oldOnly }
        else
          { s.copy.contrib[k] with
            gotNew := true
            newStatus := if s.copy.recording = .free then s.copy.contrib[k].newStatus else .none }) ∧
      t.copy = { s.copy with contrib := t.copy.contrib, output := t.copy.output } ∧
      (∀ j : Fin 4, j ≠ k → t.copy.contrib[j] = s.copy.contrib[j]) ∧
      t.counter .refusedFrames =
        (if s.copy.recording = .none ∧ s.coder.slots[k].oldOnly = false ∧ s.copy.contrib[k].refused = false then
          min 65535 (s.counter .refusedFrames + 1) else s.counter .refusedFrames) ∧
      t.coder.recPos =
        (if s.coder.slots[k].firstWrite (pairIn o) then some (768 * s.coder.r + pairIn o) else s.coder.recPos) ∧
      t.mon.echo = vset s.mon.echo (chanIn o) v ∧
      t.coder.job = s.coder.job ∧ t.coder.r = s.coder.r ∧ t.coder.halves = s.coder.halves ∧
      t.coder.curHalf = s.coder.curHalf ∧ t.coder.ringPtr = s.coder.ringPtr ∧
      s.sameBut [.port, .coder, .dec, .mon, .edit, .copy, .counters, .rep, .mem] t

/-- A record-window write of (n, c) in INSERT mode, with the latch holding (R, n) and pair n already begun, stores the
word that the stored-word rule gives from the resolved value and the latched old value, or the old value alone where the
slot is marked old audio only (R23, R25, R117); the contribution record takes the word's weights (R129, R135). Where the
latch holds another position or none, both channels' old values are first fetched through the MIX contexts at the record
rate of the OPEN slot, each with its source status (R25, R62, R67 to R70, R128), and RATE_MISMATCH is raised at most once for
the frame (R62). A word lost to another rate is held or decayed, and its channel's source status stays (R128); that this goes
before R68 at pair 767, where the next frame can have the record rate, is the model's choice (assumption 37). Each delivery
steps its counter (R75), and a stored word that the mixer saturated steps the saturation counter, a word written again too
(R123). The first write of a pair is a pair event: the stored word is that of the punch state after it (R25, R105). -/
def Obligations.InsertWriteStoresTheMix : Prop :=
  ∀ (s : State) (a : BusAddr) (v : Word) (k : Fin 4) (f : Nat), s.mem.wf = true → s.portFree →
    s.bus.regionOf a.toNat = .recordWindow → s.coder.job = .recording → s.coder.mode = .insert →
    s.coder.curHalf = some (halfOf (s.bus.offset 0 a.toNat)) →
    s.coder.halves[halfOf (s.bus.offset 0 a.toNat)] = .slot k f → s.coder.slots[k].state = .opened →
    let o := s.bus.offset 0 a.toNat
    let n := pairIn o
    let b := blockOf n (chanIn o).val
    let p := posOf n
    let x : Word := if s.copy.recording = .none then 0 else v
    let stepped : Bool → Nat → Nat := fun c m => if c then min 65535 (m + 1) else m
    let refuses := s.copy.recording == .none && !s.coder.slots[k].oldOnly && !s.copy.contrib[k].refused
    (∀ l : Latch, s.coder.latch = some l → l.frame = s.coder.r → l.pair = n → s.coder.slots[k].firstWrite n = false →
      let w := storedWord s.edit.punch s.edit.trans (768 * s.coder.r + n) x l.old[chanIn o]
      let fresh := !s.coder.slots[k].oldOnly && decide (0 < w.wNew)
      let kept := s.coder.slots[k].oldOnly || decide (0 < w.wOld)
      ∃ t, exec (.recordWindowWrite a v) s = .next t ∧
        t.dataValue k b p = (if s.coder.slots[k].oldOnly then l.old[chanIn o] else w.word) ∧
        s.memSameBut [s.recAddr k (slotOffset b (2 + p)) % Config.memoryWords,
          s.recAddr k (slotOffset (12 + groupOf b) (2 + p)) % Config.memoryWords] t ∧
        t.edit = s.edit ∧ t.dec = s.dec ∧ t.coder.latch = s.coder.latch ∧ t.coder.job = s.coder.job ∧
        t.coder.r = s.coder.r ∧ t.coder.halves = s.coder.halves ∧
        (∀ j : Fin 4, j ≠ k → t.coder.slots[j] = s.coder.slots[j]) ∧
        t.copy.contrib[k].refused =
          (s.copy.contrib[k].refused || (s.copy.recording == .none && !s.coder.slots[k].oldOnly)) ∧
        t.copy.contrib[k].gotNew = (s.copy.contrib[k].gotNew || (fresh && s.copy.recording != .none)) ∧
        t.copy.contrib[k].gotOld = (s.copy.contrib[k].gotOld || kept) ∧
        t.copy.contrib[k].newStatus =
          (if fresh = true ∧ s.copy.recording = .once then .none else s.copy.contrib[k].newStatus) ∧
        t.copy.contrib[k].oldStatus.code =
          (if kept then max s.copy.contrib[k].oldStatus.code l.source[chanIn o].code
            else s.copy.contrib[k].oldStatus.code) ∧
        t.counter .saturation = stepped (w.saturated && !s.coder.slots[k].oldOnly) (s.counter .saturation) ∧
        t.counter .refusedFrames = stepped refuses (s.counter .refusedFrames) ∧
        (∀ c : Counter, c ≠ .saturation → c ≠ .refusedFrames → t.counter c = s.counter c) ∧
        s.sameBut [.port, .coder, .mon, .copy, .counters, .rep, .mem] t) ∧
    ((∀ l, s.coder.latch = some l → ¬(l.frame = s.coder.r ∧ l.pair = n)) → s.tape.evaluating = false → s.coder.openSlot = some k →
      let r := s.coder.r
      let rate := some s.coder.slots[k].rate
      let own : Fin 2 → WordClass := fun c => s.tape.classify rate (some r) n c.val
      let next : Fin 2 → WordClass := fun c => s.tape.classifyNext s.dec.mix[c] (own c) rate (some r) n c.val
      let d : Fin 2 → Delivery := fun c =>
        s.dec.mix[c].deliver s.settings.hold (s.classValue (own c)) (s.classValue (next c))
      let apart : Option Nat → Bool := fun g =>
        (g.bind s.tape.completeAt).any fun j => s.tape.slots[j].rate != s.coder.slots[k].rate
      let clash := apart (some r) ||
        (([0, 1] : List (Fin 2)).any fun c => s.dec.mix[c].examines (own c)) && apart (nextWord (some r) n).1
      ∃ t, exec (.recordWindowWrite a v) s = .next t ∧
        (∀ c : Fin 2, t.dec.mix[c] = (d c).ctx ∧
          (∀ j, (d c).kind = .recovered → (own c).slot = some j → t.coder.source[c] = s.tape.slots[j].status) ∧
          (∀ j, (d c).kind = .interpolated → (next c).slot = some j →
            t.coder.source[c].code = max s.coder.source[c].code s.tape.slots[j].status.code) ∧
          ((d c).kind = .held ∨ (d c).kind = .decayed → t.coder.source[c] = s.coder.source[c]) ∧
          (apart (some r) = true → ((d c).kind = .held ∨ (d c).kind = .decayed) ∧ t.coder.source[c] = s.coder.source[c])) ∧
        t.coder.latch = some { frame := r, pair := n, old := #v[(d 0).ctx.last, (d 1).ctx.last], source := t.coder.source } ∧
        t.dec.rateMark = (if clash then some r else s.dec.rateMark) ∧
        (clash = true → s.dec.rateMark ≠ some r → t.isSet .rateMismatch = true) ∧
        (clash = false ∨ s.dec.rateMark = some r → t.isSet .rateMismatch = s.isSet .rateMismatch) ∧
        (let w := storedWord t.edit.punch t.edit.trans (768 * r + n) x (d (chanIn o)).ctx.last
          let two : (Fin 2 → Bool) → Nat → Nat := fun f m => stepped (f 1) (stepped (f 0) m)
          t.dataValue k b p = (if s.coder.slots[k].oldOnly then (d (chanIn o)).ctx.last else w.word) ∧
          t.counter .saturation = stepped (w.saturated && !s.coder.slots[k].oldOnly) (s.counter .saturation) ∧
          t.counter .refusedFrames = stepped refuses (s.counter .refusedFrames) ∧
          t.counter .wordsCorrected = two (fun c => match own c with
            | .rebuilt _ _ _ => true
            | _ => false) (s.counter .wordsCorrected) ∧
          t.counter .wordsInterpolated = two (fun c => (d c).kind == .interpolated) (s.counter .wordsInterpolated) ∧
          t.counter .wordsHeld = two (fun c => (d c).kind == .held) (s.counter .wordsHeld) ∧
          t.counter .wordsMuted = two (fun c => (d c).kind == .decayed) (s.counter .wordsMuted) ∧
          ∀ c : Counter, c ∉ [Counter.saturation, .refusedFrames, .wordsCorrected, .wordsInterpolated, .wordsHeld,
            .wordsMuted] → t.counter c = s.counter c) ∧
        (s.coder.slots[k].firstWrite n = true → t.coder.recPos = some (768 * r + n)) ∧
        (s.coder.slots[k].firstWrite n = false → t.edit = s.edit ∧ t.coder.recPos = s.coder.recPos) ∧
        s.memSameBut [s.recAddr k (slotOffset b (2 + p)) % Config.memoryWords,
          s.recAddr k (slotOffset (12 + groupOf b) (2 + p)) % Config.memoryWords] t ∧
        t.coder.job = s.coder.job ∧ t.coder.r = s.coder.r ∧ t.coder.halves = s.coder.halves ∧
        (∀ j : Fin 4, j ≠ k → t.coder.slots[j] = s.coder.slots[j]) ∧
        s.sameBut [.port, .coder, .dec, .mon, .edit, .copy, .counters, .rep, .mem] t)

/-- A record-window write into the half that is not the current one is a turnover (R26): with the slot at the ring pointer
FREE, R advances, the latch is empty, and the new frame is opened in the ring's slot, bound to the half and given the word
(R20). In ASSEMBLE mode with no close running, the close of the OPEN slot begins; from an absorbed frame none does. In INSERT
mode the old values of the pair are fetched and the word is the one the stored-word rule gives; a frame of a protected range
opens with its old-audio-only mark, raises PROTECTED_FRAME and stores old audio (R30). The first write after RECORD_START opens
frame R, which does not advance, in the same way (R22). -/
def Obligations.TurnoverOpensNextFrame : Prop :=
  ∀ (s : State) (a : BusAddr) (v : Word), s.mem.wf = true → s.portFree →
    s.bus.regionOf a.toNat = .recordWindow → s.coder.job = .recording → s.coder.slots[s.coder.ringPtr].state = .free →
    let o := s.bus.offset 0 a.toNat
    let n := s.coder.ringPtr
    let b := blockOf (pairIn o) (chanIn o).val
    let p := posOf (pairIn o)
    let x : Word := if s.copy.derived = .none then 0 else v
    let opens : Nat → State → Prop := fun f t =>
      t.coder.r = f ∧ t.coder.job = .recording ∧ t.coder.mode = s.coder.mode ∧ t.coder.curHalf = some (halfOf o) ∧
      t.coder.halves = vset s.coder.halves (halfOf o) (.slot n f) ∧ t.coder.ringPtr = n + 1 ∧
      t.coder.slots[n].state = .opened ∧ t.coder.slots[n].frame = f ∧ t.coder.slots[n].rate = s.settings.rate ∧
      (∀ b' p', b' < 12 → p' < 128 → t.coder.slots[n].isWritten b' p' = (b' == b && p' == p)) ∧
      t.coder.recPos = some (768 * f + pairIn o) ∧ t.copy.recording = s.copy.derived ∧
      t.mon.echo = vset s.mon.echo (chanIn o) v ∧
      s.memSameBut [s.recAddr n (slotOffset b (2 + p)) % Config.memoryWords,
        s.recAddr n (slotOffset (12 + groupOf b) (2 + p)) % Config.memoryWords] t
    let assembles : Nat → State → Prop := fun f t =>
      opens f t ∧ t.coder.latch = none ∧ t.coder.slots[n].oldOnly = false ∧ t.dataValue n b p = x ∧
      t.isSet .protectedFrame = s.isSet .protectedFrame ∧ t.dec.mix = s.dec.mix ∧
      s.sameBut [.port, .coder, .tape, .dec, .mon, .edit, .copy, .counters, .rep, .mem] t
    let inserts : Nat → State → Prop := fun f t =>
      opens f t ∧ t.coder.slots[n].oldOnly = s.copy.isProtected f ∧
      (s.copy.isProtected f = true → t.isSet .protectedFrame = true) ∧
      (s.copy.isProtected f = false → t.isSet .protectedFrame = s.isSet .protectedFrame) ∧
      (∃ l, t.coder.latch = some l ∧ l.frame = f ∧ l.pair = pairIn o ∧
        l.old = #v[t.dec.mix[(0 : Fin 2)].last, t.dec.mix[(1 : Fin 2)].last] ∧
        t.dataValue n b p = (if s.copy.isProtected f then l.old[chanIn o]
          else (storedWord t.edit.punch t.edit.trans (768 * f + pairIn o) x l.old[chanIn o]).word)) ∧
      s.sameBut [.port, .coder, .tape, .dec, .mon, .edit, .copy, .counters, .rep, .mem] t
    (∀ cur : Fin 2, s.coder.curHalf = some cur → halfOf o ≠ cur → s.coder.halfClosing (halfOf o) = false →
      s.coder.r < 1048575 →
      (∀ k : Fin 4, s.coder.mode = .assemble → s.copy.isProtected (s.coder.r + 1) = false →
        s.coder.currentOpen = some k → s.coder.close = none →
        ∃ t, exec (.recordWindowWrite a v) s = .next t ∧ assembles (s.coder.r + 1) t ∧
          t.coder.slots[k].state = .closing ∧ t.coder.close = some (s.coder.slots[k].closeJob k)) ∧
      (s.coder.mode = .assemble → s.copy.isProtected (s.coder.r + 1) = false → s.coder.currentOpen = none →
        ∃ t, exec (.recordWindowWrite a v) s = .next t ∧ assembles (s.coder.r + 1) t ∧ t.coder.close = s.coder.close ∧
          ∀ j : Fin 4, j ≠ n → t.coder.slots[j] = s.coder.slots[j]) ∧
      (s.coder.mode = .insert → s.tape.evaluating = false →
        ∃ t, exec (.recordWindowWrite a v) s = .next t ∧ inserts (s.coder.r + 1) t ∧
          ∀ k : Fin 4, s.coder.currentOpen = some k → s.coder.close = none →
            t.coder.slots[k].state = .closing ∧ t.coder.close = some (s.coder.slots[k].closeJob k))) ∧
    (s.coder.curHalf = none → s.coder.latch = none →
      (s.coder.mode = .assemble → s.copy.isProtected s.coder.r = false →
        ∃ t, exec (.recordWindowWrite a v) s = .next t ∧ assembles s.coder.r t ∧ t.coder.close = s.coder.close ∧
          ∀ j : Fin 4, j ≠ n → t.coder.slots[j] = s.coder.slots[j]) ∧
      (s.coder.mode = .insert → s.tape.evaluating = false →
        ∃ t, exec (.recordWindowWrite a v) s = .next t ∧ inserts s.coder.r t ∧ t.coder.close = s.coder.close ∧
          ∀ j : Fin 4, j ≠ n → t.coder.slots[j] = s.coder.slots[j]))

/-- The first write after RECORD_START, where the slot at the ring pointer is not FREE, begins an overrun frame (R22, R27):
it is absorbed, RECORD_OVERRUN is raised and counted, the sticky flag is set, and nothing is stored. A turnover at
R = 1,048,575 is the range end (R29): the write is dropped, RANGE_END raised, R kept and the job stopped as RECORD_STOP does,
with the list, the mix holds and the effective source as a stop leaves them (R35, R58, R89, R110).
Any other turnover that finds the slot at the ring pointer not FREE is an overrun too, at R + 1 (R26, R27). A frame of a
protected range in ASSEMBLE mode is absorbed with PROTECTED_FRAME and is no overrun (R30). A write in the current half of an
absorbed frame reaches the input echo and nothing else (R21, R27, R30). -/
def Obligations.OverrunAndRangeEnd : Prop :=
  (∀ (s : State) (a : BusAddr) (v : Word), s.portFree →
       s.bus.regionOf a.toNat = .recordWindow → s.coder.job = .recording → s.coder.curHalf = none →
       (s.coder.mode = .assemble → s.copy.isProtected s.coder.r = false) →
       s.coder.slots[s.coder.ringPtr].state ≠ .free →
       let o := s.bus.offset 0 a.toNat
       ∃ t, exec (.recordWindowWrite a v) s = .next t ∧ t.bus.treatment = .absorbed ∧ t.bus.accesses = 0 ∧
         t.coder = { s.coder with
           curHalf := some (halfOf o), sticky := true, halves := vset s.coder.halves (halfOf o) (.absorbed s.coder.r) } ∧
         t.isSet .recordOverrun = true ∧ t.counter .recordOverrun = min 65535 (s.counter .recordOverrun + 1) ∧
         (∀ c : Counter, c ≠ .recordOverrun → t.counter c = s.counter c) ∧
         t.mon = { s.mon with echo := vset s.mon.echo (chanIn o) v } ∧
         s.sameBut [.port, .coder, .mon, .counters, .rep] t) ∧
  (∀ (s : State) (a : BusAddr) (v : Word) (cur : Fin 2), s.portFree →
       s.bus.regionOf a.toNat = .recordWindow → s.coder.job = .recording → s.coder.curHalf = some cur →
       halfOf (s.bus.offset 0 a.toNat) ≠ cur → s.coder.halfClosing (halfOf (s.bus.offset 0 a.toNat)) = false →
       s.coder.r = 1048575 →
       ∃ t, exec (.recordWindowWrite a v) s = .next t ∧ t.bus.treatment = .dropped ∧ t.isSet .rangeEnd = true ∧
         t.coder.r = 1048575 ∧ t.coder.job = (if t.coder.unfinished then .stopping else .idle) ∧ t.coder.latch = none ∧
         (∀ k : Fin 4, s.coder.currentOpen = some k → s.coder.close = none → t.coder.slots[k].state = .closing) ∧
         (∀ k : Fin 4, s.coder.currentOpen ≠ some k → t.coder.slots[k] = s.coder.slots[k]) ∧
         s.editStopped t ∧ s.mixHoldsLapsed t ∧
         ({ s with mon := { s.mon with echo := vset s.mon.echo (chanIn (s.bus.offset 0 a.toNat)) v } } : State).sourceJudged t ∧
         s.sameBut [.port, .coder, .tape, .dec, .mon, .edit, .copy, .rep] t) ∧
  (∀ (s : State) (a : BusAddr) (v : Word) (cur : Fin 2), s.portFree →
       s.bus.regionOf a.toNat = .recordWindow → s.coder.job = .recording → s.coder.curHalf = some cur →
       halfOf (s.bus.offset 0 a.toNat) ≠ cur → s.coder.halfClosing (halfOf (s.bus.offset 0 a.toNat)) = false →
       s.coder.r < 1048575 →
       let o := s.bus.offset 0 a.toNat
       let begins : State → Prop := fun t =>
         t.bus.treatment = .absorbed ∧ t.bus.accesses = 0 ∧ t.coder.r = s.coder.r + 1 ∧
         t.coder.curHalf = some (halfOf o) ∧ t.coder.halves = vset s.coder.halves (halfOf o) (.absorbed (s.coder.r + 1)) ∧
         t.coder.ringPtr = s.coder.ringPtr ∧ t.coder.latch = none ∧ t.coder.job = .recording ∧
         (∀ k : Fin 4, s.coder.currentOpen = some k → s.coder.close = none → t.coder.slots[k].state = .closing) ∧
         (∀ k : Fin 4, s.coder.currentOpen ≠ some k → t.coder.slots[k] = s.coder.slots[k]) ∧
         t.mon = { s.mon with echo := vset s.mon.echo (chanIn o) v } ∧ t.rep.marks.record = true
       ((s.coder.mode = .assemble → s.copy.isProtected (s.coder.r + 1) = false) →
         s.coder.slots[s.coder.ringPtr].state ≠ .free →
         ∃ t, exec (.recordWindowWrite a v) s = .next t ∧ begins t ∧ t.coder.sticky = true ∧
           t.isSet .recordOverrun = true ∧ t.counter .recordOverrun = min 65535 (s.counter .recordOverrun + 1) ∧
           (∀ c : Counter, c ≠ .recordOverrun → t.counter c = s.counter c) ∧
           s.sameBut [.port, .coder, .mon, .counters, .rep] t) ∧
       (s.coder.mode = .assemble → s.copy.isProtected (s.coder.r + 1) = true →
         ∃ t, exec (.recordWindowWrite a v) s = .next t ∧ begins t ∧ t.coder.sticky = s.coder.sticky ∧
           t.isSet .protectedFrame = true ∧ t.isSet .recordOverrun = s.isSet .recordOverrun ∧
           s.sameBut [.port, .coder, .mon, .rep] t)) ∧
  (∀ (s : State) (a : BusAddr) (v : Word), s.portFree →
       s.bus.regionOf a.toNat = .recordWindow → s.coder.job = .recording →
       let o := s.bus.offset 0 a.toNat
       (s.coder.curHalf = none → s.coder.mode = .assemble → s.copy.isProtected s.coder.r = true →
         ∃ t, exec (.recordWindowWrite a v) s = .next t ∧ t.bus.treatment = .absorbed ∧ t.bus.accesses = 0 ∧
           t.coder = { s.coder with
             curHalf := some (halfOf o), halves := vset s.coder.halves (halfOf o) (.absorbed s.coder.r) } ∧
           t.rep = (s.raise .protectedFrame).rep ∧ t.isSet .protectedFrame = true ∧
           t.mon = { s.mon with echo := vset s.mon.echo (chanIn o) v } ∧ s.sameBut [.port, .coder, .mon, .rep] t) ∧
       (∀ f, s.coder.curHalf = some (halfOf o) → s.coder.halves[halfOf o] = .absorbed f →
         ∃ t, exec (.recordWindowWrite a v) s = .next t ∧ t.bus.treatment = .absorbed ∧ t.bus.accesses = 0 ∧
           t.mon = { s.mon with echo := vset s.mon.echo (chanIn o) v } ∧ s.sameBut [.port, .mon] t))

/-- A transaction is held, with no access and no effect: during RESET and INIT (R156), while a wait count stands at 16
(R154), and a write into the other half while the slot bound to it is CLOSING (R28). While a slot is EVALUATING a write that
needs an old-audio fetch is held, at a frame's first write after the frame is opened, and so is a read that makes a decode
request, at a turnover after the queue's head is bound (R25, R48, R81). A transaction that comes behind a held
one waits; that those behind wait in order is the model's form (assumption 5). A held transaction is served when its hold
ends, as if it arrived on the state `u` that the ending event leaves without it: a record-window write at the end of the
close, or at SOFT_RESET RECORD (R28, R38); a request that waited for an evaluation at its end, or at PLAY_STOP and
SOFT_RESET PLAYBACK (R48); a turnover at the evaluation's end (R82), while at PLAY_STOP and SOFT_RESET PLAYBACK it binds and
raises nothing, leaves the last half read none, and is delivered by the source that stands (R82), and a decode request is
concealed from the context the command leaves (R74, R76), whatever source it leaves, which is the model's choice beside R89
(assumption 34); a transaction under the
starvation guard after the access that leaves no count at 16 (R154). -/
def Obligations.TransactionsAreHeld : Prop :=
  (∀ (s : State) (a : BusAddr) (v : Word), s.bus.op ≠ .running → s.noneHeld →
    ∃ t, exec (.recordWindowWrite a v) s = .next t ∧ s.sameBut [.bus, .port] t ∧ t.bus.op = s.bus.op ∧
      t.bus.table = s.bus.table ∧ t.bus.valid = s.bus.valid ∧ t.bus.waiting = [] ∧
      t.bus.held = some { txn := { write := true, addr := a, data := v }, kind := .init }) ∧
  (∀ (s : State) (a : BusAddr), s.bus.op = .running → s.noneHeld → s.bus.counts.guarded = true →
    s.normCounts.bus.counts.guarded = true →
    ∃ t, exec (.playbackWindowRead a) s = .next t ∧ s.sameBut [.bus, .port] t ∧ t.bus.op = .running ∧
      t.bus.table = s.bus.table ∧ t.bus.valid = s.bus.valid ∧ t.bus.waiting = [] ∧
      t.bus.held = some { txn := { write := false, addr := a, data := 0 }, kind := .guard }) ∧
  (∀ (s : State) (a : BusAddr) (v : Word) (cur : Fin 2), s.portFree →
    s.bus.regionOf a.toNat = .recordWindow → s.coder.job = .recording → s.coder.curHalf = some cur →
    halfOf (s.bus.offset 0 a.toNat) ≠ cur → s.coder.halfClosing (halfOf (s.bus.offset 0 a.toNat)) = true →
    ∃ t, exec (.recordWindowWrite a v) s = .next t ∧ s.sameBut [.bus, .port] t ∧
      t.bus.held = some { txn := { write := true, addr := a, data := v }, kind := .closing } ∧ t.bus.waiting = [] ∧
      t.bus.op = s.bus.op ∧ t.bus.table = s.bus.table ∧ t.bus.valid = s.bus.valid) ∧
  (∀ (s : State) (a : BusAddr) (v : Word), s.portFree → s.bus.regionOf a.toNat = .recordWindow →
    s.coder.job = .recording → s.coder.mode = .insert → s.tape.evaluating = true →
    let o := s.bus.offset 0 a.toNat
    let n := s.coder.ringPtr
    let held : State → Prop := fun t =>
      t.bus.held = some { txn := { write := true, addr := a, data := v }, kind := .decodeWrite } ∧ t.bus.waiting = [] ∧
      t.bus.op = s.bus.op ∧ t.bus.table = s.bus.table ∧ t.bus.valid = s.bus.valid
    (∀ k f, s.coder.curHalf = some (halfOf o) → s.coder.halves[halfOf o] = .slot k f → s.coder.slots[k].state = .opened →
      (∀ l, s.coder.latch = some l → ¬(l.frame = s.coder.r ∧ l.pair = pairIn o)) →
      ∃ t, exec (.recordWindowWrite a v) s = .next t ∧ held t ∧ s.sameBut [.bus, .port] t) ∧
    (s.coder.curHalf = none → s.coder.latch = none → s.coder.slots[n].state = .free →
      ∃ t, exec (.recordWindowWrite a v) s = .next t ∧ held t ∧ t.coder.curHalf = some (halfOf o) ∧
        t.coder.halves = vset s.coder.halves (halfOf o) (.slot n s.coder.r) ∧ t.coder.slots[n].state = .opened ∧
        t.coder.slots[n].frame = s.coder.r ∧ t.coder.ringPtr = n + 1 ∧ t.coder.latch = none ∧
        s.sameBut [.bus, .port, .coder, .tape, .mon, .copy, .rep] t)) ∧
  (∀ (s : State) (a : BusAddr), s.portFree → s.bus.regionOf a.toNat = .playbackWindow → s.mon.effective = .decoded →
    s.tape.evaluating = true →
    let h := halfOf (s.bus.offset 1 a.toNat)
    let held : State → Prop := fun t =>
      t.bus.held = some { txn := { write := false, addr := a, data := 0 }, kind := .decodeRead } ∧ t.bus.waiting = [] ∧
      t.bus.op = s.bus.op ∧ t.bus.table = s.bus.table ∧ t.bus.valid = s.bus.valid
    (s.mon.lastHalf = some h →
      ∃ t, exec (.playbackWindowRead a) s = .next t ∧ held t ∧ s.sameBut [.bus, .port] t) ∧
    (∀ k rest, s.mon.lastHalf ≠ some h → s.tape.run = .running → s.mon.queue = k :: rest → s.mon.halves[h] = none →
      ∃ t, exec (.playbackWindowRead a) s = .next t ∧ held t ∧
        t.mon = { s.mon with queue := rest, halves := vset s.mon.halves h (some k), lastHalf := some h } ∧
        s.sameBut [.bus, .port, .mon, .copy, .rep] t)) ∧
  (∀ (s : State) (x : Held) (a : BusAddr), s.bus.held = some x → s.normCounts.ready x = false →
    ∃ t, exec (.recordWindowRead a) s = .next t ∧ s.sameBut [.bus, .port] t ∧ t.bus.held = some x ∧
      t.bus.op = s.bus.op ∧ t.bus.table = s.bus.table ∧ t.bus.valid = s.bus.valid ∧
      t.bus.waiting = s.bus.waiting ++ [{ write := false, addr := a, data := 0 }]) ∧
  (∀ (s u : State) (x : Held) (e : Instr), s.bus.op = .running → s.holds x → exec e s.unheld = .next u →
    u.bus.counts.guarded = false →
    let h := halfOf (s.bus.offset 0 x.txn.addr.toNat)
    let g := halfOf (s.bus.offset 1 x.txn.addr.toNat)
    (x.kind = .closing → s.coder.halfClosing h = true → e = .closeEnd ∨ e = .softResetRecord →
      u.coder.halfClosing h = false → exec e s = exec x.txn.row u) ∧
    (x.kind = .decodeWrite → s.tape.evaluating = true → e = .evaluationEnd ∨ e = .playStop ∨ e = .softResetPlayback →
      u.tape.evaluating = false → exec e s = exec x.txn.row u) ∧
    (x.kind = .decodeRead → s.tape.evaluating = true → e = .evaluationEnd → u.tape.evaluating = false →
      x.txn.write = false → u.bus.regionOf x.txn.addr.toNat = .playbackWindow → u.mon.lastHalf = some g →
      exec e s = exec x.txn.row u) ∧
    (x.kind = .turnover → s.tape.evaluating = true → e = .evaluationEnd → u.tape.evaluating = false →
      x.txn.write = false → u.bus.regionOf x.txn.addr.toNat = .playbackWindow → u.mon.lastHalf ≠ some g →
      u.mon.halves[g] = none → exec e s = exec x.txn.row u) ∧
    (x.kind = .turnover → s.tape.evaluating = true → e = .playStop ∨ e = .softResetPlayback →
      u.tape.evaluating = false →
      ∃ t, exec e s = .next t ∧ t.bus.held = none ∧ t.bus.treatment = .answered ∧ t.mon.lastHalf = none ∧
        (∀ j : Fin 2, t.mon.halves[j] = none) ∧ t.mon.queue = [] ∧ t.rep.raised = u.rep.raised ∧
        t.counter .monitorUnderrun = u.counter .monitorUnderrun ∧
        (u.mon.effective = .mute → t.bus.data = 0) ∧
        (u.mon.effective = .input → t.bus.data = u.mon.echo[chanIn (s.bus.offset 1 x.txn.addr.toNat)])) ∧
    (x.kind = .decodeRead → s.tape.evaluating = true → e = .playStop ∨ e = .softResetPlayback → u.tape.evaluating = false →
      let c := chanIn (s.bus.offset 1 x.txn.addr.toNat)
      let d := u.dec.mon[c].deliver u.settings.hold none none
      ∃ t, exec e s = .next t ∧ t.bus.held = none ∧ t.bus.treatment = .answered ∧ t.bus.accesses = 0 ∧
        t.bus.data = d.ctx.last ∧ t.dec = { u.dec with mon := vset u.dec.mon c d.ctx } ∧
        (e = .softResetPlayback → t.bus.data = 0) ∧
        t.counter .wordsHeld = (if d.kind = .held then min 65535 (u.counter .wordsHeld + 1) else u.counter .wordsHeld) ∧
        t.counter .wordsMuted =
          (if d.kind = .decayed then min 65535 (u.counter .wordsMuted + 1) else u.counter .wordsMuted) ∧
        (∀ k : Counter, k ≠ .wordsHeld → k ≠ .wordsMuted → t.counter k = u.counter k) ∧
        t.rep.raised = u.rep.raised ∧ u.sameBut [.port, .dec, .counters, .rep] t) ∧
    (x.kind = .guard → e = .enginePortGrant → s.grantee ≠ none → s.grantee = s.unheld.grantee →
      exec e s = exec x.txn.row u))

/-- R36: a record-window write while the job is IDLE or STOPPING is dropped with IDLE_WRITE; its value reaches the input
echo, and nothing else changes. -/
def Obligations.IdleWriteIsDropped : Prop :=
  ∀ (s : State) (a : BusAddr) (v : Word), s.portFree → s.bus.regionOf a.toNat = .recordWindow →
    s.coder.job = .idle ∨ s.coder.job = .stopping →
    ∃ t, exec (.recordWindowWrite a v) s = .next t ∧ t.bus.treatment = .dropped ∧ t.bus.accesses = 0 ∧
      t.isSet .idleWrite = true ∧ t.rep = (s.raise .idleWrite).rep ∧
      t.mon = { s.mon with echo := vset s.mon.echo (chanIn (s.bus.offset 0 a.toNat)) v } ∧
      s.sameBut [.port, .mon, .rep] t

/-- R37: what a record-window read returns by its half's binding, what it costs, and that nothing but the bus port changes,
whatever the job and the slots do. -/
def Obligations.RecordWindowReadReturnsStored : Prop :=
  ∀ (s : State) (a : BusAddr), s.portFree → s.bus.regionOf a.toNat = .recordWindow →
    let o := s.bus.offset 0 a.toNat
    let b := blockOf (o % 1536 / 2) (o % 1536 % 2)
    let p := posOf (o % 1536 / 2)
    ∃ t, exec (.recordWindowRead a) s = .next t ∧ s.sameBut [.port] t ∧ t.bus.treatment = .answered ∧
      (match s.coder.halves[halfOf o] with
        | .unbound => t.bus.data = 0 ∧ t.bus.accesses = 0
        | .absorbed _ => t.bus.data = 0 ∧ t.bus.accesses = 0
        | .slot k _ =>
          if s.coder.slots[k].isWritten b p then
            t.bus.data = s.peek (s.recAddr k (132 * b + 2 + p)) ∧ t.bus.accesses = 1
          else t.bus.data = 0 ∧ t.bus.accesses = 0)

/-- An upstream write into the record image, or into the playback window, is dropped with its cause (R148). -/
def Obligations.ImageWritesAreDropped : Prop :=
  ∀ (s : State) (a : BusAddr) (v : Word), s.portFree →
    (s.bus.regionOf a.toNat = .recordImage → ∃ t, exec (.recordImageWrite a v) s = .next t ∧
      t.bus.treatment = .dropped ∧ t.bus.accesses = 0 ∧ t.isSet .recordImageWrite = true ∧
      t.rep = (s.raise .recordImageWrite).rep ∧ s.sameBut [.port, .rep] t) ∧
    (s.bus.regionOf a.toNat = .playbackWindow → ∃ t, exec (.playbackWindowWrite a v) s = .next t ∧
      t.bus.treatment = .dropped ∧ t.bus.accesses = 0 ∧ t.isSet .playbackImageWrite = true ∧
      t.rep = (s.raise .playbackImageWrite).rep ∧ s.sameBut [.port, .rep] t)

/-- A read of the record image returns the stored word. The read of word 131 of block 13 of a READY slot frees the slot and
unbinds the halves bound to it; every other read of the image leaves the record path as it stands (R34). -/
def Obligations.FinalWordReadReleases : Prop :=
  ∀ (s : State) (a : BusAddr), s.portFree → s.bus.regionOf a.toNat = .recordImage →
    let y := s.bus.offset 2 a.toNat
    (∀ k : Fin 4, y = 1848 * k.val + 1847 → s.coder.slots[k].state = .ready →
      ∃ t, exec (.recordImageRead a) s = .next t ∧ t.bus.data = s.peek a.toNat ∧ t.bus.treatment = .passed ∧
        t.coder.slots[k] = { s.coder.slots[k] with state := .free } ∧
        (∀ j : Fin 4, j ≠ k → t.coder.slots[j] = s.coder.slots[j]) ∧
        (∀ h : Fin 2, t.coder.halves[h] ≠ s.coder.halves[h] →
          t.coder.halves[h] = .unbound ∧ ∃ f, s.coder.halves[h] = .slot k f) ∧
        (∀ (h : Fin 2) (f : Nat), t.coder.halves[h] ≠ .slot k f) ∧
        t.coder = { s.coder with slots := t.coder.slots, halves := t.coder.halves } ∧
        t.rep = s.markRecord.rep ∧ s.sameBut [.port, .coder, .rep] t) ∧
    ((∀ k : Fin 4, y = 1848 * k.val + 1847 → s.coder.slots[k].state ≠ .ready) →
      ∃ t, exec (.recordImageRead a) s = .next t ∧ t.bus.data = s.peek a.toNat ∧ t.bus.treatment = .passed ∧
        s.sameBut [.port] t)

/-- The close engine's next access, when it is granted the port (R32): a zero into the next clear word, then the headers,
UNDERRUN and the copy status being settled before the first, then the check words of each block. R32 fixes neither the
order of the writes within and among these stages nor the access at which UNDERRUN and the copy status are settled: that
order is the model's choice (assumption 16). The copy status is the one R136 decides from the contribution record. -/
def Obligations.CloseEngineWrites : Prop :=
  (∀ x : Contribution, x.decided.code = if x.refused then 2
    else max (if x.gotNew then x.newStatus.code else 0) (if x.gotOld then x.oldStatus.code else 0)) ∧
  ∀ (s : State) (j : CloseJob), s.mem.wf = true → s.bus.op = .running → s.noneHeld → s.coder.close = some j →
    (∀ o rest, j.fill = o :: rest →
      ∃ t, exec .enginePortGrant s = .next t ∧ t.peek (s.recAddr j.slot o) = 0 ∧
        s.memSameBut [s.recAddr j.slot o % Config.memoryWords] t ∧
        t.coder = { s.coder with close := some { j with fill := rest } } ∧ s.sameBut [.port, .coder, .mem] t) ∧
    (j.fill = [] → j.done < 28 →
      let st := j.status.getD s.copy.contrib[j.slot].decided
      let x := s.coder.slots[j.slot]
      let at_ := s.recAddr j.slot (132 * (j.done / 2) + j.done % 2)
      ∃ t, exec .enginePortGrant s = .next t ∧
        t.peek at_ = (if j.done % 2 = 0 then headerA (j.done / 2) x.rate st x.frame else headerB x.frame) ∧
        s.memSameBut [at_ % Config.memoryWords] t ∧
        t.coder = { s.coder with close := some { j with status := some st, done := j.done + 1 } } ∧
        (j.status = none → j.underrun = true →
          t.isSet .underrun = true ∧ t.counter .recordUnderrun = min 65535 (s.counter .recordUnderrun + 1)) ∧
        (j.status ≠ none ∨ j.underrun = false → s.sameBut [.port, .coder, .mem] t) ∧
        s.sameBut [.port, .coder, .counters, .rep, .mem] t) ∧
    (∀ b : Fin 14, j.fill = [] → j.done = 28 + 2 * b.val →
      let x := s.coder.slots[j.slot]
      let st := j.status.getD s.copy.contrib[j.slot].decided
      let σ := (x.sums[b].update 0 0 (headerA b.val x.rate st x.frame)).update 1 0 (headerB x.frame)
      j.status ≠ none →
      ∃ t, exec .enginePortGrant s = .next t ∧ t.peek (s.recAddr j.slot (132 * b.val + 130)) = BitVec.ofNat 16 σ.s1 ∧
        s.memSameBut [s.recAddr j.slot (132 * b.val + 130) % Config.memoryWords] t ∧
        t.coder.slots[j.slot].sums[b] = σ ∧
        t.coder.close = some { j with done := j.done + 1 } ∧ s.sameBut [.port, .coder, .mem] t) ∧
    (∀ b : Fin 14, j.fill = [] → j.done = 29 + 2 * b.val → j.status ≠ none →
      ∃ t, exec .enginePortGrant s = .next t ∧
        t.peek (s.recAddr j.slot (132 * b.val + 131)) = BitVec.ofNat 16 s.coder.slots[j.slot].sums[b].s2 ∧
        s.memSameBut [s.recAddr j.slot (132 * b.val + 131) % Config.memoryWords] t ∧
        t.coder = { s.coder with close := some { j with done := j.done + 1 } } ∧ s.sameBut [.port, .coder, .mem] t)

/-- The close's end (R33): the slot READY, the frame counted, and the next waiting slot taken; a STOPPING job with no slot
OPEN or CLOSING goes IDLE. -/
def Obligations.CloseEndMarksReady : Prop :=
  ∀ (s : State) (j : CloseJob), s.bus.op = .running → s.noneHeld → s.coder.close = some j → j.fill = [] → j.done = 56 →
    ∃ t, exec .closeEnd s = .next t ∧ t.coder.slots[j.slot].state = .ready ∧
      t.coder.slots[j.slot] = { s.coder.slots[j.slot] with state := .ready } ∧
      t.counter .framesRecorded = min 65535 (s.counter .framesRecorded + 1) ∧
      (∀ c : Counter, c ≠ .framesRecorded → t.counter c = s.counter c) ∧
      (∀ k : Fin 4, k ≠ j.slot → s.coder.pendingClose = some k →
        t.coder.slots[k].state = .closing ∧ t.coder.slots[k].closePending = false ∧
        t.coder.close = some (s.coder.slots[k].closeJob k)) ∧
      (s.coder.slots[j.slot].state = .closing → s.coder.pendingClose = none →
        t.coder.close = none ∧ ∀ k : Fin 4, k ≠ j.slot → t.coder.slots[k] = s.coder.slots[k]) ∧
      (s.coder.job = .stopping → t.coder.job = if t.coder.unfinished then .stopping else .idle) ∧
      (s.coder.job ≠ .stopping → t.coder.job = s.coder.job) ∧
      t.rep.marks.record = true ∧ s.sameBut [.port, .coder, .dec, .mon, .copy, .counters, .rep] t

/-! ### The off-tape assembler -/

/-- PLAY_START: refused with STATE while RUNNING or with an invalid window table, else RUNNING with the lock variables at
their reset values, the window cleared, the carried subcode at 0 and the last half read none (R39, R50, R52, R85).
PLAY_STOP: refused with STATE while STOPPED or while an INSERT recording runs, else STOPPED with every slot FREE, every
evaluation abandoned, the halves unbound and the queue empty (R40, R85). -/
def Obligations.PlayStartAndStop : Prop :=
  (∀ s : State, s.aboutToTake .playStart →
       (s.tape.run = .running ∨ s.bus.valid = false →
         ∃ t, exec .playStart s = .next t ∧ t.cmd = s.cmd.takenQuiet .playStart .state ∧ s.sameBut [.port, .cmd] t) ∧
       (s.tape.run = .stopped → s.bus.valid = true →
         ∃ t, exec .playStart s = .next t ∧ t.cmd = s.cmd.takenMarked .playStart .done ∧
           t.tape = { s.tape with
             run := .running, fillPtr := 0, wait := none, window := [], rateArmed := true, carriedRate := 0,
             carriedStatus := .free,
             lock := { state := .search, expected := 0, run := 0, mismatch := 0, flywheel := 0 } } ∧
           t.mon.lastHalf = none ∧ t.mon = { s.mon with lastHalf := none, effective := t.effectiveOf } ∧
           t.rep.raised = s.rep.raised ∧ s.sameBut [.port, .tape, .dec, .mon, .copy, .cmd, .rep] t)) ∧
  (∀ s : State, s.aboutToTake .playStop →
       (s.tape.run = .stopped ∨ (s.coder.job = .recording ∧ s.coder.mode = .insert) →
         ∃ t, exec .playStop s = .next t ∧ t.cmd = s.cmd.takenQuiet .playStop .state ∧ s.sameBut [.port, .cmd] t) ∧
       (s.tape.run = .running → ¬(s.coder.job = .recording ∧ s.coder.mode = .insert) →
         ∃ t, exec .playStop s = .next t ∧ t.cmd = s.cmd.takenMarked .playStop .done ∧
           t.tape.run = .stopped ∧ t.tape.fillPtr = 0 ∧ t.tape.wait = none ∧ t.tape.window = [] ∧ t.tape.evalQueue = [] ∧
           t.tape.eval = none ∧ t.tape.lock = Lock.reset ∧ t.tape.sticky = s.tape.sticky ∧
           (∀ k : Fin 4, t.tape.slots[k] = { s.tape.slots[k] with state := .free }) ∧
           t.mon = { s.mon with halves := #v[none, none], lastHalf := none, queue := [], effective := t.effectiveOf } ∧
           t.rep.raised = s.rep.raised ∧ s.sameBut [.port, .tape, .dec, .mon, .copy, .cmd, .rep] t))

/-- SOFT_RESET PLAYBACK: every slot FREE, the lock variables and the carried subcode at their reset values, both MONITOR
contexts reset, the halves unbound; the run state, the fill pointer and the sticky flag as they stand (R59, R74, R85). -/
def Obligations.SoftResetPlaybackClears : Prop :=
  ∀ s : State, s.aboutToTake .softResetPlayback →
    ∃ t, exec .softResetPlayback s = .next t ∧ t.cmd = s.cmd.takenMarked .softReset .done ∧
      t.tape.run = s.tape.run ∧ t.tape.fillPtr = s.tape.fillPtr ∧ t.tape.sticky = s.tape.sticky ∧ t.tape.wait = none ∧
      t.tape.window = [] ∧ t.tape.rateArmed = true ∧ t.tape.evalQueue = [] ∧ t.tape.eval = none ∧
      t.tape.lock = Lock.reset ∧ t.tape.carriedRate = 0 ∧ t.tape.carriedStatus = .free ∧
      (∀ k : Fin 4, t.tape.slots[k] = { s.tape.slots[k] with state := .free }) ∧
      (t.effectiveOf ≠ .decoded ∨ s.mon.effective = .decoded → ∀ c : Fin 2, t.dec.mon[c] = Ctx.reset) ∧
      t.dec.mix = s.dec.mix ∧
      t.mon = { s.mon with halves := #v[none, none], lastHalf := none, queue := [], effective := t.effectiveOf } ∧
      t.rep.raised = s.rep.raised ∧ s.sameBut [.port, .tape, .dec, .mon, .copy, .cmd, .rep] t

/-- While playback is STOPPED an off-tape image write is passed to memory and taken by nothing (R39, R147); so is a write
of a word of the control area that no record's capture and no row of its own names (R147). Nothing but that word changes. -/
def Obligations.PassedWritesReachMemoryOnly : Prop :=
  (∀ (s : State) (a : BusAddr) (v : Word), s.mem.wf = true → s.portFree → s.bus.regionOf a.toNat = .offTapeImage →
    s.tape.run = .stopped →
    ∃ t, exec (.offTapeImageWrite a v) s = .next t ∧ t.bus.treatment = .passed ∧ t.bus.accesses = 1 ∧
      t.peek a.toNat = v ∧ s.memSameBut [a.toNat] t ∧ s.sameBut [.port, .mem] t) ∧
  ∀ (s : State) (off : BitVec 12) (v : Word), s.mem.wf = true → s.portFree →
    WellFormed (.controlAreaWrite off v) = true →
    ∃ t, exec (.controlAreaWrite off v) s = .next t ∧ t.bus.treatment = .passed ∧ t.bus.accesses = 1 ∧
      t.peek (0x7F000 + off.toNat) = v ∧ s.memSameBut [0x7F000 + off.toNat] t ∧ s.sameBut [.port, .mem] t

/-- A formatter write to the slot at the fill pointer, while that slot is FILLING and word 131 is not the one written, is
passed to memory and taken into the record of its block: the count of words seen, the sums over words 0..129, and the header
or check word it carries (R42, R46). The write of word 131 judges the block: MISSING unless exactly 132 words were seen, BAD
where a sum differs or header A is of another block or holds a code of 3, else GOOD; a slot all of whose blocks are judged
goes to EVALUATING (R47, R48). -/
def Obligations.FormatterWriteTakesAWord : Prop :=
  ∀ (s : State) (a : BusAddr) (v : Word) (k : Fin 4), s.mem.wf = true → s.portFree →
    s.bus.regionOf a.toNat = .offTapeImage → s.tape.run = .running → s.tape.wait = none → s.tape.fillPtr = k →
    s.tape.slots[k].state = .filling → s.bus.offset 3 a.toNat / 1848 = k.val →
    let y := s.bus.offset 3 a.toNat
    let b := y % 1848 / 132
    let j := y % 132
    (j ≠ 131 → ∃ t, exec (.offTapeImageWrite a v) s = .next t ∧ t.bus.treatment = .passed ∧ t.peek a.toNat = v ∧
      s.memSameBut [a.toNat] t ∧
      (∀ n : Fin 14, n.val = b →
        t.tape.slots[k].blocks[n].status =
          (if j = 0 ∨ s.tape.slots[k].blocks[n].status = .empty then .filling else s.tape.slots[k].blocks[n].status) ∧
        t.tape.slots[k].blocks[n].seen = (if j = 0 then 1 else min 133 (s.tape.slots[k].blocks[n].seen + 1)) ∧
        t.tape.slots[k].blocks[n].sums =
          (if j = 0 then ({ s1 := 0, s2 := 0 } : Sums).update 0 0 v
            else if j < 130 then s.tape.slots[k].blocks[n].sums.update j 0 v else s.tape.slots[k].blocks[n].sums) ∧
        t.tape.slots[k].blocks[n].headA = (if j = 0 then v else s.tape.slots[k].blocks[n].headA) ∧
        t.tape.slots[k].blocks[n].headB = (if j = 1 then v else s.tape.slots[k].blocks[n].headB) ∧
        t.tape.slots[k].blocks[n].w130 = (if j = 130 then v else s.tape.slots[k].blocks[n].w130)) ∧
      (∀ n : Fin 14, n.val ≠ b → t.tape.slots[k].blocks[n] = s.tape.slots[k].blocks[n]) ∧
      t.tape = { s.tape with slots := t.tape.slots } ∧ (∀ n : Fin 4, n ≠ k → t.tape.slots[n] = s.tape.slots[n]) ∧
      s.sameBut [.port, .tape, .rep, .mem] t) ∧
    (j = 131 → ∃ t, exec (.offTapeImageWrite a v) s = .next t ∧ t.bus.treatment = .passed ∧ t.peek a.toNat = v ∧
      s.memSameBut [a.toNat] t ∧
      (∀ n : Fin 14, n.val = b →
        let x := s.tape.slots[k].blocks[n]
        t.tape.slots[k].blocks[n] = { x with
          seen := min 133 (x.seen + 1)
          status :=
            if x.seen ≠ 131 then .missing
            else if x.sums.s1 ≠ x.w130.toNat ∨ x.sums.s2 ≠ v.toNat then .bad
            else if x.headA.toNat % 16 ≠ b ∨ x.headA.toNat / 16 % 4 = 3 ∨ x.headA.toNat / 64 % 4 = 3 then .bad
            else .good }) ∧
      (∀ n : Fin 14, n.val ≠ b → t.tape.slots[k].blocks[n] = s.tape.slots[k].blocks[n]) ∧
      ((∀ n : Fin 14, t.tape.slots[k].blocks[n].status ≠ .empty ∧ t.tape.slots[k].blocks[n].status ≠ .filling) →
        t.tape.slots[k].state = .evaluating ∧ t.tape.evalQueue = s.tape.evalQueue ++ [k] ∧ t.rep.marks.playback = true) ∧
      (∀ n : Fin 14, t.tape.slots[k].blocks[n].status = .empty ∨ t.tape.slots[k].blocks[n].status = .filling →
        t.tape.slots[k].state = .filling ∧ t.tape.evalQueue = s.tape.evalQueue) ∧
      t.tape = { s.tape with slots := t.tape.slots, evalQueue := t.tape.evalQueue } ∧
      (∀ n : Fin 4, n ≠ k → t.tape.slots[n] = s.tape.slots[n]) ∧ s.sameBut [.port, .tape, .rep, .mem] t)

/-- A formatter write outside an overrun wait, by the slot it lands in (R42). Into the slot at the fill pointer while it is
FREE: the slot begins to fill and takes the write; while it is EVALUATING or COMPLETE: a stray write (R45). Into the slot
after it, while that one is FREE: the filled slot goes to evaluation if it is FILLING, and is left as it stands if not, the
pointer advances and the next slot begins to fill (R43); while that one is not FREE: an overrun begins and the write is
dropped (R44). Into either other slot: a stray write, dropped (R45). During the overrun wait every write is dropped, the end of
a frame counted as a gap up to 64, until one lands in that slot while it is FREE: the lock machine then steps, and the window
takes a count of 14, once for each gap frame, the wait ends and the fill pointer advances (R44). That the write that begins
the overrun leaves a gap count of 0 also where it is the last word of a frame, word 131 of block 13, is the model's choice
(assumption 27). -/
def Obligations.FormatterWriteMovesTheFillPointer : Prop :=
  ∀ (s : State) (a : BusAddr) (v : Word), s.mem.wf = true → s.portFree →
    s.bus.regionOf a.toNat = .offTapeImage → s.tape.run = .running →
    let y := s.bus.offset 3 a.toNat
    let j := y % 132
    let p := s.tape.fillPtr
    let n := p + 1
    let begun : Fin 4 → State → Prop := fun k t =>
      t.bus.treatment = .passed ∧ t.peek a.toNat = v ∧ s.memSameBut [a.toNat] t ∧ t.tape.fillPtr = k ∧
      t.tape.slots[k] = { s.tape.slots[k] with state := .filling, blocks := t.tape.slots[k].blocks } ∧
      ∀ b : Fin 14, t.tape.slots[k].blocks[b] =
        if b.val = y % 1848 / 132 then
          { status := if j = 131 then .missing else .filling, seen := 1
            sums := if j < 130 then ({ s1 := 0, s2 := 0 } : Sums).update j 0 v else { s1 := 0, s2 := 0 }
            headA := if j = 0 then v else 0, headB := if j = 1 then v else 0, w130 := if j = 130 then v else 0 }
        else { status := .empty, sums := { s1 := 0, s2 := 0 }, seen := 0, headA := 0, headB := 0, w130 := 0 }
    let left : State → Prop := fun t =>
      (s.tape.slots[p].state = .filling → t.tape.slots[p] = { s.tape.slots[p] with state := .evaluating } ∧
        t.tape.evalQueue = s.tape.evalQueue ++ [p]) ∧
      (s.tape.slots[p].state ≠ .filling → t.tape.slots[p] = s.tape.slots[p] ∧ t.tape.evalQueue = s.tape.evalQueue)
    (s.tape.wait = none →
      (y / 1848 = p.val → s.tape.slots[p].state = .free →
        ∃ t, exec (.offTapeImageWrite a v) s = .next t ∧ begun p t ∧
          (∀ k : Fin 4, k ≠ p → t.tape.slots[k] = s.tape.slots[k]) ∧ t.tape = { s.tape with slots := t.tape.slots } ∧
          t.rep.marks.playback = true ∧ s.sameBut [.port, .tape, .rep, .mem] t) ∧
      (y / 1848 = n.val → s.tape.slots[n].state = .free →
        ∃ t, exec (.offTapeImageWrite a v) s = .next t ∧ begun n t ∧ left t ∧
          (∀ k : Fin 4, k ≠ p → k ≠ n → t.tape.slots[k] = s.tape.slots[k]) ∧
          t.tape = { s.tape with slots := t.tape.slots, fillPtr := n, evalQueue := t.tape.evalQueue } ∧
          t.rep.marks.playback = true ∧ s.sameBut [.port, .tape, .rep, .mem] t) ∧
      (y / 1848 = n.val → s.tape.slots[n].state ≠ .free →
        ∃ t, exec (.offTapeImageWrite a v) s = .next t ∧ t.bus.treatment = .dropped ∧ t.bus.accesses = 0 ∧ left t ∧
          (∀ k : Fin 4, k ≠ p → t.tape.slots[k] = s.tape.slots[k]) ∧
          t.tape = { s.tape with
            slots := t.tape.slots, evalQueue := t.tape.evalQueue, wait := some 0, sticky := true } ∧
          t.isSet .playOverrun = true ∧ t.counter .playOverrun = min 65535 (s.counter .playOverrun + 1) ∧
          (∀ c : Counter, c ≠ .playOverrun → t.counter c = s.counter c) ∧ s.sameBut [.port, .tape, .counters, .rep] t) ∧
      ((y / 1848 = p.val ∧ (s.tape.slots[p].state = .evaluating ∨ s.tape.slots[p].state = .complete)) ∨
          (y / 1848 ≠ p.val ∧ y / 1848 ≠ n.val) →
        ∃ t, exec (.offTapeImageWrite a v) s = .next t ∧ t.bus.treatment = .dropped ∧ t.bus.accesses = 0 ∧
          t.isSet .strayWrite = true ∧ t.counter .strayWrite = min 65535 (s.counter .strayWrite + 1) ∧
          (∀ c : Counter, c ≠ .strayWrite → t.counter c = s.counter c) ∧ s.sameBut [.port, .counters, .rep] t)) ∧
    ∀ gap : Nat, s.tape.wait = some gap →
      (y / 1848 ≠ n.val ∨ s.tape.slots[n].state ≠ .free →
        ∃ t, exec (.offTapeImageWrite a v) s = .next t ∧ t.bus.treatment = .dropped ∧ t.bus.accesses = 0 ∧
          t.tape = { s.tape with wait := some (if y % 1848 = 1847 then min 64 (gap + 1) else gap) } ∧
          s.sameBut [.port, .tape] t) ∧
      (y / 1848 = n.val → s.tape.slots[n].state = .free →
        ∃ t, exec (.offTapeImageWrite a v) s = .next t ∧ begun n t ∧ left t ∧ t.tape.wait = none ∧
          (∀ k : Fin 4, k ≠ p → k ≠ n → t.tape.slots[k] = s.tape.slots[k]) ∧
          t.tape.lock = (fun x => (x.step s.settings.quorum s.settings.flywheel 0 none).1)^[gap] s.tape.lock ∧
          t.tape.window = (fun w => pushWindow w s.settings.window 14)^[gap] s.tape.window ∧
          (∀ c : Counter, c ≠ .errorRate → t.counter c = s.counter c) ∧ t.isSet .duplicate = s.isSet .duplicate ∧
          t.mon = { s.mon with effective := t.mon.effective } ∧
          s.sameBut [.port, .tape, .dec, .mon, .copy, .counters, .rep, .mem] t)

/-- From SEARCH, a frame with the quorum of good blocks and then two more at the expected addresses lock, and raise
LOCK_GAINED; a frame of another address sends ACQUIRE back to SEARCH (R53). A LOCKED timeline carries over as many lost
frames as the flywheel limit and relocks on the next frame at the expected address; one more lost frame ends it with
LOCK_LOST (R54, R55). Every row of the tables of LOCKED and FLYWHEEL, the next address of the last one being the last itself
(R52): in LOCKED a quorum frame of another address is a mismatch, and the second starts a new acquisition with LOCK_LOST, while
a weak one changes only the expected address (R54); in FLYWHEEL a quorum frame of another address starts a new acquisition with
LOCK_LOST, and a weak one counts as a lost frame (R55). -/
def Obligations.LockAndFlywheel : Prop :=
  (∀ (x : Lock) (q limit g1 g2 g3 f : Nat), x.state = .search → q ≤ g1 → q ≤ g2 → q ≤ g3 → f + 2 ≤ Config.maxFrame →
       let y1 := (x.step q limit g1 (some f)).1
       let y2 := (y1.step q limit g2 (some (f + 1))).1
       y1.state = .acquire ∧ y2.state = .acquire ∧ (y2.step q limit g3 (some (f + 2))).1.state = .locked ∧
         (y2.step q limit g3 (some (f + 2))).2 = some .lockGained ∧
         (x.step q limit g1 (some f)).2 = none ∧ (y1.step q limit g2 (some (f + 1))).2 = none ∧
         ∀ f', f' ≠ f + 1 → (y1.step q limit g2 (some f')).1.state = .search) ∧
  (∀ (x : Lock) (q limit n : Nat), x.state = .locked → 1 ≤ n → n ≤ limit → x.expected + limit < Config.maxFrame →
       let lose : Lock → Lock := fun y => (y.step q limit 0 none).1
       let z := lose^[n] x
       z.state = .flywheel ∧ z.flywheel = n ∧ z.expected = x.expected + n ∧
         (∀ g, 1 ≤ g → (z.step q limit g (some z.expected)).1.state = .locked) ∧
         (n = limit → (lose z).state = .search ∧ (z.step q limit 0 none).2 = some .lockLost)) ∧
  ∀ (x : Lock) (q limit g f : Nat) (a : Option Nat),
    let up : Nat → Nat := fun n => min 1048575 (n + 1)
    let anew : Lock := { x with state := .acquire, expected := up f, run := 1 }
    let lost : Lock × Option Cause :=
      if limit < x.flywheel + 1 then
        ({ x with state := .search, run := 0, flywheel := 0, expected := up x.expected }, some .lockLost)
      else ({ x with flywheel := x.flywheel + 1, expected := up x.expected }, none)
    (x.state = .locked →
      x.step q limit 0 a = ({ x with state := .flywheel, flywheel := 1, expected := up x.expected }, none) ∧
      (1 ≤ g → f = x.expected → x.step q limit g (some f) = ({ x with mismatch := 0, expected := up x.expected }, none)) ∧
      (1 ≤ g → q ≤ g → f ≠ x.expected → x.mismatch ≠ 1 →
        x.step q limit g (some f) = ({ x with mismatch := x.mismatch + 1, expected := up x.expected }, none)) ∧
      (1 ≤ g → q ≤ g → f ≠ x.expected → x.mismatch = 1 →
        x.step q limit g (some f) = ({ anew with mismatch := 0 }, some .lockLost)) ∧
      (1 ≤ g → g < q → f ≠ x.expected → x.step q limit g (some f) = ({ x with expected := up x.expected }, none))) ∧
    (x.state = .flywheel →
      x.step q limit 0 a = lost ∧
      (1 ≤ g → f = x.expected → x.step q limit g (some f) =
        ({ x with state := .locked, flywheel := 0, mismatch := 0, expected := up x.expected }, none)) ∧
      (1 ≤ g → q ≤ g → f ≠ x.expected →
        x.step q limit g (some f) = ({ anew with flywheel := 0 }, some .lockLost)) ∧
      (1 ≤ g → g < q → f ≠ x.expected → x.step q limit g (some f) = lost))

/-- EVALUATION_TAKE: the idle engine takes the slot that has waited longest and judges it (R48, R49). A block that is EMPTY or
FILLING is MISSING. Each GOOD block votes for its address; the winner `w` has the most votes, and of several the expected
address if it is one of them, else the smallest. A GOOD block of another address is BAD and counted as a stray. The frame
takes `w`, the rate of its lowest GOOD block and the most restrictive status of its GOOD blocks; each group's correctability
is by its blocks that are not GOOD; BAD and MISSING blocks are counted. With no GOOD block the frame takes the expected address
and the carried subcode in LOCKED or FLYWHEEL, and in SEARCH or ACQUIRE is to be discarded (R50), its frame fields as they
stood (assumption 21). Memory and the other slots stay as they stand. Every counter is in its range (R172), as every step keeps it. -/
def Obligations.EvaluationTakeJudges : Prop :=
  ∀ (s : State) (k : Fin 4) (rest : List (Fin 4)), s.bus.op = .running → s.noneHeld → s.tape.eval = none →
    s.tape.evalQueue = k :: rest → countersSound s.counters →
    let old := s.tape.slots[k]
    let closed : Fin 14 → BlockStatus := fun b =>
      if old.blocks[b].status = .empty ∨ old.blocks[b].status = .filling then .missing else old.blocks[b].status
    let addr : Fin 14 → Nat := fun b => 65536 * (old.blocks[b].headA.toNat / 4096) + old.blocks[b].headB.toNat
    let votes : Nat → Nat := fun f => blockCount fun b => old.blocks[b].status == .good && addr b == f
    let locked := s.tape.lock.state = .locked ∨ s.tape.lock.state = .flywheel
    ∃ t, exec .evaluationTake s = .next t ∧
      t.tape = { s.tape with slots := t.tape.slots, evalQueue := rest, eval := t.tape.eval } ∧
      (∀ j : Fin 4, j ≠ k → t.tape.slots[j] = s.tape.slots[j]) ∧ t.tape.slots[k].state = old.state ∧
      (∀ w, 0 < votes w → (∀ f, votes f ≤ votes w) →
        (votes s.tape.lock.expected = votes w → w = s.tape.lock.expected) →
        (votes s.tape.lock.expected ≠ votes w → ∀ f, votes f = votes w → w ≤ f) →
        (∀ b : Fin 14, t.tape.slots[k].blocks[b] = { old.blocks[b] with
          status := if closed b = .good ∧ addr b ≠ w then .bad else closed b }) ∧
        t.tape.slots[k].frame = w ∧
        (∀ b : Fin 14, t.tape.slots[k].blocks[b].status = .good →
          (∀ c : Fin 14, c < b → t.tape.slots[k].blocks[c].status ≠ .good) →
          t.tape.slots[k].rate = old.blocks[b].headA.toNat / 16 % 4) ∧
        (∀ b : Fin 14, t.tape.slots[k].blocks[b].status = .good →
          min 2 (old.blocks[b].headA.toNat / 64 % 4) ≤ t.tape.slots[k].status.code) ∧
        (∃ b : Fin 14, t.tape.slots[k].blocks[b].status = .good ∧
          t.tape.slots[k].status.code = min 2 (old.blocks[b].headA.toNat / 64 % 4)) ∧
        t.counter .strayBlock =
          min 65535 (s.counter .strayBlock + blockCount fun b => closed b == .good && addr b != w)) ∧
      ((∀ b : Fin 14, old.blocks[b].status ≠ .good) →
        (∀ b : Fin 14, t.tape.slots[k].blocks[b] = { old.blocks[b] with status := closed b }) ∧
        (locked → t.tape.slots[k].frame = s.tape.lock.expected ∧ t.tape.slots[k].rate = s.tape.carriedRate ∧
          t.tape.slots[k].status = s.tape.carriedStatus) ∧
        (¬locked → t.tape.slots[k].frame = old.frame ∧ t.tape.slots[k].rate = old.rate ∧
          t.tape.slots[k].status = old.status) ∧ t.counter .strayBlock = s.counter .strayBlock) ∧
      t.tape.slots[k].good = (blockCount fun b => t.tape.slots[k].blocks[b].status == .good) ∧
      (∀ (g : Fin 2) (n : Nat),
        n = (blockCount fun b => t.tape.slots[k].blocks[b].status != .good && b.val % 2 == g.val) →
        (if g = 0 then t.tape.slots[k].corrA else t.tape.slots[k].corrB) =
          if n = 0 then .clean else if n = 1 then .correctable else .uncorrectable) ∧
      t.tape.eval = some
        { slot := k
          discard := t.tape.slots[k].good == 0 && (s.tape.lock.state == .search || s.tape.lock.state == .acquire)
          damage := 14 - t.tape.slots[k].good, done := 0 } ∧
      t.counter .blocksBad =
        min 65535 (s.counter .blocksBad + blockCount fun b => t.tape.slots[k].blocks[b].status == .bad) ∧
      t.counter .blocksMissing =
        min 65535 (s.counter .blocksMissing + blockCount fun b => t.tape.slots[k].blocks[b].status == .missing) ∧
      (∀ c : Counter, c ≠ .strayBlock → c ≠ .blocksBad → c ≠ .blocksMissing → t.counter c = s.counter c) ∧
      t.rep.raised = s.rep.raised ∧ s.sameBut [.port, .tape, .counters, .rep] t

/-- EVALUATION_END of a frame that is not discarded (R51): with no other COMPLETE slot at its address the slot is COMPLETE
and joins the monitor queue's tail; else it goes FREE, DUPLICATE is raised and the frame is counted lost. Of a discarded
frame (R50, R51): its slot goes FREE, the frame is counted lost, the lock machine steps as by a gap frame and the window
takes a count of 14; nothing joins the queue. Each push is followed by the test of R57. A pending LOCATE whose target the
frame, accepted or duplicate, has reached while LOCKED or FLYWHEEL ends with LOCATED, its comparator free for the head that
the return test leaves of the list, as at LOCATE_CANCEL (R112, R113); that the return test stays pending where the list is empty is the model's choice
(assumption 11); any other evaluation leaves the edit engine as it stands. -/
def Obligations.EvaluationEndSettles : Prop :=
  (∀ (s : State) (j : EvalJob), s.bus.op = .running → s.noneHeld → s.tape.eval = some j → 21 ≤ j.done →
       j.discard = false → s.tape.slots[j.slot].state = .evaluating →
       let handed : State → Prop := fun t =>
         let arrived := s.edit.owner = .locateWait ∧ (t.tape.lock.state = .locked ∨ t.tape.lock.state = .flywheel) ∧
           ∃ f, s.edit.target = some f ∧ f ≤ s.tape.slots[j.slot].frame
         t.tape.lock = (s.tape.lock.step s.settings.quorum s.settings.flywheel s.tape.slots[j.slot].good
           (some s.tape.slots[j.slot].frame)).1 ∧
         t.tape.window = pushWindow s.tape.window s.settings.window j.damage ∧ s.rateTested t ∧
         (¬arrived → t.edit = s.edit ∧ t.isSet .located = s.isSet .located) ∧
         (arrived → t.isSet .located = true ∧ t.edit.target = none ∧ t.rep.marks.edit = true ∧ s.locateEnded t)
       ((∀ k : Fin 4, k ≠ j.slot → s.tape.slots[k].state = .complete →
           s.tape.slots[k].frame ≠ s.tape.slots[j.slot].frame) →
         ∃ t, exec .evaluationEnd s = .next t ∧ t.tape.eval = none ∧
           t.tape.slots = vset s.tape.slots j.slot { s.tape.slots[j.slot] with state := .complete } ∧
           t.mon.queue = s.mon.queue ++ [j.slot] ∧
           t.tape.lock = (s.tape.lock.step s.settings.quorum s.settings.flywheel s.tape.slots[j.slot].good
             (some s.tape.slots[j.slot].frame)).1 ∧
           t.tape.window = pushWindow s.tape.window s.settings.window j.damage ∧
           (1 ≤ s.tape.slots[j.slot].good → t.tape.carriedRate = s.tape.slots[j.slot].rate ∧
             t.tape.carriedStatus = s.tape.slots[j.slot].status) ∧
           t.mon.effective = t.effectiveOf ∧ t.counter .framesLost = s.counter .framesLost ∧ handed t ∧
           s.sameBut [.port, .tape, .dec, .mon, .edit, .copy, .counters, .rep] t) ∧
       ((∃ k : Fin 4, k ≠ j.slot ∧ s.tape.slots[k].state = .complete ∧
           s.tape.slots[k].frame = s.tape.slots[j.slot].frame) →
         ∃ t, exec .evaluationEnd s = .next t ∧ t.tape.eval = none ∧
           t.tape.slots = vset s.tape.slots j.slot { s.tape.slots[j.slot] with state := .free } ∧
           t.mon.queue = s.mon.queue ∧ t.isSet .duplicate = true ∧
           t.counter .framesLost = min 65535 (s.counter .framesLost + 1) ∧ handed t ∧
           s.sameBut [.port, .tape, .dec, .mon, .edit, .copy, .counters, .rep] t)) ∧
  (∀ (s : State) (j : EvalJob), s.bus.op = .running → s.noneHeld → s.tape.eval = some j → 21 ≤ j.done →
       j.discard = true →
       ∃ t, exec .evaluationEnd s = .next t ∧ t.tape.eval = none ∧
         t.tape.slots = vset s.tape.slots j.slot { s.tape.slots[j.slot] with state := .free } ∧
         t.mon.queue = s.mon.queue ∧ t.tape.window = pushWindow s.tape.window s.settings.window 14 ∧
         t.tape.lock = (s.tape.lock.step s.settings.quorum s.settings.flywheel 0 none).1 ∧
         t.counter .framesLost = min 65535 (s.counter .framesLost + 1) ∧ s.rateTested t ∧
         s.sameBut [.port, .tape, .dec, .mon, .copy, .counters, .rep] t)

/-- No step makes two COMPLETE off-tape slots of one frame address (R51), in states where the slots that wait for the
evaluation engine are EVALUATING, each once; every step keeps that too (R48). -/
def Obligations.CompleteFramesStayDistinct : Prop :=
  ∀ s t : State, s.tape.distinct ∧ s.tape.evalSound → step s = .next t → t.tape.distinct ∧ t.tape.evalSound

/-! ### Decoding and concealment -/

/-- A held or decayed delivery is never of greater magnitude than the context's last value, and a decay is three quarters of
it toward zero (R69, R70). A context that leaves MUTING delivers `n` recovered words at the ramp's steps 1 to `n`, each
trunc(v·k/32), and after the 32nd, which is whole, it is NORMAL (R67). Which delivery is made: a recoverable word is delivered,
whole by a NORMAL or HOLDING context; an unrecoverable one is decayed by a MUTING context, held by a RECOVERING one, and by a
NORMAL or HOLDING one interpolated as floor((v' + x)/2) where the next word is recoverable, else held below the hold limit and
decayed at it (R67 to R70). The next word is the next pair's of the channel, across the frame edge, and none at the last
(R68). -/
def Obligations.ConcealmentDecaysAndRamps : Prop :=
  (∀ (x : Ctx) (limit : Nat) (next : Option Word),
       ((x.deliver limit none next).kind = .held ∨ (x.deliver limit none next).kind = .decayed →
         (x.deliver limit none next).ctx.last.toInt.natAbs ≤ x.last.toInt.natAbs) ∧
       ((x.deliver limit none next).kind = .decayed →
         (x.deliver limit none next).ctx.last.toInt = Int.tdiv (3 * x.last.toInt) 4 ∧
         (x.deliver limit none next).ctx.mode = .muting)) ∧
  (∀ (x : Ctx) (limit : Nat) (v : Word), x.mode = .muting →
       let f : Ctx → Ctx := fun y => (y.deliver limit (some v) none).ctx
       (∀ n, 1 ≤ n → n ≤ 31 → (f^[n] x).mode = .recovering ∧ (f^[n] x).step = n + 1 ∧
         (f^[n] x).last.toInt = Int.tdiv (v.toInt * n) 32) ∧
       (f^[32] x).mode = .normal ∧ (f^[32] x).last = v) ∧
  (∀ (x : Ctx) (limit : Nat) (next : Option Word),
       (∀ v, (x.deliver limit (some v) next).kind = .recovered ∧
         (x.mode = .normal ∨ x.mode = .holding →
           (x.deliver limit (some v) next).ctx = { last := v, mode := .normal, hold := 0, step := 0 })) ∧
       (x.mode = .muting → (x.deliver limit none next).kind = .decayed) ∧
       (x.mode = .recovering → (x.deliver limit none next).kind = .held ∧
         (x.deliver limit none next).ctx = { last := x.last, mode := .holding, hold := 1, step := 0 }) ∧
       (x.mode = .normal ∨ x.mode = .holding →
         (∀ w, next = some w → (x.deliver limit none next).kind = .interpolated ∧
           (x.deliver limit none next).ctx.last.toInt = (x.last.toInt + w.toInt) / 2 ∧
           (x.deliver limit none next).ctx.mode = .normal ∧ (x.deliver limit none next).ctx.hold = 0) ∧
         (next = none → x.hold < limit → (x.deliver limit none next).kind = .held ∧
           (x.deliver limit none next).ctx = { last := x.last, mode := .holding, hold := x.hold + 1, step := 0 }) ∧
         (next = none → limit ≤ x.hold → (x.deliver limit none next).kind = .decayed)) ∧
       ((x.deliver limit none next).kind = .decayed →
         (x.deliver limit none next).ctx.hold = x.hold ∧ (x.deliver limit none next).ctx.step = 0)) ∧
  (∀ f n, (n < 767 → nextWord (some f) n = (some f, n + 1)) ∧
       (f < 1048575 → nextWord (some f) 767 = (some (f + 1), 0)) ∧ (nextWord (some 1048575) 767).1 = none)

/-- A word of a GOOD block is delivered as stored by a NORMAL context, and a word of the one damaged block of a group is
rebuilt as the XOR of its parity word and its five partners (R61, R63, R64). A MIX request finds no value in a slot of another
rate than the record rate, and what a MONITOR request finds in a slot of that rate (R62). Stated for the classification and
its value. -/
def Obligations.ClassesReadAndRebuild : Prop :=
  ∀ (s : State) (k : Fin 4) (f n c : Nat), n < 768 → c < 2 → s.tape.completeAt f = some k →
    let b := blockOf n c
    let p := posOf n
    let w : Nat → Word := fun x => s.peek (s.tapeAddr k (132 * x + 2 + p))
    (s.tape.slots[k].isGood b = true → s.classValue (s.tape.classify none (some f) n c) = some (w b)) ∧
    (s.tape.slots[k].isGood b = false → s.tape.slots[k].corrOf b = .correctable →
      ∀ x : Word, w (12 + b % 2) = (((List.range 12).filter fun i => i % 2 = b % 2 ∧ i ≠ b).foldl (fun y i => y ^^^ w i) x) →
        s.classValue (s.tape.classify none (some f) n c) = some x) ∧
    (s.tape.slots[k].isGood b = false → s.tape.slots[k].corrOf b ≠ .correctable →
      s.classValue (s.tape.classify none (some f) n c) = none) ∧
    (∀ r, r ≠ s.tape.slots[k].rate → s.classValue (s.tape.classify (some r) (some f) n c) = none) ∧
    s.tape.classify (some s.tape.slots[k].rate) (some f) n c = s.tape.classify none (some f) n c

/-! ### Monitor output -/

/-- A playback-window read that is no turnover. While the effective source is INPUT, PATTERN or MUTE: the echo of its channel,
the attenuated pattern word with the register advanced by one step, or 0 (R80, R90, R91, R92). While it is DECODED, with no
evaluation running and the half bound to a COMPLETE slot whose block is GOOD, by a NORMAL context: the word as stored, at
one access (R61, R63, R67, R80, R90). Any decode request delivers what the channel's context gives for the word and the next
one, at the accesses of the words read, and steps the counter of its delivery and no other (R60, R65, R71, R75). -/
def Obligations.PlaybackReadAnswers : Prop :=
  (∀ (s : State) (a : BusAddr), s.portFree → s.bus.regionOf a.toNat = .playbackWindow →
       s.mon.lastHalf = some (halfOf (s.bus.offset 1 a.toNat)) →
       (s.mon.effective = .input → ∃ t, exec (.playbackWindowRead a) s = .next t ∧
         t.bus.data = s.mon.echo[chanIn (s.bus.offset 1 a.toNat)] ∧ t.bus.accesses = 0 ∧ s.sameBut [.port] t) ∧
       (s.mon.effective = .mute → ∃ t, exec (.playbackWindowRead a) s = .next t ∧
         t.bus.data = 0 ∧ t.bus.accesses = 0 ∧ s.sameBut [.port] t) ∧
       (s.mon.effective = .pattern → ∃ t, exec (.playbackWindowRead a) s = .next t ∧
         t.bus.data.toInt = ((s.mon.pattern.toNat : Int) - 16384) / 2 ^ s.settings.atten ∧ t.bus.accesses = 0 ∧
         t.mon.pattern.toNat = (2 * s.mon.pattern.toNat) % 32768 +
           (s.mon.pattern.toNat / 16384 + s.mon.pattern.toNat / 8192 % 2) % 2 ∧
         t.mon = { s.mon with pattern := t.mon.pattern } ∧ s.sameBut [.port, .mon] t)) ∧
  (∀ (s : State) (a : BusAddr) (k : Fin 4), s.portFree → s.bus.regionOf a.toNat = .playbackWindow →
       s.mon.lastHalf = some (halfOf (s.bus.offset 1 a.toNat)) → s.mon.effective = .decoded → s.tape.evaluating = false →
       s.mon.halves[halfOf (s.bus.offset 1 a.toNat)] = some k →
       s.tape.completeAt s.tape.slots[k].frame = some k →
       let n := pairIn (s.bus.offset 1 a.toNat)
       let c := chanIn (s.bus.offset 1 a.toNat)
       s.tape.slots[k].isGood (blockOf n c.val) = true → s.dec.mon[c].mode = .normal →
       ∃ t, exec (.playbackWindowRead a) s = .next t ∧
         t.bus.data = s.peek (s.tapeAddr k (132 * blockOf n c.val + 2 + posOf n)) ∧ t.bus.treatment = .answered ∧
         t.bus.accesses = 1 ∧
         t.dec = { s.dec with
           mon := vset s.dec.mon c { last := t.bus.data, mode := .normal, hold := 0, step := 0 } } ∧
         s.sameBut [.port, .dec] t) ∧
  (∀ (s : State) (a : BusAddr), s.portFree → s.bus.regionOf a.toNat = .playbackWindow →
       s.mon.lastHalf = some (halfOf (s.bus.offset 1 a.toNat)) → s.mon.effective = .decoded → s.tape.evaluating = false →
       let n := pairIn (s.bus.offset 1 a.toNat)
       let c := chanIn (s.bus.offset 1 a.toNat)
       let f := s.mon.halves[halfOf (s.bus.offset 1 a.toNat)].map fun k => s.tape.slots[k].frame
       let own := s.tape.classify none f n c.val
       let next := s.tape.classifyNext s.dec.mon[c] own none f n c.val
       let d := s.dec.mon[c].deliver s.settings.hold (s.classValue own) (s.classValue next)
       let reads : WordClass → Nat := fun w => match w with
         | .direct _ _ _ => 1
         | .rebuilt _ _ _ => 6
         | .lost => 0
       let counted : Counter → Prop := fun k =>
         (k = .wordsCorrected ∧ reads own = 6) ∨ (k = .wordsInterpolated ∧ d.kind = .interpolated) ∨
           (k = .wordsHeld ∧ d.kind = .held) ∨ (k = .wordsMuted ∧ d.kind = .decayed)
       ∃ t, exec (.playbackWindowRead a) s = .next t ∧ t.bus.data = d.ctx.last ∧ t.bus.treatment = .answered ∧
         t.bus.accesses = reads own + reads next ∧ t.dec = { s.dec with mon := vset s.dec.mon c d.ctx } ∧
         (∀ k : Counter, (counted k → t.counter k = min 65535 (s.counter k + 1)) ∧
           (¬counted k → t.counter k = s.counter k)) ∧
         ((∀ k : Counter, ¬counted k) → t.rep = s.rep) ∧ t.rep.raised = s.rep.raised ∧
         s.sameBut [.port, .dec, .counters, .rep] t)

/-- A playback-window read into the other half is a turnover, in either run state and for every effective source. The slot
that the half held is released: it goes FREE where no other hold stands on it (R58, R81). While RUNNING the queue's head is
bound, or with an empty queue and no evaluation the half is left unbound and the underrun raised and counted (R81, R84); while
STOPPED the half is left unbound and nothing is raised (R81). The output status is then set again: the bound frame's for
DECODED, as it stood where no frame is bound, the derived permission for INPUT, FREE for PATTERN and MUTE (R137, R138). The
read is delivered by the effective source (R80, R90 to R92), a decode request being held while a slot is EVALUATING (R48).
With an empty queue while RUNNING and a slot EVALUATING the turnover waits (R82), and a half it has unbound is reported, also
where a hold keeps its slot (R58, R79); that the waiting turnover has by then unbound the half and released its slot is the
model's choice (assumption 26). -/
def Obligations.PlaybackTurnoverBindsHead : Prop :=
  ∀ (s : State) (a : BusAddr), s.portFree → s.bus.regionOf a.toNat = .playbackWindow →
    s.mon.lastHalf ≠ some (halfOf (s.bus.offset 1 a.toNat)) →
    let h := halfOf (s.bus.offset 1 a.toNat)
    let released : State → Prop := fun t =>
      (s.mon.halves[h] = none → t.tape = s.tape) ∧
      ∀ old : Fin 4, s.mon.halves[h] = some old →
        let held := s.tape.slots[old].state ≠ .complete ∨ s.mon.halves[1 - h] = some old ∨ old ∈ s.mon.queue ∨
          (s.coder.job = .recording ∧ s.coder.mode = .insert ∧ s.coder.r ≤ s.tape.slots[old].frame)
        (held → t.tape = s.tape) ∧
        (¬held → t.tape = { s.tape with slots := vset s.tape.slots old { s.tape.slots[old] with state := .free } })
    let holds : HoldKind → State → Prop := fun kind t =>
      t.bus.held = some { txn := { write := false, addr := a, data := 0 }, kind := kind } ∧ t.bus.waiting = [] ∧
      t.bus.op = s.bus.op ∧ t.bus.table = s.bus.table ∧ t.bus.valid = s.bus.valid
    let answered : Option Nat → State → Prop := fun f t =>
      (s.mon.effective ≠ .decoded ∨ s.tape.evaluating = false →
        s.delivered t f (pairIn (s.bus.offset 1 a.toNat)) (chanIn (s.bus.offset 1 a.toNat)) ∧
        s.sameBut [.port, .tape, .dec, .mon, .copy, .counters, .rep] t) ∧
      (s.mon.effective = .decoded → s.tape.evaluating = true →
        holds .decodeRead t ∧ t.mon.pattern = s.mon.pattern ∧
        (∀ k : Counter, k ≠ .monitorUnderrun → t.counter k = s.counter k) ∧
        s.sameBut [.bus, .port, .tape, .mon, .copy, .counters, .rep] t)
    (∀ k rest, s.tape.run = .running → s.mon.queue = k :: rest →
      ∃ t, exec (.playbackWindowRead a) s = .next t ∧ released t ∧
        t.mon = { s.mon with
          queue := rest, halves := vset s.mon.halves h (some k), lastHalf := some h, pattern := t.mon.pattern } ∧
        s.outputSet t ∧ answered (some s.tape.slots[k].frame) t ∧ t.rep.marks.playback = true ∧
        t.rep.raised = s.rep.raised ∧ t.counter .monitorUnderrun = s.counter .monitorUnderrun) ∧
    (s.tape.run = .running → s.mon.queue = [] → s.tape.evaluating = false →
      ∃ t, exec (.playbackWindowRead a) s = .next t ∧ released t ∧
        t.mon = { s.mon with halves := vset s.mon.halves h none, lastHalf := some h, pattern := t.mon.pattern } ∧
        s.outputSet t ∧ answered none t ∧ t.rep.marks.playback = true ∧
        t.isSet .monitorUnderrun = true ∧ t.rep.raised = (s.raise .monitorUnderrun).rep.raised ∧
        t.counter .monitorUnderrun = min 65535 (s.counter .monitorUnderrun + 1)) ∧
    (s.tape.run = .stopped →
      ∃ t, exec (.playbackWindowRead a) s = .next t ∧ released t ∧
        t.mon = { s.mon with halves := vset s.mon.halves h none, lastHalf := some h, pattern := t.mon.pattern } ∧
        s.outputSet t ∧ answered none t ∧ t.rep.marks.playback = true ∧
        t.rep.raised = s.rep.raised ∧ t.counter .monitorUnderrun = s.counter .monitorUnderrun) ∧
    (s.tape.run = .running → s.mon.queue = [] → s.tape.evaluating = true →
      ∃ t, exec (.playbackWindowRead a) s = .next t ∧ released t ∧ holds .turnover t ∧
        t.mon = { s.mon with halves := vset s.mon.halves h none } ∧
        (s.mon.halves[h] = none → t.rep = s.rep) ∧ (s.mon.halves[h] ≠ none → t.rep = s.markPlayback.rep) ∧
        s.sameBut [.bus, .port, .tape, .mon, .rep] t)

/-- MONITOR_SELECT: refused with RANGE and no effect on a source past MUTE, an override past 1, or AUTO with an override;
else taken, and the effective source re-judged (R86, R89). Where that changes it, the output status becomes by R137 and R138
the copy status of the slot bound to the last half read for DECODED, or stays where none is bound, the derived permission for
INPUT, and FREE for PATTERN and MUTE; a change to DECODED re-enters both MONITOR contexts on the ramp, no other touches them
(R89). A repeat of the selection in force changes nothing; that it marks nothing either, so that its completion is due at
once, is the model's choice (assumption 18). -/
def Obligations.MonitorSelectSelects : Prop :=
  ∀ (s : State) (source override : Word), s.aboutToTake (.monitorSelect source override) →
    (4 < source.toNat ∨ 1 < override.toNat ∨ (source = 0 ∧ override = 1) →
      ∃ t, exec (.monitorSelect source override) s = .next t ∧ t.cmd = s.cmd.takenQuiet .monitorSelect .range ∧
        s.sameBut [.port, .cmd] t) ∧
    ∀ x : Source, source.toNat = x.code → override.toNat ≤ 1 → ¬(source = 0 ∧ override = 1) →
      (s.mon.selected = x ∧ s.mon.override = decide (override = 1) →
        ∃ t, exec (.monitorSelect source override) s = .next t ∧ t.cmd = s.cmd.takenQuiet .monitorSelect .done ∧
          s.sameBut [.port, .cmd] t) ∧
      (¬(s.mon.selected = x ∧ s.mon.override = decide (override = 1)) →
        ∃ t, exec (.monitorSelect source override) s = .next t ∧ t.cmd = s.cmd.takenMarked .monitorSelect .done ∧
          t.mon = { s.mon with selected := x, override := decide (override = 1), effective := t.effectiveOf } ∧
          (t.effectiveOf = .decoded → s.mon.effective ≠ .decoded → ∀ c : Fin 2, t.dec.mon[c] = Ctx.reentry) ∧
          (t.effectiveOf = s.mon.effective → t.dec = s.dec ∧ t.copy = s.copy) ∧ t.dec.mix = s.dec.mix ∧
          (t.effectiveOf ≠ s.mon.effective → s.outputSet t) ∧ (t.effectiveOf ≠ .decoded → t.dec = s.dec) ∧
          t.rep.marks.playback = true ∧ t.rep.raised = s.rep.raised ∧ s.sameBut [.port, .dec, .mon, .copy, .cmd, .rep] t)

/-! ### The edit list and the crossfade -/

/-- EDIT_LOAD: RANGE, FULL, CONFLICT, PROTECTED and LATE leave the list as it stands and drop the parameter target (R97).
CONFLICT is a handle in use, a location taken, a location below an entry that is ARMED or SEEKING, and an entry that breaks the
alternation of kinds where its location places it; then PROTECTED is a location or a span in an enabled protected range, and
LATE a location at or before the current record position of a RECORDING job with the list ARMED. An entry past every entry of
the list that passes these tests is placed at the tail with its defaults, its outcome record replaced and its handle the
parameter target; it is armed at once where it is the head and the list is armed with the comparator and the fade wait free
(R98, R104). A return test that is pending is then made on it alone: a recording with the list armed has not passed its
location, or the load was LATE, so it is not missed, and the test is clear (R104, R113). -/
def Obligations.EditLoadPlacesAtTheTail : Prop :=
  ∀ (s : State) (handle : BitVec 4) (kind : BitVec 2) (hi : BitVec 5) (lo pair : Word),
    s.aboutToTake (.editLoad handle kind hi lo pair) →
    let f := 65536 * hi.toNat + lo.toNat
    let q := 768 * f + pair.toNat
    (7 < handle.toNat ∨ 1 < kind.toNat ∨ 1048575 < f ∨ 767 < pair.toNat →
      ∃ t, exec (.editLoad handle kind hi lo pair) s = .next t ∧ t.cmd = s.cmd.takenQuiet .editLoad .range ∧
        t.edit = { s.edit with param := none } ∧ s.sameBut [.port, .edit, .cmd] t) ∧
    ∀ h : Fin 8, handle.toNat = h.val → kind.toNat ≤ 1 → f ≤ 1048575 → pair.toNat ≤ 767 →
      let x : Entry :=
        { handle := h, kind := if kind = 0 then .punchIn else .punchOut, loc := q, cond := .always, chan := none,
          threshold := none, span := none, expo := 0, shape := .linear, state := .pending }
      let o : OutcomeRec := { state := .pending, kind := some x.kind, loc := some q, fire := none, forced := none }
      (8 ≤ s.edit.list.length →
        ∃ t, exec (.editLoad handle kind hi lo pair) s = .next t ∧ t.cmd = s.cmd.takenQuiet .editLoad .full ∧
          t.edit = { s.edit with param := none } ∧ s.sameBut [.port, .edit, .cmd] t) ∧
      (s.edit.list.length < 8 → s.edit.outcomes[h].inUse = true ∨ (∃ y ∈ s.edit.list, y.loc = q) →
        ∃ t, exec (.editLoad handle kind hi lo pair) s = .next t ∧ t.cmd = s.cmd.takenQuiet .editLoad .conflict ∧
          t.edit = { s.edit with param := none } ∧ s.sameBut [.port, .edit, .cmd] t) ∧
      (∀ l r, s.edit.list = l ++ r → (∀ y ∈ l, y.loc < q) → (∀ y ∈ r, q < y.loc) → s.edit.list.length < 8 →
        s.edit.outcomes[h].inUse = false →
        let placed := l ++ x :: r
        let clash := ∃ y ∈ r, y.state ≠ .pending
        let shut := s.copy.isProtected f = true ∨ spansProtected s.copy placed = true
        let refused : Result → State → Prop := fun n t =>
          t.cmd = s.cmd.takenQuiet .editLoad n ∧ t.edit = { s.edit with param := none } ∧ s.sameBut [.port, .edit, .cmd] t
        (clash ∨ alternates s.edit.punch placed = false →
          ∃ t, exec (.editLoad handle kind hi lo pair) s = .next t ∧ refused .conflict t) ∧
        (¬clash → alternates s.edit.punch placed = true → shut →
          ∃ t, exec (.editLoad handle kind hi lo pair) s = .next t ∧ refused .prot t) ∧
        (¬clash → alternates s.edit.punch placed = true → ¬shut → s.edit.arm = .armed → s.coder.job = .recording →
          (∃ p, s.coder.position = some p ∧ q ≤ p) →
          ∃ t, exec (.editLoad handle kind hi lo pair) s = .next t ∧ refused .late t)) ∧
      (s.edit.list.length < 8 → s.edit.outcomes[h].inUse = false → (∀ y ∈ s.edit.list, y.loc < q) →
        alternates s.edit.punch (s.edit.list ++ [x]) = true → s.copy.isProtected f = false →
        spansProtected s.copy (s.edit.list ++ [x]) = false →
        (s.edit.arm = .armed → s.coder.job = .recording → ∀ p, s.coder.position = some p → p < q) →
        ∃ t, exec (.editLoad handle kind hi lo pair) s = .next t ∧ t.cmd = s.cmd.takenMarked .editLoad .done ∧
          (s.edit.list ≠ [] ∨ s.edit.arm = .disarmed ∨ s.edit.owner ≠ .idle ∨ s.edit.rearm ≠ none →
            t.edit = { s.edit with
              list := s.edit.list ++ [x], outcomes := vset s.edit.outcomes h o, param := some h }) ∧
          (s.edit.list = [] → s.edit.arm = .armed → s.edit.owner = .idle → s.edit.rearm = none →
            t.edit = { s.edit with
              list := [{ x with state := .armed }], outcomes := vset s.edit.outcomes h { o with state := .armed },
              param := some h, owner := .waitL1, entry := some h, deadline := none, prevTrig := none,
              returnTest := false }) ∧
          t.rep.marks.edit = true ∧ t.rep.raised = s.rep.raised ∧ s.sameBut [.port, .edit, .cmd, .rep] t)

/-- EDIT_PARAM: SEQUENCE, STATE and RANGE in that order without effect (R99); else the six fields of the target entry are
set, absent where the condition has no use for them, with the clamps of R100. That a NOP keeps the sequence whatever command
came before it is the model's choice (assumption 35). -/
def Obligations.EditParamSetsTheTarget : Prop :=
  ∀ (s : State) (cond : BitVec 2) (chan : BitVec 1) (expo : BitVec 4) (shape : BitVec 2) (threshold span : Word),
    s.aboutToTake (.editParam cond chan expo shape threshold span) →
    (s.edit.param = none ∨ (s.cmd.prev ≠ some .editLoad ∧ s.cmd.prev ≠ some .editParam ∧ s.cmd.prev ≠ some .nop) →
      ∃ t, exec (.editParam cond chan expo shape threshold span) s = .next t ∧
        t.cmd = s.cmd.takenQuiet .editParam .sequence ∧ s.sameBut [.port, .cmd] t) ∧
    ∀ h : Fin 8, s.edit.param = some h →
      s.cmd.prev = some .editLoad ∨ s.cmd.prev = some .editParam ∨ s.cmd.prev = some .nop →
      (s.edit.outcomes[h].state ≠ .pending →
        ∃ t, exec (.editParam cond chan expo shape threshold span) s = .next t ∧
          t.cmd = s.cmd.takenQuiet .editParam .state ∧ s.sameBut [.port, .cmd] t) ∧
      (s.edit.outcomes[h].state = .pending → cond.toNat = 3 ∨ 1 < shape.toNat ∨ 4095 < span.toNat →
        ∃ t, exec (.editParam cond chan expo shape threshold span) s = .next t ∧
          t.cmd = s.cmd.takenQuiet .editParam .range ∧ s.sameBut [.port, .cmd] t) ∧
      (s.edit.outcomes[h].state = .pending → cond.toNat < 3 → shape.toNat ≤ 1 → span.toNat ≤ 4095 →
        ∃ t, exec (.editParam cond chan expo shape threshold span) s = .next t ∧
          t.cmd = s.cmd.takenMarked .editParam .done ∧
          t.edit = { s.edit with list := s.edit.list.map fun x =>
            if x.handle = h then
              { x with
                cond := if cond = 0 then .always else if cond = 1 then .zeroCross else .below
                chan := if cond = 0 then none else some (if chan = 0 then 0 else 1)
                threshold := if cond = 2 then some (min 32767 threshold.toNat) else none
                span := if cond = 0 then none else some span.toNat
                expo := if expo = 0 then 0 else if expo.toNat < 4 then 4 else if 11 < expo.toNat then 11 else expo.toNat
                shape := if shape = 0 then .linear else .power }
            else x } ∧
          t.rep = s.markEdit.rep ∧ s.sameBut [.port, .edit, .cmd, .rep] t)

/-- EDIT_CANCEL: RANGE above handle 7, STATE for a handle not in use, else the handle's entry and every one after it leave
the list CANCELLED, and the comparator is released where its entry is among them; punch and transition stay (R101). -/
def Obligations.EditCancelTruncates : Prop :=
  ∀ (s : State) (handle : BitVec 4), s.aboutToTake (.editCancel handle) →
    (7 < handle.toNat → ∃ t, exec (.editCancel handle) s = .next t ∧ t.cmd = s.cmd.takenQuiet .editCancel .range ∧
      s.sameBut [.port, .cmd] t) ∧
    ∀ h : Fin 8, handle.toNat = h.val →
      (s.edit.outcomes[h].inUse = false →
        ∃ t, exec (.editCancel handle) s = .next t ∧ t.cmd = s.cmd.takenQuiet .editCancel .state ∧
          s.sameBut [.port, .cmd] t) ∧
      ∀ (kept gone : List Entry) (x : Entry), s.edit.outcomes[h].inUse = true → s.edit.list = kept ++ x :: gone →
        x.handle = h → (∀ y ∈ kept, y.handle ≠ h) →
        ∃ t, exec (.editCancel handle) s = .next t ∧ t.cmd = s.cmd.takenMarked .editCancel .done ∧
          t.edit.list = kept ∧ (∀ y ∈ x :: gone, t.edit.outcomes[y.handle].state = .cancelled) ∧
          (∀ k : Fin 8, (∀ y ∈ x :: gone, y.handle ≠ k) → t.edit.outcomes[k] = s.edit.outcomes[k]) ∧
          (∀ y ∈ x :: gone, s.edit.entry = some y.handle →
            t.edit.owner = .idle ∧ t.edit.entry = none ∧ t.edit.deadline = none ∧ t.edit.prevTrig = none) ∧
          ((∀ y ∈ x :: gone, s.edit.entry ≠ some y.handle) →
            t.edit = { s.edit with list := kept, outcomes := t.edit.outcomes }) ∧
          t.edit.punch = s.edit.punch ∧ t.edit.trans = s.edit.trans ∧ t.edit.arm = s.edit.arm ∧
          t.rep = s.markEdit.rep ∧ s.sameBut [.port, .edit, .cmd, .rep] t

/-- EDIT_ARM: STATE while an ASSEMBLE recording runs or stops; no change where ARMED already; else ARMED, and the head entry
armed where the comparator and the fade wait leave it free (R102, R104). Where the return test is pending, as after a LOCATE
that ended while the list was DISARMED, it is first made on the list: the entries it misses leave the list MISSED, and the
head it leaves, if any, is armed (R104, R113); where R104 does not arm, the test stays pending. That it stays pending where the
list is empty is the model's choice (assumption 11), and so is that an EDIT_ARM while ARMED marks the edit status record, so
that its completion waits for a pass (assumption 18). EDIT_DISARM: no change where DISARMED; else DISARMED, and the comparator
entry returned to PENDING (R103). -/
def Obligations.EditArmAndDisarm : Prop :=
  (∀ s : State, s.aboutToTake .editArm →
    (s.coder.mode = .assemble → s.coder.job ≠ .idle →
      ∃ t, exec .editArm s = .next t ∧ t.cmd = s.cmd.takenQuiet .editArm .state ∧ s.sameBut [.port, .cmd] t) ∧
    (s.coder.mode = .insert ∨ s.coder.job = .idle →
      ∃ t, exec .editArm s = .next t ∧ t.cmd = s.cmd.takenMarked .editArm .done ∧
        (s.edit.arm = .armed → t.edit = s.edit) ∧
        (s.edit.arm = .disarmed → s.edit.owner ≠ .idle ∨ s.edit.rearm ≠ none ∨ s.edit.list = [] →
          t.edit = { s.edit with arm := .armed }) ∧
        (∀ x rest, s.edit.arm = .disarmed → s.edit.owner = .idle → s.edit.rearm = none → s.edit.returnTest = false →
          s.edit.list = x :: rest → x.state = .pending →
          t.edit = { s.edit with
            arm := .armed, list := { x with state := .armed } :: rest, owner := .waitL1, entry := some x.handle,
            deadline := none, prevTrig := none,
            outcomes := vset s.edit.outcomes x.handle { s.edit.outcomes[x.handle] with state := .armed } }) ∧
        (s.edit.arm = .armed ∨ s.edit.owner ≠ .idle ∨ s.edit.rearm ≠ none ∨ s.edit.list = [] ∨ s.edit.returnTest = false →
          t.rep = s.markEdit.rep) ∧
        (∀ gone kept : List Entry, s.edit.arm = .disarmed → s.edit.owner = .idle → s.edit.rearm = none →
          s.edit.returnTest = true → (∃ x rest, s.edit.list = x :: rest ∧ x.state = .pending) →
          returnSplit s.coder.position s.edit.list gone kept →
          (gone = [] → t.rep = s.markEdit.rep) ∧ (gone ≠ [] → t.rep = (s.markEdit.raise .missed).rep) ∧
          (kept = [] → t.edit = { s.edit with
            arm := .armed, list := [], returnTest := false, outcomes := missedRecords gone s.edit.outcomes }) ∧
          (∀ z rest, kept = z :: rest → t.edit = { s.edit with
            arm := .armed, list := { z with state := .armed } :: rest, owner := .waitL1, entry := some z.handle,
            deadline := none, prevTrig := none, returnTest := false,
            outcomes := vset (missedRecords gone s.edit.outcomes) z.handle
              { s.edit.outcomes[z.handle] with state := .armed } })) ∧
        s.sameBut [.port, .edit, .cmd, .rep] t)) ∧
  ∀ s : State, s.aboutToTake .editDisarm →
    (s.edit.arm = .disarmed →
      ∃ t, exec .editDisarm s = .next t ∧ t.cmd = s.cmd.takenQuiet .editDisarm .done ∧ s.sameBut [.port, .cmd] t) ∧
    (s.edit.arm = .armed →
      ∃ t, exec .editDisarm s = .next t ∧ t.cmd = s.cmd.takenMarked .editDisarm .done ∧
        (s.edit.owner = .idle ∨ s.edit.owner = .locateWait → t.edit = { s.edit with arm := .disarmed }) ∧
        (∀ x rest, s.edit.owner = .waitL1 ∨ s.edit.owner = .waitL2 → s.edit.list = x :: rest →
          t.edit = { s.edit with
            arm := .disarmed, list := { x with state := .pending } :: rest, owner := .idle, entry := none,
            deadline := none, prevTrig := none,
            outcomes := vset s.edit.outcomes x.handle { s.edit.outcomes[x.handle] with state := .pending } }) ∧
        t.rep = s.markEdit.rep ∧ s.sameBut [.port, .edit, .cmd, .rep] t)

/-- LOCATE: RANGE past the last frame address; else it takes the comparator for the target, its entry returned to PENDING
(R111). LOCATE_CANCEL: STATE unless a LOCATE waits; else the comparator is free again and nothing LOCATED. Where R104 allows,
the return test is made on the list, of whatever length: a head that the recording has passed by more than its span is MISSED
with the entry after it, if there is one, and the test repeated until a head passes, which is armed, or the list is empty
(R113); where the list is disarmed or a fade wait stands the test stays pending. That it stays pending where the list is empty
is the model's choice (assumption 11). -/
def Obligations.LocateAndCancel : Prop :=
  (∀ (s : State) (hi lo : Word), s.aboutToTake (.locate hi lo) →
    (1048575 < 65536 * hi.toNat + lo.toNat →
      ∃ t, exec (.locate hi lo) s = .next t ∧ t.cmd = s.cmd.takenQuiet .locate .range ∧ s.sameBut [.port, .cmd] t) ∧
    (65536 * hi.toNat + lo.toNat ≤ 1048575 →
      ∃ t, exec (.locate hi lo) s = .next t ∧ t.cmd = s.cmd.takenMarked .locate .done ∧
        (s.edit.owner = .idle ∨ s.edit.owner = .locateWait →
          t.edit = { s.edit with owner := .locateWait, target := some (65536 * hi.toNat + lo.toNat) }) ∧
        (∀ x rest, s.edit.owner = .waitL1 ∨ s.edit.owner = .waitL2 → s.edit.list = x :: rest →
          t.edit = { s.edit with
            owner := .locateWait, target := some (65536 * hi.toNat + lo.toNat), entry := none, deadline := none,
            prevTrig := none, list := { x with state := .pending } :: rest,
            outcomes := vset s.edit.outcomes x.handle { s.edit.outcomes[x.handle] with state := .pending } }) ∧
        t.rep = s.markEdit.rep ∧ s.sameBut [.port, .edit, .cmd, .rep] t)) ∧
  ∀ s : State, s.aboutToTake .locateCancel →
    (s.edit.owner ≠ .locateWait →
      ∃ t, exec .locateCancel s = .next t ∧ t.cmd = s.cmd.takenQuiet .locateCancel .state ∧ s.sameBut [.port, .cmd] t) ∧
    (s.edit.owner = .locateWait →
      ∃ t, exec .locateCancel s = .next t ∧ t.cmd = s.cmd.takenMarked .locateCancel .done ∧ t.edit.target = none ∧
        s.locateEnded t ∧ t.isSet .located = s.isSet .located ∧ t.rep.marks.edit = true ∧
        s.sameBut [.port, .edit, .cmd, .rep] t)

/-- SOFT_RESET EDIT: the list emptied with each removed handle CANCELLED, the comparator, target, parameter target, re-arm
position and return test cleared; the arm state, the punch and its transition stay (R116). -/
def Obligations.SoftResetEditEmptiesTheList : Prop :=
  ∀ s : State, s.aboutToTake .softResetEdit →
    ∃ t, exec .softResetEdit s = .next t ∧ t.cmd = s.cmd.takenMarked .softReset .done ∧
      t.edit = { s.edit with
        list := [], outcomes := t.edit.outcomes, owner := .idle, entry := none, deadline := none, prevTrig := none,
        target := none, param := none, rearm := none, returnTest := false } ∧
      (∀ x ∈ s.edit.list, t.edit.outcomes[x.handle] = { s.edit.outcomes[x.handle] with state := .cancelled }) ∧
      (∀ k : Fin 8, (∀ x ∈ s.edit.list, x.handle ≠ k) → t.edit.outcomes[k] = s.edit.outcomes[k]) ∧
      t.rep = s.markEdit.rep ∧ s.sameBut [.port, .edit, .cmd, .rep] t

/-- Every step keeps the edit list in strictly increasing location order and of at most eight entries, and keeps its law of
kinds: they alternate, the first opposite to the punch state, which is OUT whenever the job is not RECORDING (R96, R110). -/
def Obligations.EditListStaysOrdered : Prop :=
  (∀ s t : State, s.edit.ordered → step s = .next t → t.edit.ordered) ∧
  ∀ s t : State, s.punchLaw → step s = .next t → t.punchLaw

/-- A first-write pair event at position `q` in INSERT mode fires the ARMED head of condition NONE at or past its location,
the SEEKING head whose condition is met, and at its deadline, FORCED, the one whose condition is not met (R105 to R108): the
transition, the punch state, the outcome and the re-arm position are set, and the comparator is free. ZERO_CROSS is met by a
change of sign from the previous trigger value, BELOW by a magnitude at or below the threshold (R107). An ARMED head of either
condition at or past its location goes to SEEKING with its deadline and is judged in the same event, with no previous value
(R106); below its location nothing happens. A SEEKING head that does not fire keeps the value (R107). With the comparator free
and a re-arm position at or before `q` the fade wait ends (R105, R109): where the list is armed its PENDING head is armed and
tested in the same event as an ARMED head is, after the return test where that is pending (R104, R113); where the list is
disarmed or empty, or a LOCATE holds the comparator, only the wait ends, and before the re-arm position nothing does. That the
return test of the event judges by the position of the event itself is the model's choice (assumption 12), and so is that a
pending test stays pending where the list is empty (assumption 11). -/
def Obligations.PunchFires : Prop :=
  (∀ (s : State) (gone rest : List Entry) (x : Entry) (q : Nat) (old : Vector Word 2), s.edit.list = gone ++ x :: rest →
    let v := old[x.chan.getD 0]
    let t := s.pairEvent q (some old)
    let len := if x.expo = 0 then 0 else 2 ^ x.expo
    let rearm := s.edit.rearm.filter (q < ·)
    let below := x.cond = .below ∧ v.toInt.natAbs ≤ x.threshold.getD 0
    let cross := x.cond = .zeroCross ∧ ∃ p, s.edit.prevTrig = some p ∧
      ((p.toInt < 0 ∧ 0 ≤ v.toInt) ∨ (0 ≤ p.toInt ∧ v.toInt < 0))
    let met := x.cond = .always ∨ below ∨ cross
    let stop := x.loc + x.span.getD 0
    let ended := s.edit.owner = .idle ∧ s.edit.arm = .armed ∧ (∃ r, s.edit.rearm = some r ∧ r ≤ q) ∧
      (∃ y l, s.edit.list = y :: l ∧ y.state = .pending) ∧
      ((s.edit.returnTest = false ∧ gone = []) ∨ (s.edit.returnTest = true ∧
        returnSplit (if s.coder.job = .recording then some q else none) s.edit.list gone (x :: rest)))
    let level1 := (s.edit.owner = .waitL1 ∧ gone = []) ∨ ended
    let level2 := s.edit.owner = .waitL2 ∧ gone = []
    let test := s.edit.returnTest && decide (s.edit.owner ≠ .idle)
    let records := missedRecords gone s.edit.outcomes
    let kept := t.isSet .missed = (s.isSet .missed || !gone.isEmpty) ∧ t.coder = { s.coder with recPos := some q } ∧
      t.mon.effective = t.effectiveOf ∧ s.sameBut [.coder, .dec, .mon, .edit, .copy, .rep] t
    let quiet := t.isSet .fired = s.isSet .fired ∧ t.isSet .forced = s.isSet .forced ∧ kept
    (∀ forced : Bool,
      (level1 ∧ x.cond = .always ∧ x.loc ≤ q ∧ forced = false) ∨
        (level1 ∧ x.loc ≤ q ∧ below ∧ forced = false) ∨
        (level1 ∧ x.cond ≠ .always ∧ stop ≤ q ∧ ¬below ∧ forced = true) ∨
        (level2 ∧ met ∧ forced = false) ∨
        (level2 ∧ ¬met ∧ (∃ d, s.edit.deadline = some d ∧ d ≤ q) ∧ forced = true) →
      t.edit = { s.edit with
        list := rest, owner := .idle, entry := none, deadline := none, prevTrig := none, rearm := some (q + len),
        returnTest := test,
        punch := (match x.kind with
          | .punchIn => .inside
          | .punchOut => .outside),
        trans := some { pos := q, kind := x.kind, len := len, shape := x.shape, prior := s.edit.punch },
        outcomes := vset records x.handle
          { s.edit.outcomes[x.handle] with state := .fired, fire := some q, forced := some forced } } ∧
      t.isSet .fired = true ∧ (forced = true → t.isSet .forced = true) ∧
      (forced = false → t.isSet .forced = s.isSet .forced) ∧ t.rep.marks.edit = true ∧ kept) ∧
    (s.edit.owner = .waitL1 → gone = [] → q < x.loc → t.edit = { s.edit with rearm := rearm } ∧ quiet) ∧
    (ended → q < x.loc →
      t.edit = { s.edit with
        list := { x with state := .armed } :: rest, owner := .waitL1, entry := some x.handle, deadline := none,
        prevTrig := none, rearm := none, returnTest := false,
        outcomes := vset records x.handle { s.edit.outcomes[x.handle] with state := .armed } } ∧
      t.rep.marks.edit = true ∧ quiet) ∧
    (level1 → x.cond ≠ .always → x.loc ≤ q → ¬below → q < stop →
      t.edit = { s.edit with
        list := { x with state := .seeking } :: rest, owner := .waitL2, deadline := some stop, prevTrig := some v,
        entry := (if s.edit.owner = .idle then some x.handle else s.edit.entry), rearm := rearm, returnTest := test,
        outcomes := vset records x.handle { s.edit.outcomes[x.handle] with state := .seeking } } ∧
      t.rep.marks.edit = true ∧ quiet) ∧
    (level2 → ¬met → (∀ d, s.edit.deadline = some d → q < d) →
      t.edit = { s.edit with prevTrig := some v, rearm := rearm } ∧ quiet)) ∧
  ∀ (s : State) (q : Nat) (old : Vector Word 2),
    let t := s.pairEvent q (some old)
    let reached := ∃ r, s.edit.rearm = some r ∧ r ≤ q
    let kept := t.isSet .fired = s.isSet .fired ∧ t.isSet .forced = s.isSet .forced ∧
      t.coder = { s.coder with recPos := some q } ∧ t.mon.effective = t.effectiveOf ∧
      s.sameBut [.coder, .dec, .mon, .edit, .copy, .rep] t
    (s.edit.owner = .locateWait ∨ (s.edit.owner = .idle ∧ (¬reached ∨ s.edit.arm = .disarmed ∨ s.edit.list = [])) →
      t.edit = { s.edit with rearm := s.edit.rearm.filter (q < ·) } ∧ t.isSet .missed = s.isSet .missed ∧ kept) ∧
    (s.edit.owner = .idle → s.edit.arm = .armed → reached → (∃ y l, s.edit.list = y :: l ∧ y.state = .pending) →
      s.edit.returnTest = true →
      returnSplit (if s.coder.job = .recording then some q else none) s.edit.list s.edit.list [] →
      t.edit = { s.edit with
        list := [], rearm := none, returnTest := false, outcomes := missedRecords s.edit.list s.edit.outcomes } ∧
      t.isSet .missed = true ∧ t.rep.marks.edit = true ∧ kept)

/-- The fade weights of R119 and R120 for every fade length: the linear weight is exact and stays in its range, LINEAR
weights sum to 32768 and POWER weights to at most 49152. A LINEAR blend lies between its two samples, so it never saturates
(R122, R123). -/
def Obligations.FadeWeightsAndBlend : Prop :=
  (∀ e k, 4 ≤ e → e ≤ 11 → k < 2 ^ e →
    let w := linearWeight (2 ^ e) k
    w * 2 ^ e = (2 * k + 1) * 16384 ∧ 16384 / 2 ^ e ≤ w ∧ w ≤ 32768 - 16384 / 2 ^ e ∧
    fadeIn .linear w + fadeOut .linear w = 32768 ∧ fadeIn .power w + fadeOut .power w ≤ 49152 ∧
    32768 < fadeIn .power w + fadeOut .power w) ∧
  ∀ (new old : Word) (w : Nat), w ≤ 32768 →
    min new.toInt old.toInt ≤ mixRaw new old w (32768 - w) ∧ mixRaw new old w (32768 - w) ≤ max new.toInt old.toInt ∧
    (Stored.ofMix new old w (32768 - w)).saturated = false

/-- The stored-word rule of R117 at position `q`, with the mix and its saturation inside the fade (R121 to R123). With each
word stand the weights of new and old audio that copy control reads for it: 32768 and 0, or 0 and 32768, outside the fade, and
the mixer's inside (R117, R121). -/
def Obligations.StoredWordByPosition : Prop :=
  ∀ (punch : Punch) (t : Transition) (q : Nat) (new old : Word),
    let isOld : Stored → Prop := fun w => w.word = old ∧ w.wNew = 0 ∧ w.wOld = 32768
    let isNew : Stored → Prop := fun w => w.word = new ∧ w.wNew = 32768 ∧ w.wOld = 0
    isOld (storedWord .outside none q new old) ∧
    (q < t.pos → t.prior = .outside → isOld (storedWord punch (some t) q new old)) ∧
    (q < t.pos → t.prior = .inside → isNew (storedWord punch (some t) q new old)) ∧
    (t.pos + t.len ≤ q → t.kind = .punchIn → isNew (storedWord punch (some t) q new old)) ∧
    (t.pos + t.len ≤ q → t.kind = .punchOut → isOld (storedWord punch (some t) q new old)) ∧
    (t.pos ≤ q → q < t.pos + t.len →
      let x := (2 * (q - t.pos) + 1) * 16384 / t.len
      let up := if t.shape = .linear then x else x * (65536 - x) / 32768
      let down := if t.shape = .linear then 32768 - x else (32768 - x) * (32768 + x) / 32768
      let wNew : Nat := if t.kind = .punchIn then up else down
      let wOld : Nat := if t.kind = .punchIn then down else up
      let r := (new.toInt * wNew + old.toInt * wOld + 16384) / 32768
      (storedWord punch (some t) q new old).word.toInt = max (-32768) (min 32767 r) ∧
      (storedWord punch (some t) q new old).wNew = wNew ∧ (storedWord punch (some t) q new old).wOld = wOld ∧
      ((storedWord punch (some t) q new old).saturated = true ↔ r < -32768 ∨ 32767 < r))

/-! ### Copy control and the registers of the control area -/

/-- INPUT_STATUS_WRITE: passed and captured, bits 15..5 ignored (R131); the permission is derived in the order of R132, a
stricter one governs the recording at once, and INPUT_CHANGED is raised where the derived permission changes (R133). -/
def Obligations.InputStatusWriteDerives : Prop :=
  ∀ (s : State) (v : Word), s.mem.wf = true → s.portFree →
    let n := v.toNat
    let d : CopyStatus :=
      if n % 4 = 0 then .free
      else if n % 4 = 2 then s.copy.analog
      else if n % 4 = 1 then
        if n / 4 % 2 = 1 then .free else if n / 8 % 2 = 0 ∧ n / 16 % 2 = 1 then .once else .none
      else .none
    ∃ t, exec (.inputStatusWrite v) s = .next t ∧ t.bus.treatment = .passed ∧ t.peek 0x7F028 = v ∧
      s.memSameBut [0x7F028] t ∧ t.copy.input.format.toNat = n % 4 ∧
      t.copy.input.permitted = decide (n / 4 % 2 = 1) ∧ t.copy.input.isCopy = decide (n / 8 % 2 = 1) ∧
      t.copy.input.category = decide (n / 16 % 2 = 1) ∧ t.copy.derived = d ∧
      t.copy.recording =
        (if d ≠ s.copy.derived ∧ s.copy.recording.code < d.code then d else s.copy.recording) ∧
      t.copy.output = (if d ≠ s.copy.derived ∧ s.mon.effective = .input then d else s.copy.output) ∧
      (d ≠ s.copy.derived → t.isSet .inputChanged = true ∧ t.rep.marks.copy = true) ∧
      (d = s.copy.derived → t.rep = s.rep) ∧
      t.copy = { s.copy with
        input := t.copy.input, derived := t.copy.derived, recording := t.copy.recording, output := t.copy.output } ∧
      s.sameBut [.port, .copy, .rep, .mem] t

/-- POLICY_RECORD_WRITE: dropped with SEAL_WRITE while SEALED (R142); else passed and captured, the analog status FREE or
ONCE and no other (R139), a range enabled where its enable is set and its start is not above its end, CONFIG_INVALID else
(R140). A changed analog status has the permission derived afresh: a stricter one governs the recording at once, the output
status follows where the input is monitored, and INPUT_CHANGED is raised (R132, R133, R137). POLICY_SEAL: a repeat has no effect; the first seals, writes the policy back, and clears the enable of a range held
disabled (R141). -/
def Obligations.PolicyWriteAndSeal : Prop :=
  (∀ (s : State) (k : Fin 21) (v : Word), s.mem.wf = true → s.portFree →
    (s.copy.sealed = true → ∃ t, exec (.policyRecordWrite k v) s = .next t ∧ t.bus.treatment = .dropped ∧
      t.bus.accesses = 0 ∧ t.isSet .sealWrite = true ∧ t.rep = (s.raise .sealWrite).rep ∧ s.sameBut [.port, .rep] t) ∧
    (s.copy.sealed = false → ∃ t, exec (.policyRecordWrite k v) s = .next t ∧ t.bus.treatment = .passed ∧
      t.peek (0x7F030 + k.val) = v ∧ s.memSameBut [0x7F030 + k.val] t ∧
      (k.val = 0 → t.copy.ranges = s.copy.ranges ∧ t.copy.input = s.copy.input ∧
        t.copy.analog = (if v = 0 then .free else if v = 1 then .once else s.copy.analog) ∧
        t.copy.derived = (if v.toNat ≤ 1 ∧ s.copy.input.format = 2 then t.copy.analog
          else if v.toNat ≤ 1 then derivedOf s.copy.input s.copy.analog else s.copy.derived) ∧
        t.copy.recording = (if t.copy.derived ≠ s.copy.derived ∧ s.copy.recording.code < t.copy.derived.code
          then t.copy.derived else s.copy.recording) ∧
        t.copy.output = (if t.copy.derived ≠ s.copy.derived ∧ s.mon.effective = .input then t.copy.derived
          else s.copy.output) ∧
        t.copy = { s.copy with
          analog := t.copy.analog, derived := t.copy.derived, recording := t.copy.recording, output := t.copy.output } ∧
        (t.copy.derived ≠ s.copy.derived → t.isSet .inputChanged = true ∧ t.rep.marks.copy = true) ∧
        (v.toNat ≤ 1 → t.copy.derived = s.copy.derived → t.rep = s.rep) ∧
        (1 < v.toNat → t.copy = s.copy ∧ t.isSet .configInvalid = true ∧ t.rep = (s.raise .configInvalid).rep)) ∧
      (∀ (n : Fin 4) (j : Fin 5), k.val = 1 + 5 * n.val + j.val →
        let r := s.copy.ranges[n]
        let a := if j = 0 then 65536 * (v.toNat % 16) + r.start % 65536
          else if j = 1 then 65536 * (r.start / 65536) + v.toNat else r.start
        let b := if j = 2 then 65536 * (v.toNat % 16) + r.stop % 65536
          else if j = 3 then 65536 * (r.stop / 65536) + v.toNat else r.stop
        let e := if j = 4 then decide (v.toNat % 2 = 1) else r.enable
        let x : Range := { start := a, stop := b, enable := e, active := e && decide (a ≤ b) }
        t.copy = { s.copy with ranges := vset s.copy.ranges n x } ∧
        (e = true → b < a → t.isSet .configInvalid = true) ∧
        (e = false ∨ a ≤ b → t.rep = s.rep)) ∧
      s.sameBut [.port, .copy, .rep, .mem] t)) ∧
  ∀ s : State, s.aboutToTake .policySeal →
    (s.copy.sealed = true → ∃ t, exec .policySeal s = .next t ∧ t.cmd = s.cmd.takenQuiet .policySeal .done ∧
      s.sameBut [.port, .cmd] t) ∧
    (s.copy.sealed = false → ∃ t, exec .policySeal s = .next t ∧ t.cmd = s.cmd.takenMarked .policySeal .done ∧
      t.copy = { s.copy with sealed := true, ranges := t.copy.ranges } ∧
      (∀ n : Fin 4, t.copy.ranges[n] = { s.copy.ranges[n] with enable := s.copy.ranges[n].active }) ∧
      t.rep = { s.rep with backPolicy := true, marks := { s.rep.marks with copy := true } } ∧
      s.sameBut [.port, .copy, .cmd, .rep] t)

/-- SETTINGS_WRITE: passed; a value in its field's range is in force at once. One outside is clamped to the range, or for the
rate code leaves the value in force, and the value in force is to be written back, CONFIG_INVALID being raised then and not
before (R164). A change of W empties the error-rate window and arms its monitor, and a change of T makes the monitor's test at
once (R56, R57, R165). -/
def Obligations.SettingsWriteCaptures : Prop :=
  ∀ (s : State) (k : Fin 7) (v : Word), s.mem.wf = true → s.portFree →
    let lo := (#v[0, 1, 1, 1, 4, 1, 0] : Vector Nat 7)[k]
    let hi := (#v[2, 64, 15, 14, 64, 896, 15] : Vector Nat 7)[k]
    ∃ t, exec (.settingsWrite k v) s = .next t ∧ t.bus.treatment = .passed ∧ t.peek (0x7F010 + k.val) = v ∧
      s.memSameBut [0x7F010 + k.val] t ∧
      t.settings.get k = (if lo ≤ v.toNat ∧ v.toNat ≤ hi then v.toNat
        else if k = 0 then s.settings.get k else if v.toNat < lo then lo else hi) ∧
      (∀ j : Fin 7, j ≠ k → t.settings.get j = s.settings.get j) ∧
      (v.toNat < lo ∨ hi < v.toNat → t.rep.backSettings = vset s.rep.backSettings k true) ∧
      (lo ≤ v.toNat → v.toNat ≤ hi → t.rep.backSettings = s.rep.backSettings) ∧
      t.isSet .configInvalid = s.isSet .configInvalid ∧
      (k = 5 → t.settings.get k ≠ s.settings.get k → s.rateTested t ∧ t.tape.window = s.tape.window) ∧
      (t.settings.get k = s.settings.get k → t.tape = s.tape) ∧
      (k = 4 → t.settings.get k ≠ s.settings.get k → t.tape.window = [] ∧ t.tape.rateArmed = true) ∧
      (k ≠ 4 → k ≠ 5 → s.sameBut [.port, .settings, .rep, .mem] t) ∧
      s.sameBut [.port, .tape, .settings, .counters, .rep, .mem] t

/-- MASK_WORD_WRITE is passed and captured, and CAUSE_WORD_READ clears the POSTED causes whose bits it returned and marks the
word for rewriting; each judges ALERT at once, low while some POSTED cause is enabled by its mask (R167, R169, R170). That a
read which clears no cause judges it too is the model's choice (assumption 36). -/
def Obligations.MaskWriteAndCauseRead : Prop :=
  (∀ (s : State) (g : Fin 6) (v : Word), s.mem.wf = true → s.portFree →
    ∃ t, exec (.maskWordWrite g v) s = .next t ∧ t.bus.treatment = .passed ∧ t.peek (0x7F018 + g.val) = v ∧
      s.memSameBut [0x7F018 + g.val] t ∧
      t.rep = { s.rep with masks := vset s.rep.masks g v, alert := t.rep.alert } ∧
      (t.rep.alert = true ↔ ∃ n : Fin 6, t.rep.posted[n] &&& t.rep.masks[n] ≠ 0) ∧ s.sameBut [.port, .rep, .mem] t) ∧
  ∀ (s : State) (g : Fin 6), s.portFree →
    ∃ t, exec (.causeWordRead g) s = .next t ∧ t.bus.treatment = .passed ∧ t.bus.data = s.peek (0x7F002 + g.val) ∧
      t.bus.accesses = 1 ∧
      t.rep = { s.rep with
        posted := vset s.rep.posted g (s.rep.posted[g] &&& ~~~(s.peek (0x7F002 + g.val))),
        causeMarks := vset s.rep.causeMarks g true, alert := t.rep.alert } ∧
      (t.rep.alert = true ↔ ∃ n : Fin 6, t.rep.posted[n] &&& t.rep.masks[n] ≠ 0) ∧ s.sameBut [.port, .rep] t

/-- WINDOW_TABLE_WRITE: dropped with CONFIG_BUSY unless the record job is IDLE and playback STOPPED (R151); else passed, and
the table judged: every page at most 127, every region below the control area, and no two overlapping (R149, R150). A write
that changes the playback window's base with the table valid after it sets the last half read to none (R151); that no other
write does, also where it makes the table valid, is the model's choice (assumption 14). -/
def Obligations.WindowTableWriteJudges : Prop :=
  ∀ (s : State) (k : Fin 4) (v : Word), s.mem.wf = true → s.portFree →
    (s.coder.job ≠ .idle ∨ s.tape.run ≠ .stopped →
      ∃ t, exec (.windowTableWrite k v) s = .next t ∧ t.bus.treatment = .dropped ∧ t.bus.accesses = 0 ∧
        t.isSet .configBusy = true ∧ t.rep = (s.raise .configBusy).rep ∧ s.sameBut [.port, .rep] t) ∧
    (s.coder.job = .idle → s.tape.run = .stopped →
      let words : Fin 4 → Nat := fun n => if n.val < 2 then 3072 else 7392
      ∃ t, exec (.windowTableWrite k v) s = .next t ∧ t.bus.treatment = .passed ∧ t.peek (0x7F020 + k.val) = v ∧
        s.memSameBut [0x7F020 + k.val] t ∧ t.bus.table = vset s.bus.table k v ∧
        (t.bus.valid = true ↔
          (∀ n : Fin 4, t.bus.table[n].toNat ≤ 127 ∧ 0x1000 * t.bus.table[n].toNat + words n ≤ 0x7F000) ∧
          ∀ m n : Fin 4, m ≠ n → 0x1000 * t.bus.table[m].toNat + words m ≤ 0x1000 * t.bus.table[n].toNat ∨
            0x1000 * t.bus.table[n].toNat + words n ≤ 0x1000 * t.bus.table[m].toNat) ∧
        (t.bus.valid = false → t.isSet .configInvalid = true) ∧
        (t.bus.valid = true → t.rep.raised = s.rep.raised) ∧
        t.bus.op = s.bus.op ∧ t.noneHeld ∧ t.mon = { s.mon with lastHalf := t.mon.lastHalf } ∧
        (k ≠ 1 → t.mon = s.mon) ∧ (k = 1 → v = s.bus.table[(1 : Fin 4)] ∨ t.bus.valid = false → t.mon = s.mon) ∧
        (k = 1 → v ≠ s.bus.table[(1 : Fin 4)] → t.bus.valid = true → t.mon.lastHalf = none) ∧ s.sameBut [.bus, .port, .mon, .rep, .mem] t)

/-! ### The command ring and the report unit -/

/-- PRODUCER_INDEX_WRITE: a value that leaves at most 16 commands outstanding, and one while the busy flag is set, is passed
and captured, and an idle command unit takes the next entry; any other is dropped with RING_OVERFLOW (R158, R159). -/
def Obligations.ProducerIndexWriteAdmits : Prop :=
  ∀ (s : State) (v : Word), s.mem.wf = true → s.portFree →
    let n : BitVec 8 := BitVec.ofNat 8 v.toNat
    ((n - s.cmd.consumer).toNat ≤ 16 → (s.cmd.busy = true → n ≠ s.cmd.consumer) →
      ∃ t, exec (.producerIndexWrite v) s = .next t ∧ t.bus.treatment = .passed ∧ t.peek 0x7F050 = v ∧
        s.memSameBut [0x7F050] t ∧ t.cmd.producer = n ∧ t.cmd.consumer = s.cmd.consumer ∧ t.cmd.prev = s.cmd.prev ∧
        t.cmd.phase = (if s.cmd.phase = .idle ∧ n ≠ s.cmd.consumer then .reading [] else s.cmd.phase) ∧
        s.sameBut [.port, .cmd, .mem] t) ∧
    (16 < (n - s.cmd.consumer).toNat ∨ (s.cmd.busy = true ∧ n = s.cmd.consumer) →
      ∃ t, exec (.producerIndexWrite v) s = .next t ∧ t.bus.treatment = .dropped ∧ t.bus.accesses = 0 ∧
        t.isSet .ringOverflow = true ∧ t.rep = (s.raise .ringOverflow).rep ∧ s.sameBut [.port, .rep] t)

/-- The commands the command unit judges itself: NOP does nothing and is DONE (R161); an unknown code is ILLEGAL, and a CLEAR
or SOFT_RESET that comes as UNKNOWN_COMMAND is refused with RANGE whatever its target or scope, with no other effect (R159,
R162, R163); that the words of another target or scope come by that row is the model's choice (assumption 7). CLEAR COUNTERS and SOFT_RESET
COUNTERS zero every counter and nothing else, CLEAR STICKY the two sticky flags and nothing else (R162, R163). -/
def Obligations.CommandUnitsOwnCommands : Prop :=
  ∀ s : State,
    (s.aboutToTake .nop → ∃ t, exec .nop s = .next t ∧ t.cmd = s.cmd.takenQuiet .nop .done ∧
      s.sameBut [.port, .cmd] t) ∧
    (∀ w : Word, s.aboutToTake (.unknownCommand w) →
      (16 ≤ w.toNat % 32 → ∃ t, exec (.unknownCommand w) s = .next t ∧
        t.cmd = s.cmd.takenQuiet .unknown .illegal ∧ s.sameBut [.port, .cmd] t) ∧
      (w.toNat % 32 = 14 → ∃ t, exec (.unknownCommand w) s = .next t ∧
        t.cmd = s.cmd.takenQuiet .clear .range ∧ s.sameBut [.port, .cmd] t) ∧
      (w.toNat % 32 = 15 → ∃ t, exec (.unknownCommand w) s = .next t ∧
        t.cmd = s.cmd.takenQuiet .softReset .range ∧ s.sameBut [.port, .cmd] t)) ∧
    (s.aboutToTake .clearCounters → ∃ t, exec .clearCounters s = .next t ∧
      t.cmd = s.cmd.takenMarked .clear .done ∧ (∀ c : Counter, t.counter c = 0) ∧
      t.rep = s.markCounters.rep ∧ s.sameBut [.port, .counters, .cmd, .rep] t) ∧
    (s.aboutToTake .softResetCounters → ∃ t, exec .softResetCounters s = .next t ∧
      t.cmd = s.cmd.takenMarked .softReset .done ∧ (∀ c : Counter, t.counter c = 0) ∧
      t.rep = s.markCounters.rep ∧ s.sameBut [.port, .counters, .cmd, .rep] t) ∧
    (s.aboutToTake .clearSticky → ∃ t, exec .clearSticky s = .next t ∧
      t.cmd = s.cmd.takenMarked .clear .done ∧ t.coder = { s.coder with sticky := false } ∧
      t.tape = { s.tape with sticky := false } ∧ t.rep = s.markRecord.markPlayback.rep ∧
      s.sameBut [.port, .coder, .tape, .cmd, .rep] t)

/-- COMMAND_COMPLETION with nothing else waiting for the port: the result word of the entry and the consumer index are
written, the kind is noted, COMMAND_DONE is raised, COMMAND_ERROR too unless the result is DONE, and the next entry is taken
where one is outstanding (R160, R176). That both writes are made in one step is the model's form (assumption 8). -/
def Obligations.CommandCompletes : Prop :=
  ∀ (s : State) (k : CmdKind) (r : Result), s.mem.wf = true → s.bus.op = .running → s.noneHeld → s.rep.pass = none →
    s.waiting .close = false → s.waiting .eval = false → s.cmd.phase = .due k r →
    let e := 0x7F063 + 4 * (s.cmd.consumer.toNat % 16)
    ∃ t, exec .commandCompletion s = .next t ∧
      (t.peek e).toNat = (match r with
        | .done => 1
        | .illegal => 2
        | .sequence => 3
        | .range => 4
        | .state => 5
        | .conflict => 6
        | .prot => 7
        | .full => 8
        | .late => 9) ∧
      (t.peek 0x7F051).toNat = (s.cmd.consumer.toNat + 1) % 256 ∧ s.memSameBut [e, 0x7F051] t ∧
      t.cmd.consumer = s.cmd.consumer + 1 ∧ t.cmd.producer = s.cmd.producer ∧ t.cmd.prev = some k ∧
      t.cmd.phase = (if s.cmd.producer = s.cmd.consumer + 1 then .idle else .reading []) ∧
      t.isSet .commandDone = true ∧ (r ≠ .done → t.isSet .commandError = true) ∧
      (r = .done → t.isSet .commandError = s.isSet .commandError) ∧ t.rep.marks = s.rep.marks ∧
      s.sameBut [.port, .cmd, .rep, .mem] t

/-- REPORT_PASS_BEGIN: the pass holds, and holds once each, every field of every marked record at its offset with its value as
it stands, the policy and settings write-backs due, and for a marked playback record the 21 evaluation words of each slot,
which carry their values at their writes (R141, R164, R168, R171, R175); then the cause word of each group with a RAISED cause,
or marked by a read (R169), carrying the RAISED causes; then the summary. The model's own: that no word of a record's extent without a
field is written (assumption 32), the rising order of the cause words (assumption 31), an edit record without the fields
EDIT_PARAM sets (assumption 29), a fill count of 0 while no slot is OPEN (assumption 15), and a summary left unwritten where its
value is the one last written (assumption 24). The pass changes no word of memory as it begins, and a command that waits for a
pass is in this one. REPORT_PASS_END: once its writes are made the pass is over, ALERT is judged, and the completion of a
command that was in it is due (R168, R170). -/
def Obligations.ReportPassBeginAndEnd : Prop :=
  (∀ s : State, s.bus.op = .running → s.noneHeld → s.rep.pass = none → s.rep.hasWork = true → s.cmd.wanting = false →
    ∃ t, exec .reportPassBegin s = .next t ∧ ∃ recs causes, t.rep.pass = some (recs ++ causes ++ [.summary]) ∧
      (∀ off v, .word off v ∈ recs ↔ ∃ n, (off, n) ∈ s.dueFields ∧ v = word n) ∧
      (∀ (n : Fin 4) (k : Nat), .evalWord n k ∈ recs ↔ s.rep.marks.playback = true ∧ k < 21) ∧
      (∀ k : Fin 7, .setting k ∈ recs ↔ s.rep.backSettings[k] = true) ∧
      (∀ (g : Fin 6) (w : Word), .cause g w ∉ recs) ∧ .summary ∉ recs ∧
      recs.length = s.dueFields.length + (if s.rep.marks.playback then 84 else 0) + s.rep.backSettings.toList.countP id ∧
      causes = ((List.finRange 6).filter fun g : Fin 6 => s.rep.raised[g] != 0 || s.rep.causeMarks[g]).map
        (fun g : Fin 6 => RepWrite.cause g (s.rep.raised[g])) ∧
      t.rep.marks = Marks.clear ∧ t.rep.backPolicy = false ∧ (∀ k : Fin 7, t.rep.backSettings[k] = false) ∧
      (∀ g : Fin 6, t.rep.causeMarks[g] = false) ∧ t.rep.raised = s.rep.raised ∧ t.rep.posted = s.rep.posted ∧
      (∀ k r, s.cmd.phase = .waitPass k r → t.cmd.phase = .inPass k r) ∧ s.sameBut [.port, .cmd, .rep] t) ∧
  ∀ s : State, s.bus.op = .running → s.noneHeld →
    s.rep.pass = some [] ∨ (s.rep.pass = some [.summary] ∧ s.rep.summary = s.rep.lastSummary) →
    ∃ t, exec .reportPassEnd s = .next t ∧ t.rep = { s.rep with pass := none, alert := t.rep.alert } ∧
      (t.rep.alert = true ↔ ∃ n : Fin 6, s.rep.posted[n] &&& s.rep.masks[n] ≠ 0) ∧
      (∀ k r, s.cmd.phase = .inPass k r → t.cmd = { s.cmd with phase := .due k r }) ∧
      ((∀ k r, s.cmd.phase ≠ .inPass k r) → t.cmd = s.cmd) ∧ s.sameBut [.port, .cmd, .rep] t

/-- The next access of the evaluation engine and, behind it, of the report unit and the command unit, when it is granted the
port: one word of the slot table, by the layout of R175; one word of a pass, a cause word taking its RAISED causes to POSTED,
a settings write-back being followed by CONFIG_INVALID, the summary written where its value has changed; one word of the entry
at the consumer index, the third of which is followed by decoding (R48, R153, R159, R164, R168). While the starvation guard
holds a transaction, the port goes to the waiting engines whose count stands at 16, in order of priority (R153, R154). The wait
counts (R154): an upstream transaction that takes the port adds one, up to 16, to the count of each engine that waits, one that
is held adds nothing, a grant takes the count of the engine it serves to 0, and an engine that no longer waits has none. That a
transaction held in the middle of its service counts when it ends is the model's choice (assumption 25). -/
def Obligations.EngineGrantsMakeOneAccess : Prop :=
  (∀ s : State, s.guarding = true →
    let due : Engine → Prop := fun e => s.waiting e = true ∧ 16 ≤ s.bus.counts.get e
    (s.grantee = some .close ↔ due .close) ∧ (s.grantee = some .eval ↔ due .eval ∧ ¬due .close) ∧
      (s.grantee = some .report ↔ due .report ∧ ¬due .close ∧ ¬due .eval)) ∧
  (∀ (s : State) (x : Txn), s.portFree → (x.write = false → x.data = 0) →
    ∃ t, exec x.row s = .next t ∧
      ∀ e : Engine, t.bus.counts.get e =
        if t.waiting e = false then 0
        else if s.waiting e = true ∧ t.bus.held = none then min 16 (s.bus.counts.get e + 1) else s.bus.counts.get e) ∧
  (∀ (s : State) (e : Engine), s.bus.op = .running → s.noneHeld → s.grantee = some e →
    ∃ t, exec .enginePortGrant s = .next t ∧ t.bus.counts.get e = 0 ∧
      ∀ d : Engine, d ≠ e → t.bus.counts.get d = if t.waiting d then s.bus.counts.get d else 0) ∧
  (∀ x : TapeSlot, x.evalWord 0 = word (x.frame / 65536) ∧ x.evalWord 1 = word (x.frame % 65536) ∧
    x.evalWord 2 = word x.rate ∧ x.evalWord 3 = word x.status.code ∧ x.evalWord 4 = word x.good ∧
    x.evalWord 5 = word x.corrA.code ∧ x.evalWord 6 = word x.corrB.code ∧
    ∀ b : Fin 14, x.evalWord (7 + b.val) = word x.blocks[b].status.code) ∧
  ∀ s : State, s.mem.wf = true → s.bus.op = .running → s.noneHeld → s.waiting .close = false →
    (∀ j : EvalJob, s.tape.eval = some j → j.done < 21 →
      let e := 0x7F221 + 22 * j.slot.val + j.done
      ∃ t, exec .enginePortGrant s = .next t ∧ t.peek e = s.tape.slots[j.slot].evalWord j.done ∧ s.memSameBut [e] t ∧
        t.tape = { s.tape with eval := some { j with done := j.done + 1 } } ∧ s.sameBut [.port, .tape, .mem] t) ∧
    (s.waiting .eval = false →
      (∀ off v rest, off < 4096 → s.rep.pass = some (.word off v :: rest) →
        ∃ t, exec .enginePortGrant s = .next t ∧ t.peek (0x7F000 + off) = v ∧ s.memSameBut [0x7F000 + off] t ∧
          t.rep = { s.rep with pass := some rest } ∧ s.sameBut [.port, .rep, .mem] t) ∧
      (∀ (n : Fin 4) (k : Fin 21) rest, s.rep.pass = some (.evalWord n k.val :: rest) →
        let e := 0x7F221 + 22 * n.val + k.val
        ∃ t, exec .enginePortGrant s = .next t ∧ t.peek e = s.tape.slots[n].evalWord k.val ∧ s.memSameBut [e] t ∧
          t.rep = { s.rep with pass := some rest } ∧ s.sameBut [.port, .rep, .mem] t) ∧
      (∀ (k : Fin 7) rest, s.rep.pass = some (.setting k :: rest) →
        ∃ t, exec .enginePortGrant s = .next t ∧ t.peek (0x7F010 + k.val) = word (s.settings.get k) ∧
          s.memSameBut [0x7F010 + k.val] t ∧ t.isSet .configInvalid = true ∧
          t.rep = { (s.raise .configInvalid).rep with pass := some rest } ∧ s.sameBut [.port, .rep, .mem] t) ∧
      (∀ (g : Fin 6) (w : Word) rest, s.rep.pass = some (.cause g w :: rest) →
        ∃ t, exec .enginePortGrant s = .next t ∧ t.peek (0x7F002 + g.val) = s.rep.posted[g] ||| w ∧
          s.memSameBut [0x7F002 + g.val] t ∧
          t.rep = { s.rep with
            pass := some rest, posted := vset s.rep.posted g (s.rep.posted[g] ||| w),
            raised := vset s.rep.raised g (s.rep.raised[g] &&& ~~~w) } ∧ s.sameBut [.port, .rep, .mem] t) ∧
      (∀ rest, s.rep.pass = some (.summary :: rest) → s.rep.summary ≠ s.rep.lastSummary →
        ∃ t, exec .enginePortGrant s = .next t ∧ t.peek 0x7F001 = s.rep.summary ∧ s.memSameBut [0x7F001] t ∧
          (∀ g : Fin 6, (t.peek 0x7F001).getLsbD g.val = (s.rep.posted[g] != 0)) ∧
          t.rep = { s.rep with pass := some rest, lastSummary := s.rep.summary } ∧ s.sameBut [.port, .rep, .mem] t) ∧
      (∀ ws : List Word, ws.length < 3 → s.rep.pass = none → s.cmd.phase = .reading ws →
        let w := s.peek (0x7F060 + 4 * (s.cmd.consumer.toNat % 16) + ws.length)
        ∃ t, exec .enginePortGrant s = .next t ∧ s.sameBut [.port, .cmd] t ∧
          (ws.length < 2 → t.cmd = { s.cmd with phase := .reading (ws ++ [w]) }) ∧
          ∀ w0 a1, ws = [w0, a1] → t.cmd = { s.cmd with phase := .fetched (decodeEntry w0 a1 w) }))

end
end

