-- ==== Sys2Proof/Laws/State.lean ====
section
/-! SUPPORT. What each update of one block's state leaves: one lemma per field per update, true by rfl. -/

namespace Sys2Proof.Machine

@[simp] theorem State.modBus_bus (s : State) (f : BusPath → BusPath) : (s.modBus f).bus = f s.bus := rfl

@[simp] theorem State.modBus_coder (s : State) (f : BusPath → BusPath) : (s.modBus f).coder = s.coder := rfl

@[simp] theorem State.modBus_tape (s : State) (f : BusPath → BusPath) : (s.modBus f).tape = s.tape := rfl

@[simp] theorem State.modBus_dec (s : State) (f : BusPath → BusPath) : (s.modBus f).dec = s.dec := rfl

@[simp] theorem State.modBus_mon (s : State) (f : BusPath → BusPath) : (s.modBus f).mon = s.mon := rfl

@[simp] theorem State.modBus_edit (s : State) (f : BusPath → BusPath) : (s.modBus f).edit = s.edit := rfl

@[simp] theorem State.modBus_copy (s : State) (f : BusPath → BusPath) : (s.modBus f).copy = s.copy := rfl

@[simp] theorem State.modBus_settings (s : State) (f : BusPath → BusPath) : (s.modBus f).settings = s.settings := rfl

@[simp] theorem State.modBus_counters (s : State) (f : BusPath → BusPath) : (s.modBus f).counters = s.counters := rfl

@[simp] theorem State.modBus_cmd (s : State) (f : BusPath → BusPath) : (s.modBus f).cmd = s.cmd := rfl

@[simp] theorem State.modBus_rep (s : State) (f : BusPath → BusPath) : (s.modBus f).rep = s.rep := rfl

@[simp] theorem State.modBus_mem (s : State) (f : BusPath → BusPath) : (s.modBus f).mem = s.mem := rfl

@[simp] theorem State.modBus_pending (s : State) (f : BusPath → BusPath) : (s.modBus f).pending = s.pending := rfl

@[simp] theorem State.modCoder_bus (s : State) (f : RecordCoder → RecordCoder) : (s.modCoder f).bus = s.bus := rfl

@[simp] theorem State.modCoder_coder (s : State) (f : RecordCoder → RecordCoder) : (s.modCoder f).coder = f s.coder := rfl

@[simp] theorem State.modCoder_tape (s : State) (f : RecordCoder → RecordCoder) : (s.modCoder f).tape = s.tape := rfl

@[simp] theorem State.modCoder_dec (s : State) (f : RecordCoder → RecordCoder) : (s.modCoder f).dec = s.dec := rfl

@[simp] theorem State.modCoder_mon (s : State) (f : RecordCoder → RecordCoder) : (s.modCoder f).mon = s.mon := rfl

@[simp] theorem State.modCoder_edit (s : State) (f : RecordCoder → RecordCoder) : (s.modCoder f).edit = s.edit := rfl

@[simp] theorem State.modCoder_copy (s : State) (f : RecordCoder → RecordCoder) : (s.modCoder f).copy = s.copy := rfl

@[simp] theorem State.modCoder_settings (s : State) (f : RecordCoder → RecordCoder) : (s.modCoder f).settings = s.settings := rfl

@[simp] theorem State.modCoder_counters (s : State) (f : RecordCoder → RecordCoder) : (s.modCoder f).counters = s.counters := rfl

@[simp] theorem State.modCoder_cmd (s : State) (f : RecordCoder → RecordCoder) : (s.modCoder f).cmd = s.cmd := rfl

@[simp] theorem State.modCoder_rep (s : State) (f : RecordCoder → RecordCoder) : (s.modCoder f).rep = s.rep := rfl

@[simp] theorem State.modCoder_mem (s : State) (f : RecordCoder → RecordCoder) : (s.modCoder f).mem = s.mem := rfl

@[simp] theorem State.modCoder_pending (s : State) (f : RecordCoder → RecordCoder) : (s.modCoder f).pending = s.pending := rfl

@[simp] theorem State.modTape_bus (s : State) (f : Assembler → Assembler) : (s.modTape f).bus = s.bus := rfl

@[simp] theorem State.modTape_coder (s : State) (f : Assembler → Assembler) : (s.modTape f).coder = s.coder := rfl

@[simp] theorem State.modTape_tape (s : State) (f : Assembler → Assembler) : (s.modTape f).tape = f s.tape := rfl

@[simp] theorem State.modTape_dec (s : State) (f : Assembler → Assembler) : (s.modTape f).dec = s.dec := rfl

@[simp] theorem State.modTape_mon (s : State) (f : Assembler → Assembler) : (s.modTape f).mon = s.mon := rfl

@[simp] theorem State.modTape_edit (s : State) (f : Assembler → Assembler) : (s.modTape f).edit = s.edit := rfl

@[simp] theorem State.modTape_copy (s : State) (f : Assembler → Assembler) : (s.modTape f).copy = s.copy := rfl

@[simp] theorem State.modTape_settings (s : State) (f : Assembler → Assembler) : (s.modTape f).settings = s.settings := rfl

@[simp] theorem State.modTape_counters (s : State) (f : Assembler → Assembler) : (s.modTape f).counters = s.counters := rfl

@[simp] theorem State.modTape_cmd (s : State) (f : Assembler → Assembler) : (s.modTape f).cmd = s.cmd := rfl

@[simp] theorem State.modTape_rep (s : State) (f : Assembler → Assembler) : (s.modTape f).rep = s.rep := rfl

@[simp] theorem State.modTape_mem (s : State) (f : Assembler → Assembler) : (s.modTape f).mem = s.mem := rfl

@[simp] theorem State.modTape_pending (s : State) (f : Assembler → Assembler) : (s.modTape f).pending = s.pending := rfl

@[simp] theorem State.modDec_bus (s : State) (f : DecodeService → DecodeService) : (s.modDec f).bus = s.bus := rfl

@[simp] theorem State.modDec_coder (s : State) (f : DecodeService → DecodeService) : (s.modDec f).coder = s.coder := rfl

@[simp] theorem State.modDec_tape (s : State) (f : DecodeService → DecodeService) : (s.modDec f).tape = s.tape := rfl

@[simp] theorem State.modDec_dec (s : State) (f : DecodeService → DecodeService) : (s.modDec f).dec = f s.dec := rfl

@[simp] theorem State.modDec_mon (s : State) (f : DecodeService → DecodeService) : (s.modDec f).mon = s.mon := rfl

@[simp] theorem State.modDec_edit (s : State) (f : DecodeService → DecodeService) : (s.modDec f).edit = s.edit := rfl

@[simp] theorem State.modDec_copy (s : State) (f : DecodeService → DecodeService) : (s.modDec f).copy = s.copy := rfl

@[simp] theorem State.modDec_settings (s : State) (f : DecodeService → DecodeService) : (s.modDec f).settings = s.settings := rfl

@[simp] theorem State.modDec_counters (s : State) (f : DecodeService → DecodeService) : (s.modDec f).counters = s.counters := rfl

@[simp] theorem State.modDec_cmd (s : State) (f : DecodeService → DecodeService) : (s.modDec f).cmd = s.cmd := rfl

@[simp] theorem State.modDec_rep (s : State) (f : DecodeService → DecodeService) : (s.modDec f).rep = s.rep := rfl

@[simp] theorem State.modDec_mem (s : State) (f : DecodeService → DecodeService) : (s.modDec f).mem = s.mem := rfl

@[simp] theorem State.modDec_pending (s : State) (f : DecodeService → DecodeService) : (s.modDec f).pending = s.pending := rfl

@[simp] theorem State.modMon_bus (s : State) (f : Monitor → Monitor) : (s.modMon f).bus = s.bus := rfl

@[simp] theorem State.modMon_coder (s : State) (f : Monitor → Monitor) : (s.modMon f).coder = s.coder := rfl

@[simp] theorem State.modMon_tape (s : State) (f : Monitor → Monitor) : (s.modMon f).tape = s.tape := rfl

@[simp] theorem State.modMon_dec (s : State) (f : Monitor → Monitor) : (s.modMon f).dec = s.dec := rfl

@[simp] theorem State.modMon_mon (s : State) (f : Monitor → Monitor) : (s.modMon f).mon = f s.mon := rfl

@[simp] theorem State.modMon_edit (s : State) (f : Monitor → Monitor) : (s.modMon f).edit = s.edit := rfl

@[simp] theorem State.modMon_copy (s : State) (f : Monitor → Monitor) : (s.modMon f).copy = s.copy := rfl

@[simp] theorem State.modMon_settings (s : State) (f : Monitor → Monitor) : (s.modMon f).settings = s.settings := rfl

@[simp] theorem State.modMon_counters (s : State) (f : Monitor → Monitor) : (s.modMon f).counters = s.counters := rfl

@[simp] theorem State.modMon_cmd (s : State) (f : Monitor → Monitor) : (s.modMon f).cmd = s.cmd := rfl

@[simp] theorem State.modMon_rep (s : State) (f : Monitor → Monitor) : (s.modMon f).rep = s.rep := rfl

@[simp] theorem State.modMon_mem (s : State) (f : Monitor → Monitor) : (s.modMon f).mem = s.mem := rfl

@[simp] theorem State.modMon_pending (s : State) (f : Monitor → Monitor) : (s.modMon f).pending = s.pending := rfl

@[simp] theorem State.modEdit_bus (s : State) (f : EditEngine → EditEngine) : (s.modEdit f).bus = s.bus := rfl

@[simp] theorem State.modEdit_coder (s : State) (f : EditEngine → EditEngine) : (s.modEdit f).coder = s.coder := rfl

@[simp] theorem State.modEdit_tape (s : State) (f : EditEngine → EditEngine) : (s.modEdit f).tape = s.tape := rfl

@[simp] theorem State.modEdit_dec (s : State) (f : EditEngine → EditEngine) : (s.modEdit f).dec = s.dec := rfl

@[simp] theorem State.modEdit_mon (s : State) (f : EditEngine → EditEngine) : (s.modEdit f).mon = s.mon := rfl

@[simp] theorem State.modEdit_edit (s : State) (f : EditEngine → EditEngine) : (s.modEdit f).edit = f s.edit := rfl

@[simp] theorem State.modEdit_copy (s : State) (f : EditEngine → EditEngine) : (s.modEdit f).copy = s.copy := rfl

@[simp] theorem State.modEdit_settings (s : State) (f : EditEngine → EditEngine) : (s.modEdit f).settings = s.settings := rfl

@[simp] theorem State.modEdit_counters (s : State) (f : EditEngine → EditEngine) : (s.modEdit f).counters = s.counters := rfl

@[simp] theorem State.modEdit_cmd (s : State) (f : EditEngine → EditEngine) : (s.modEdit f).cmd = s.cmd := rfl

@[simp] theorem State.modEdit_rep (s : State) (f : EditEngine → EditEngine) : (s.modEdit f).rep = s.rep := rfl

@[simp] theorem State.modEdit_mem (s : State) (f : EditEngine → EditEngine) : (s.modEdit f).mem = s.mem := rfl

@[simp] theorem State.modEdit_pending (s : State) (f : EditEngine → EditEngine) : (s.modEdit f).pending = s.pending := rfl

@[simp] theorem State.modCopy_bus (s : State) (f : CopyControl → CopyControl) : (s.modCopy f).bus = s.bus := rfl

@[simp] theorem State.modCopy_coder (s : State) (f : CopyControl → CopyControl) : (s.modCopy f).coder = s.coder := rfl

@[simp] theorem State.modCopy_tape (s : State) (f : CopyControl → CopyControl) : (s.modCopy f).tape = s.tape := rfl

@[simp] theorem State.modCopy_dec (s : State) (f : CopyControl → CopyControl) : (s.modCopy f).dec = s.dec := rfl

@[simp] theorem State.modCopy_mon (s : State) (f : CopyControl → CopyControl) : (s.modCopy f).mon = s.mon := rfl

@[simp] theorem State.modCopy_edit (s : State) (f : CopyControl → CopyControl) : (s.modCopy f).edit = s.edit := rfl

@[simp] theorem State.modCopy_copy (s : State) (f : CopyControl → CopyControl) : (s.modCopy f).copy = f s.copy := rfl

@[simp] theorem State.modCopy_settings (s : State) (f : CopyControl → CopyControl) : (s.modCopy f).settings = s.settings := rfl

@[simp] theorem State.modCopy_counters (s : State) (f : CopyControl → CopyControl) : (s.modCopy f).counters = s.counters := rfl

@[simp] theorem State.modCopy_cmd (s : State) (f : CopyControl → CopyControl) : (s.modCopy f).cmd = s.cmd := rfl

@[simp] theorem State.modCopy_rep (s : State) (f : CopyControl → CopyControl) : (s.modCopy f).rep = s.rep := rfl

@[simp] theorem State.modCopy_mem (s : State) (f : CopyControl → CopyControl) : (s.modCopy f).mem = s.mem := rfl

@[simp] theorem State.modCopy_pending (s : State) (f : CopyControl → CopyControl) : (s.modCopy f).pending = s.pending := rfl

@[simp] theorem State.modSettings_bus (s : State) (f : Settings → Settings) : (s.modSettings f).bus = s.bus := rfl

@[simp] theorem State.modSettings_coder (s : State) (f : Settings → Settings) : (s.modSettings f).coder = s.coder := rfl

@[simp] theorem State.modSettings_tape (s : State) (f : Settings → Settings) : (s.modSettings f).tape = s.tape := rfl

@[simp] theorem State.modSettings_dec (s : State) (f : Settings → Settings) : (s.modSettings f).dec = s.dec := rfl

@[simp] theorem State.modSettings_mon (s : State) (f : Settings → Settings) : (s.modSettings f).mon = s.mon := rfl

@[simp] theorem State.modSettings_edit (s : State) (f : Settings → Settings) : (s.modSettings f).edit = s.edit := rfl

@[simp] theorem State.modSettings_copy (s : State) (f : Settings → Settings) : (s.modSettings f).copy = s.copy := rfl

@[simp] theorem State.modSettings_settings (s : State) (f : Settings → Settings) : (s.modSettings f).settings = f s.settings := rfl

@[simp] theorem State.modSettings_counters (s : State) (f : Settings → Settings) : (s.modSettings f).counters = s.counters := rfl

@[simp] theorem State.modSettings_cmd (s : State) (f : Settings → Settings) : (s.modSettings f).cmd = s.cmd := rfl

@[simp] theorem State.modSettings_rep (s : State) (f : Settings → Settings) : (s.modSettings f).rep = s.rep := rfl

@[simp] theorem State.modSettings_mem (s : State) (f : Settings → Settings) : (s.modSettings f).mem = s.mem := rfl

@[simp] theorem State.modSettings_pending (s : State) (f : Settings → Settings) : (s.modSettings f).pending = s.pending := rfl

@[simp] theorem State.modCounters_bus (s : State) (f : Vector Nat 17 → Vector Nat 17) : (s.modCounters f).bus = s.bus := rfl

@[simp] theorem State.modCounters_coder (s : State) (f : Vector Nat 17 → Vector Nat 17) : (s.modCounters f).coder = s.coder := rfl

@[simp] theorem State.modCounters_tape (s : State) (f : Vector Nat 17 → Vector Nat 17) : (s.modCounters f).tape = s.tape := rfl

@[simp] theorem State.modCounters_dec (s : State) (f : Vector Nat 17 → Vector Nat 17) : (s.modCounters f).dec = s.dec := rfl

@[simp] theorem State.modCounters_mon (s : State) (f : Vector Nat 17 → Vector Nat 17) : (s.modCounters f).mon = s.mon := rfl

@[simp] theorem State.modCounters_edit (s : State) (f : Vector Nat 17 → Vector Nat 17) : (s.modCounters f).edit = s.edit := rfl

@[simp] theorem State.modCounters_copy (s : State) (f : Vector Nat 17 → Vector Nat 17) : (s.modCounters f).copy = s.copy := rfl

@[simp] theorem State.modCounters_settings (s : State) (f : Vector Nat 17 → Vector Nat 17) : (s.modCounters f).settings = s.settings := rfl

@[simp] theorem State.modCounters_counters (s : State) (f : Vector Nat 17 → Vector Nat 17) : (s.modCounters f).counters = f s.counters := rfl

@[simp] theorem State.modCounters_cmd (s : State) (f : Vector Nat 17 → Vector Nat 17) : (s.modCounters f).cmd = s.cmd := rfl

@[simp] theorem State.modCounters_rep (s : State) (f : Vector Nat 17 → Vector Nat 17) : (s.modCounters f).rep = s.rep := rfl

@[simp] theorem State.modCounters_mem (s : State) (f : Vector Nat 17 → Vector Nat 17) : (s.modCounters f).mem = s.mem := rfl

@[simp] theorem State.modCounters_pending (s : State) (f : Vector Nat 17 → Vector Nat 17) : (s.modCounters f).pending = s.pending := rfl

@[simp] theorem State.modCmd_bus (s : State) (f : CommandUnit → CommandUnit) : (s.modCmd f).bus = s.bus := rfl

@[simp] theorem State.modCmd_coder (s : State) (f : CommandUnit → CommandUnit) : (s.modCmd f).coder = s.coder := rfl

@[simp] theorem State.modCmd_tape (s : State) (f : CommandUnit → CommandUnit) : (s.modCmd f).tape = s.tape := rfl

@[simp] theorem State.modCmd_dec (s : State) (f : CommandUnit → CommandUnit) : (s.modCmd f).dec = s.dec := rfl

@[simp] theorem State.modCmd_mon (s : State) (f : CommandUnit → CommandUnit) : (s.modCmd f).mon = s.mon := rfl

@[simp] theorem State.modCmd_edit (s : State) (f : CommandUnit → CommandUnit) : (s.modCmd f).edit = s.edit := rfl

@[simp] theorem State.modCmd_copy (s : State) (f : CommandUnit → CommandUnit) : (s.modCmd f).copy = s.copy := rfl

@[simp] theorem State.modCmd_settings (s : State) (f : CommandUnit → CommandUnit) : (s.modCmd f).settings = s.settings := rfl

@[simp] theorem State.modCmd_counters (s : State) (f : CommandUnit → CommandUnit) : (s.modCmd f).counters = s.counters := rfl

@[simp] theorem State.modCmd_cmd (s : State) (f : CommandUnit → CommandUnit) : (s.modCmd f).cmd = f s.cmd := rfl

@[simp] theorem State.modCmd_rep (s : State) (f : CommandUnit → CommandUnit) : (s.modCmd f).rep = s.rep := rfl

@[simp] theorem State.modCmd_mem (s : State) (f : CommandUnit → CommandUnit) : (s.modCmd f).mem = s.mem := rfl

@[simp] theorem State.modCmd_pending (s : State) (f : CommandUnit → CommandUnit) : (s.modCmd f).pending = s.pending := rfl

@[simp] theorem State.modRep_bus (s : State) (f : ReportUnit → ReportUnit) : (s.modRep f).bus = s.bus := rfl

@[simp] theorem State.modRep_coder (s : State) (f : ReportUnit → ReportUnit) : (s.modRep f).coder = s.coder := rfl

@[simp] theorem State.modRep_tape (s : State) (f : ReportUnit → ReportUnit) : (s.modRep f).tape = s.tape := rfl

@[simp] theorem State.modRep_dec (s : State) (f : ReportUnit → ReportUnit) : (s.modRep f).dec = s.dec := rfl

@[simp] theorem State.modRep_mon (s : State) (f : ReportUnit → ReportUnit) : (s.modRep f).mon = s.mon := rfl

@[simp] theorem State.modRep_edit (s : State) (f : ReportUnit → ReportUnit) : (s.modRep f).edit = s.edit := rfl

@[simp] theorem State.modRep_copy (s : State) (f : ReportUnit → ReportUnit) : (s.modRep f).copy = s.copy := rfl

@[simp] theorem State.modRep_settings (s : State) (f : ReportUnit → ReportUnit) : (s.modRep f).settings = s.settings := rfl

@[simp] theorem State.modRep_counters (s : State) (f : ReportUnit → ReportUnit) : (s.modRep f).counters = s.counters := rfl

@[simp] theorem State.modRep_cmd (s : State) (f : ReportUnit → ReportUnit) : (s.modRep f).cmd = s.cmd := rfl

@[simp] theorem State.modRep_rep (s : State) (f : ReportUnit → ReportUnit) : (s.modRep f).rep = f s.rep := rfl

@[simp] theorem State.modRep_mem (s : State) (f : ReportUnit → ReportUnit) : (s.modRep f).mem = s.mem := rfl

@[simp] theorem State.modRep_pending (s : State) (f : ReportUnit → ReportUnit) : (s.modRep f).pending = s.pending := rfl

@[simp] theorem State.modMem_bus (s : State) (f : Memory → Memory) : (s.modMem f).bus = s.bus := rfl

@[simp] theorem State.modMem_coder (s : State) (f : Memory → Memory) : (s.modMem f).coder = s.coder := rfl

@[simp] theorem State.modMem_tape (s : State) (f : Memory → Memory) : (s.modMem f).tape = s.tape := rfl

@[simp] theorem State.modMem_dec (s : State) (f : Memory → Memory) : (s.modMem f).dec = s.dec := rfl

@[simp] theorem State.modMem_mon (s : State) (f : Memory → Memory) : (s.modMem f).mon = s.mon := rfl

@[simp] theorem State.modMem_edit (s : State) (f : Memory → Memory) : (s.modMem f).edit = s.edit := rfl

@[simp] theorem State.modMem_copy (s : State) (f : Memory → Memory) : (s.modMem f).copy = s.copy := rfl

@[simp] theorem State.modMem_settings (s : State) (f : Memory → Memory) : (s.modMem f).settings = s.settings := rfl

@[simp] theorem State.modMem_counters (s : State) (f : Memory → Memory) : (s.modMem f).counters = s.counters := rfl

@[simp] theorem State.modMem_cmd (s : State) (f : Memory → Memory) : (s.modMem f).cmd = s.cmd := rfl

@[simp] theorem State.modMem_rep (s : State) (f : Memory → Memory) : (s.modMem f).rep = s.rep := rfl

@[simp] theorem State.modMem_mem (s : State) (f : Memory → Memory) : (s.modMem f).mem = f s.mem := rfl

@[simp] theorem State.modMem_pending (s : State) (f : Memory → Memory) : (s.modMem f).pending = s.pending := rfl

@[simp] theorem State.modRecSlot_bus (s : State) (k : Fin 4) (f : RecSlot → RecSlot) : (s.modRecSlot k f).bus = s.bus := rfl

@[simp] theorem State.modRecSlot_coder (s : State) (k : Fin 4) (f : RecSlot → RecSlot) :
    (s.modRecSlot k f).coder = { s.coder with slots := vmod s.coder.slots k f } := rfl

@[simp] theorem State.modRecSlot_tape (s : State) (k : Fin 4) (f : RecSlot → RecSlot) : (s.modRecSlot k f).tape = s.tape := rfl

@[simp] theorem State.modRecSlot_dec (s : State) (k : Fin 4) (f : RecSlot → RecSlot) : (s.modRecSlot k f).dec = s.dec := rfl

@[simp] theorem State.modRecSlot_mon (s : State) (k : Fin 4) (f : RecSlot → RecSlot) : (s.modRecSlot k f).mon = s.mon := rfl

@[simp] theorem State.modRecSlot_edit (s : State) (k : Fin 4) (f : RecSlot → RecSlot) : (s.modRecSlot k f).edit = s.edit := rfl

@[simp] theorem State.modRecSlot_copy (s : State) (k : Fin 4) (f : RecSlot → RecSlot) : (s.modRecSlot k f).copy = s.copy := rfl

@[simp] theorem State.modRecSlot_settings (s : State) (k : Fin 4) (f : RecSlot → RecSlot) : (s.modRecSlot k f).settings = s.settings := rfl

@[simp] theorem State.modRecSlot_counters (s : State) (k : Fin 4) (f : RecSlot → RecSlot) : (s.modRecSlot k f).counters = s.counters := rfl

@[simp] theorem State.modRecSlot_cmd (s : State) (k : Fin 4) (f : RecSlot → RecSlot) : (s.modRecSlot k f).cmd = s.cmd := rfl

@[simp] theorem State.modRecSlot_rep (s : State) (k : Fin 4) (f : RecSlot → RecSlot) : (s.modRecSlot k f).rep = s.rep := rfl

@[simp] theorem State.modRecSlot_mem (s : State) (k : Fin 4) (f : RecSlot → RecSlot) : (s.modRecSlot k f).mem = s.mem := rfl

@[simp] theorem State.modRecSlot_pending (s : State) (k : Fin 4) (f : RecSlot → RecSlot) : (s.modRecSlot k f).pending = s.pending := rfl

@[simp] theorem State.modTapeSlot_bus (s : State) (k : Fin 4) (f : TapeSlot → TapeSlot) : (s.modTapeSlot k f).bus = s.bus := rfl

@[simp] theorem State.modTapeSlot_coder (s : State) (k : Fin 4) (f : TapeSlot → TapeSlot) : (s.modTapeSlot k f).coder = s.coder := rfl

@[simp] theorem State.modTapeSlot_tape (s : State) (k : Fin 4) (f : TapeSlot → TapeSlot) :
    (s.modTapeSlot k f).tape = { s.tape with slots := vmod s.tape.slots k f } := rfl

@[simp] theorem State.modTapeSlot_dec (s : State) (k : Fin 4) (f : TapeSlot → TapeSlot) : (s.modTapeSlot k f).dec = s.dec := rfl

@[simp] theorem State.modTapeSlot_mon (s : State) (k : Fin 4) (f : TapeSlot → TapeSlot) : (s.modTapeSlot k f).mon = s.mon := rfl

@[simp] theorem State.modTapeSlot_edit (s : State) (k : Fin 4) (f : TapeSlot → TapeSlot) : (s.modTapeSlot k f).edit = s.edit := rfl

@[simp] theorem State.modTapeSlot_copy (s : State) (k : Fin 4) (f : TapeSlot → TapeSlot) : (s.modTapeSlot k f).copy = s.copy := rfl

@[simp] theorem State.modTapeSlot_settings (s : State) (k : Fin 4) (f : TapeSlot → TapeSlot) : (s.modTapeSlot k f).settings = s.settings := rfl

@[simp] theorem State.modTapeSlot_counters (s : State) (k : Fin 4) (f : TapeSlot → TapeSlot) : (s.modTapeSlot k f).counters = s.counters := rfl

@[simp] theorem State.modTapeSlot_cmd (s : State) (k : Fin 4) (f : TapeSlot → TapeSlot) : (s.modTapeSlot k f).cmd = s.cmd := rfl

@[simp] theorem State.modTapeSlot_rep (s : State) (k : Fin 4) (f : TapeSlot → TapeSlot) : (s.modTapeSlot k f).rep = s.rep := rfl

@[simp] theorem State.modTapeSlot_mem (s : State) (k : Fin 4) (f : TapeSlot → TapeSlot) : (s.modTapeSlot k f).mem = s.mem := rfl

@[simp] theorem State.modTapeSlot_pending (s : State) (k : Fin 4) (f : TapeSlot → TapeSlot) : (s.modTapeSlot k f).pending = s.pending := rfl

end Sys2Proof.Machine
end

