-- ==== Sys2Proof/Laws/FrameAudio.lean ====
section
/-! SUPPORT. What each operation of the shared operations, the flags, copy control, the monitor selector, the decode service and the edit engine leaves as it stands. -/

namespace Sys2Proof.Machine

@[simp] theorem State.poke_frame (s : State) (a : Nat) (v : Word) :
    (s.poke a v).bus = s.bus ∧
      (s.poke a v).coder = s.coder ∧
      (s.poke a v).tape = s.tape ∧
      (s.poke a v).dec = s.dec ∧
      (s.poke a v).mon = s.mon ∧
      (s.poke a v).edit = s.edit ∧
      (s.poke a v).copy = s.copy ∧
      (s.poke a v).settings = s.settings ∧
      (s.poke a v).counters = s.counters ∧
      (s.poke a v).cmd = s.cmd ∧
      (s.poke a v).rep = s.rep ∧
      (s.poke a v).pending = s.pending := by
  simp [State.poke]

@[simp] theorem State.addAccesses_frame (s : State) (n : Nat) :
    (s.addAccesses n).bus.op = s.bus.op ∧
      (s.addAccesses n).bus.held = s.bus.held ∧
      (s.addAccesses n).bus.waiting = s.bus.waiting ∧
      (s.addAccesses n).bus.table = s.bus.table ∧
      (s.addAccesses n).bus.valid = s.bus.valid ∧
      (s.addAccesses n).coder = s.coder ∧
      (s.addAccesses n).tape = s.tape ∧
      (s.addAccesses n).dec = s.dec ∧
      (s.addAccesses n).mon = s.mon ∧
      (s.addAccesses n).edit = s.edit ∧
      (s.addAccesses n).copy = s.copy ∧
      (s.addAccesses n).settings = s.settings ∧
      (s.addAccesses n).counters = s.counters ∧
      (s.addAccesses n).cmd = s.cmd ∧
      (s.addAccesses n).rep = s.rep ∧
      (s.addAccesses n).mem = s.mem ∧
      (s.addAccesses n).pending = s.pending := by
  simp [State.addAccesses]

@[simp] theorem State.upPoke_frame (s : State) (a : Nat) (v : Word) :
    (s.upPoke a v).bus.op = s.bus.op ∧
      (s.upPoke a v).bus.held = s.bus.held ∧
      (s.upPoke a v).bus.waiting = s.bus.waiting ∧
      (s.upPoke a v).bus.table = s.bus.table ∧
      (s.upPoke a v).bus.valid = s.bus.valid ∧
      (s.upPoke a v).coder = s.coder ∧
      (s.upPoke a v).tape = s.tape ∧
      (s.upPoke a v).dec = s.dec ∧
      (s.upPoke a v).mon = s.mon ∧
      (s.upPoke a v).edit = s.edit ∧
      (s.upPoke a v).copy = s.copy ∧
      (s.upPoke a v).settings = s.settings ∧
      (s.upPoke a v).counters = s.counters ∧
      (s.upPoke a v).cmd = s.cmd ∧
      (s.upPoke a v).rep = s.rep ∧
      (s.upPoke a v).pending = s.pending := by
  simp [State.upPoke]

@[simp] theorem State.treat_frame (s : State) (t : Treatment) :
    (s.treat t).bus.op = s.bus.op ∧
      (s.treat t).bus.held = s.bus.held ∧
      (s.treat t).bus.waiting = s.bus.waiting ∧
      (s.treat t).bus.table = s.bus.table ∧
      (s.treat t).bus.valid = s.bus.valid ∧
      (s.treat t).coder = s.coder ∧
      (s.treat t).tape = s.tape ∧
      (s.treat t).dec = s.dec ∧
      (s.treat t).mon = s.mon ∧
      (s.treat t).edit = s.edit ∧
      (s.treat t).copy = s.copy ∧
      (s.treat t).settings = s.settings ∧
      (s.treat t).counters = s.counters ∧
      (s.treat t).cmd = s.cmd ∧
      (s.treat t).rep = s.rep ∧
      (s.treat t).mem = s.mem ∧
      (s.treat t).pending = s.pending := by
  simp [State.treat]

@[simp] theorem State.answer_frame (s : State) (t : Treatment) (v : Word) :
    (s.answer t v).bus.op = s.bus.op ∧
      (s.answer t v).bus.held = s.bus.held ∧
      (s.answer t v).bus.waiting = s.bus.waiting ∧
      (s.answer t v).bus.table = s.bus.table ∧
      (s.answer t v).bus.valid = s.bus.valid ∧
      (s.answer t v).coder = s.coder ∧
      (s.answer t v).tape = s.tape ∧
      (s.answer t v).dec = s.dec ∧
      (s.answer t v).mon = s.mon ∧
      (s.answer t v).edit = s.edit ∧
      (s.answer t v).copy = s.copy ∧
      (s.answer t v).settings = s.settings ∧
      (s.answer t v).counters = s.counters ∧
      (s.answer t v).cmd = s.cmd ∧
      (s.answer t v).rep = s.rep ∧
      (s.answer t v).mem = s.mem ∧
      (s.answer t v).pending = s.pending := by
  simp [State.answer]

@[simp] theorem State.raise_frame (s : State) (c : Cause) :
    (s.raise c).bus = s.bus ∧
      (s.raise c).coder = s.coder ∧
      (s.raise c).tape = s.tape ∧
      (s.raise c).dec = s.dec ∧
      (s.raise c).mon = s.mon ∧
      (s.raise c).edit = s.edit ∧
      (s.raise c).copy = s.copy ∧
      (s.raise c).settings = s.settings ∧
      (s.raise c).counters = s.counters ∧
      (s.raise c).cmd = s.cmd ∧
      (s.raise c).mem = s.mem ∧
      (s.raise c).pending = s.pending := by
  simp [State.raise]

@[simp] theorem State.raiseIf_frame (s : State) (b : Bool) (c : Cause) :
    (s.raiseIf b c).bus = s.bus ∧
      (s.raiseIf b c).coder = s.coder ∧
      (s.raiseIf b c).tape = s.tape ∧
      (s.raiseIf b c).dec = s.dec ∧
      (s.raiseIf b c).mon = s.mon ∧
      (s.raiseIf b c).edit = s.edit ∧
      (s.raiseIf b c).copy = s.copy ∧
      (s.raiseIf b c).settings = s.settings ∧
      (s.raiseIf b c).counters = s.counters ∧
      (s.raiseIf b c).cmd = s.cmd ∧
      (s.raiseIf b c).mem = s.mem ∧
      (s.raiseIf b c).pending = s.pending := by
  unfold State.raiseIf
  split <;> simp

@[simp] theorem State.markRecord_frame (s : State) :
    (s.markRecord).bus = s.bus ∧
      (s.markRecord).coder = s.coder ∧
      (s.markRecord).tape = s.tape ∧
      (s.markRecord).dec = s.dec ∧
      (s.markRecord).mon = s.mon ∧
      (s.markRecord).edit = s.edit ∧
      (s.markRecord).copy = s.copy ∧
      (s.markRecord).settings = s.settings ∧
      (s.markRecord).counters = s.counters ∧
      (s.markRecord).cmd = s.cmd ∧
      (s.markRecord).mem = s.mem ∧
      (s.markRecord).pending = s.pending := by
  simp [State.markRecord]

@[simp] theorem State.markPlayback_frame (s : State) :
    (s.markPlayback).bus = s.bus ∧
      (s.markPlayback).coder = s.coder ∧
      (s.markPlayback).tape = s.tape ∧
      (s.markPlayback).dec = s.dec ∧
      (s.markPlayback).mon = s.mon ∧
      (s.markPlayback).edit = s.edit ∧
      (s.markPlayback).copy = s.copy ∧
      (s.markPlayback).settings = s.settings ∧
      (s.markPlayback).counters = s.counters ∧
      (s.markPlayback).cmd = s.cmd ∧
      (s.markPlayback).mem = s.mem ∧
      (s.markPlayback).pending = s.pending := by
  simp [State.markPlayback]

@[simp] theorem State.markEdit_frame (s : State) :
    (s.markEdit).bus = s.bus ∧
      (s.markEdit).coder = s.coder ∧
      (s.markEdit).tape = s.tape ∧
      (s.markEdit).dec = s.dec ∧
      (s.markEdit).mon = s.mon ∧
      (s.markEdit).edit = s.edit ∧
      (s.markEdit).copy = s.copy ∧
      (s.markEdit).settings = s.settings ∧
      (s.markEdit).counters = s.counters ∧
      (s.markEdit).cmd = s.cmd ∧
      (s.markEdit).mem = s.mem ∧
      (s.markEdit).pending = s.pending := by
  simp [State.markEdit]

@[simp] theorem State.markCopy_frame (s : State) :
    (s.markCopy).bus = s.bus ∧
      (s.markCopy).coder = s.coder ∧
      (s.markCopy).tape = s.tape ∧
      (s.markCopy).dec = s.dec ∧
      (s.markCopy).mon = s.mon ∧
      (s.markCopy).edit = s.edit ∧
      (s.markCopy).copy = s.copy ∧
      (s.markCopy).settings = s.settings ∧
      (s.markCopy).counters = s.counters ∧
      (s.markCopy).cmd = s.cmd ∧
      (s.markCopy).mem = s.mem ∧
      (s.markCopy).pending = s.pending := by
  simp [State.markCopy]

@[simp] theorem State.markCounters_frame (s : State) :
    (s.markCounters).bus = s.bus ∧
      (s.markCounters).coder = s.coder ∧
      (s.markCounters).tape = s.tape ∧
      (s.markCounters).dec = s.dec ∧
      (s.markCounters).mon = s.mon ∧
      (s.markCounters).edit = s.edit ∧
      (s.markCounters).copy = s.copy ∧
      (s.markCounters).settings = s.settings ∧
      (s.markCounters).counters = s.counters ∧
      (s.markCounters).cmd = s.cmd ∧
      (s.markCounters).mem = s.mem ∧
      (s.markCounters).pending = s.pending := by
  simp [State.markCounters]

@[simp] theorem State.markRecordIf_frame (s : State) (b : Bool) :
    (s.markRecordIf b).bus = s.bus ∧
      (s.markRecordIf b).coder = s.coder ∧
      (s.markRecordIf b).tape = s.tape ∧
      (s.markRecordIf b).dec = s.dec ∧
      (s.markRecordIf b).mon = s.mon ∧
      (s.markRecordIf b).edit = s.edit ∧
      (s.markRecordIf b).copy = s.copy ∧
      (s.markRecordIf b).settings = s.settings ∧
      (s.markRecordIf b).counters = s.counters ∧
      (s.markRecordIf b).cmd = s.cmd ∧
      (s.markRecordIf b).mem = s.mem ∧
      (s.markRecordIf b).pending = s.pending := by
  unfold State.markRecordIf
  split <;> simp

@[simp] theorem State.markPlaybackIf_frame (s : State) (b : Bool) :
    (s.markPlaybackIf b).bus = s.bus ∧
      (s.markPlaybackIf b).coder = s.coder ∧
      (s.markPlaybackIf b).tape = s.tape ∧
      (s.markPlaybackIf b).dec = s.dec ∧
      (s.markPlaybackIf b).mon = s.mon ∧
      (s.markPlaybackIf b).edit = s.edit ∧
      (s.markPlaybackIf b).copy = s.copy ∧
      (s.markPlaybackIf b).settings = s.settings ∧
      (s.markPlaybackIf b).counters = s.counters ∧
      (s.markPlaybackIf b).cmd = s.cmd ∧
      (s.markPlaybackIf b).mem = s.mem ∧
      (s.markPlaybackIf b).pending = s.pending := by
  unfold State.markPlaybackIf
  split <;> simp

@[simp] theorem State.markEditIf_frame (s : State) (b : Bool) :
    (s.markEditIf b).bus = s.bus ∧
      (s.markEditIf b).coder = s.coder ∧
      (s.markEditIf b).tape = s.tape ∧
      (s.markEditIf b).dec = s.dec ∧
      (s.markEditIf b).mon = s.mon ∧
      (s.markEditIf b).edit = s.edit ∧
      (s.markEditIf b).copy = s.copy ∧
      (s.markEditIf b).settings = s.settings ∧
      (s.markEditIf b).counters = s.counters ∧
      (s.markEditIf b).cmd = s.cmd ∧
      (s.markEditIf b).mem = s.mem ∧
      (s.markEditIf b).pending = s.pending := by
  unfold State.markEditIf
  split <;> simp

@[simp] theorem State.count_frame (s : State) (c : Counter) (n : Nat) :
    (s.count c n).bus = s.bus ∧
      (s.count c n).coder = s.coder ∧
      (s.count c n).tape = s.tape ∧
      (s.count c n).dec = s.dec ∧
      (s.count c n).mon = s.mon ∧
      (s.count c n).edit = s.edit ∧
      (s.count c n).copy = s.copy ∧
      (s.count c n).settings = s.settings ∧
      (s.count c n).cmd = s.cmd ∧
      (s.count c n).mem = s.mem ∧
      (s.count c n).pending = s.pending := by
  unfold State.count
  split <;> simp

@[simp] theorem State.bump_frame (s : State) (c : Counter) :
    (s.bump c).bus = s.bus ∧
      (s.bump c).coder = s.coder ∧
      (s.bump c).tape = s.tape ∧
      (s.bump c).dec = s.dec ∧
      (s.bump c).mon = s.mon ∧
      (s.bump c).edit = s.edit ∧
      (s.bump c).copy = s.copy ∧
      (s.bump c).settings = s.settings ∧
      (s.bump c).cmd = s.cmd ∧
      (s.bump c).mem = s.mem ∧
      (s.bump c).pending = s.pending := by
  simp [State.bump]

@[simp] theorem State.zeroCounters_frame (s : State) :
    (s.zeroCounters).bus = s.bus ∧
      (s.zeroCounters).coder = s.coder ∧
      (s.zeroCounters).tape = s.tape ∧
      (s.zeroCounters).dec = s.dec ∧
      (s.zeroCounters).mon = s.mon ∧
      (s.zeroCounters).edit = s.edit ∧
      (s.zeroCounters).copy = s.copy ∧
      (s.zeroCounters).settings = s.settings ∧
      (s.zeroCounters).cmd = s.cmd ∧
      (s.zeroCounters).mem = s.mem ∧
      (s.zeroCounters).pending = s.pending := by
  simp [State.zeroCounters]

@[simp] theorem State.judgeAlert_frame (s : State) :
    (s.judgeAlert).bus = s.bus ∧
      (s.judgeAlert).coder = s.coder ∧
      (s.judgeAlert).tape = s.tape ∧
      (s.judgeAlert).dec = s.dec ∧
      (s.judgeAlert).mon = s.mon ∧
      (s.judgeAlert).edit = s.edit ∧
      (s.judgeAlert).copy = s.copy ∧
      (s.judgeAlert).settings = s.settings ∧
      (s.judgeAlert).counters = s.counters ∧
      (s.judgeAlert).cmd = s.cmd ∧
      (s.judgeAlert).mem = s.mem ∧
      (s.judgeAlert).pending = s.pending := by
  simp [State.judgeAlert]

@[simp] theorem State.updateOutput_frame (s : State) :
    (s.updateOutput).bus = s.bus ∧
      (s.updateOutput).coder = s.coder ∧
      (s.updateOutput).tape = s.tape ∧
      (s.updateOutput).dec = s.dec ∧
      (s.updateOutput).mon = s.mon ∧
      (s.updateOutput).edit = s.edit ∧
      (s.updateOutput).settings = s.settings ∧
      (s.updateOutput).counters = s.counters ∧
      (s.updateOutput).cmd = s.cmd ∧
      (s.updateOutput).mem = s.mem ∧
      (s.updateOutput).pending = s.pending := by
  unfold State.updateOutput
  split <;> simp

@[simp] theorem State.rederive_frame (s : State) :
    (s.rederive).bus = s.bus ∧
      (s.rederive).coder = s.coder ∧
      (s.rederive).tape = s.tape ∧
      (s.rederive).dec = s.dec ∧
      (s.rederive).mon = s.mon ∧
      (s.rederive).edit = s.edit ∧
      (s.rederive).settings = s.settings ∧
      (s.rederive).counters = s.counters ∧
      (s.rederive).cmd = s.cmd ∧
      (s.rederive).mem = s.mem ∧
      (s.rederive).pending = s.pending := by
  unfold State.rederive
  dsimp only
  repeat' split
  all_goals simp

@[simp] theorem State.samplePermission_frame (s : State) :
    (s.samplePermission).bus = s.bus ∧
      (s.samplePermission).coder = s.coder ∧
      (s.samplePermission).tape = s.tape ∧
      (s.samplePermission).dec = s.dec ∧
      (s.samplePermission).mon = s.mon ∧
      (s.samplePermission).edit = s.edit ∧
      (s.samplePermission).settings = s.settings ∧
      (s.samplePermission).counters = s.counters ∧
      (s.samplePermission).cmd = s.cmd ∧
      (s.samplePermission).mem = s.mem ∧
      (s.samplePermission).pending = s.pending := by
  unfold State.samplePermission
  split <;> simp

@[simp] theorem State.captureInput_frame (s : State) (v : Word) :
    (s.captureInput v).bus = s.bus ∧
      (s.captureInput v).coder = s.coder ∧
      (s.captureInput v).tape = s.tape ∧
      (s.captureInput v).dec = s.dec ∧
      (s.captureInput v).mon = s.mon ∧
      (s.captureInput v).edit = s.edit ∧
      (s.captureInput v).settings = s.settings ∧
      (s.captureInput v).counters = s.counters ∧
      (s.captureInput v).cmd = s.cmd ∧
      (s.captureInput v).mem = s.mem ∧
      (s.captureInput v).pending = s.pending := by
  simp [State.captureInput]

@[simp] theorem State.refuse_frame (s : State) (k : Fin 4) :
    (s.refuse k).bus = s.bus ∧
      (s.refuse k).coder = s.coder ∧
      (s.refuse k).tape = s.tape ∧
      (s.refuse k).dec = s.dec ∧
      (s.refuse k).mon = s.mon ∧
      (s.refuse k).edit = s.edit ∧
      (s.refuse k).settings = s.settings ∧
      (s.refuse k).cmd = s.cmd ∧
      (s.refuse k).mem = s.mem ∧
      (s.refuse k).pending = s.pending := by
  unfold State.refuse
  split <;> simp

@[simp] theorem State.captureAnalog_frame (s : State) (v : Word) :
    (s.captureAnalog v).bus = s.bus ∧
      (s.captureAnalog v).coder = s.coder ∧
      (s.captureAnalog v).tape = s.tape ∧
      (s.captureAnalog v).dec = s.dec ∧
      (s.captureAnalog v).mon = s.mon ∧
      (s.captureAnalog v).edit = s.edit ∧
      (s.captureAnalog v).settings = s.settings ∧
      (s.captureAnalog v).counters = s.counters ∧
      (s.captureAnalog v).cmd = s.cmd ∧
      (s.captureAnalog v).mem = s.mem ∧
      (s.captureAnalog v).pending = s.pending := by
  unfold State.captureAnalog
  repeat' split
  all_goals simp

@[simp] theorem State.captureRange_frame (s : State) (n : Fin 4) (j : Nat) (v : Word) :
    (s.captureRange n j v).bus = s.bus ∧
      (s.captureRange n j v).coder = s.coder ∧
      (s.captureRange n j v).tape = s.tape ∧
      (s.captureRange n j v).dec = s.dec ∧
      (s.captureRange n j v).mon = s.mon ∧
      (s.captureRange n j v).edit = s.edit ∧
      (s.captureRange n j v).settings = s.settings ∧
      (s.captureRange n j v).counters = s.counters ∧
      (s.captureRange n j v).cmd = s.cmd ∧
      (s.captureRange n j v).mem = s.mem ∧
      (s.captureRange n j v).pending = s.pending := by
  simp [State.captureRange]

@[simp] theorem State.capturePolicy_frame (s : State) (k : Fin 21) (v : Word) :
    (s.capturePolicy k v).bus = s.bus ∧
      (s.capturePolicy k v).coder = s.coder ∧
      (s.capturePolicy k v).tape = s.tape ∧
      (s.capturePolicy k v).dec = s.dec ∧
      (s.capturePolicy k v).mon = s.mon ∧
      (s.capturePolicy k v).edit = s.edit ∧
      (s.capturePolicy k v).settings = s.settings ∧
      (s.capturePolicy k v).counters = s.counters ∧
      (s.capturePolicy k v).cmd = s.cmd ∧
      (s.capturePolicy k v).mem = s.mem ∧
      (s.capturePolicy k v).pending = s.pending := by
  unfold State.capturePolicy
  split <;> simp

@[simp] theorem State.seal_frame (s : State) :
    (s.seal).bus = s.bus ∧
      (s.seal).coder = s.coder ∧
      (s.seal).tape = s.tape ∧
      (s.seal).dec = s.dec ∧
      (s.seal).mon = s.mon ∧
      (s.seal).edit = s.edit ∧
      (s.seal).settings = s.settings ∧
      (s.seal).counters = s.counters ∧
      (s.seal).cmd = s.cmd ∧
      (s.seal).mem = s.mem ∧
      (s.seal).pending = s.pending := by
  unfold State.seal
  split <;> simp

@[simp] theorem State.rejudge_frame (s : State) :
    (s.rejudge).bus = s.bus ∧
      (s.rejudge).coder = s.coder ∧
      (s.rejudge).tape = s.tape ∧
      (s.rejudge).edit = s.edit ∧
      (s.rejudge).settings = s.settings ∧
      (s.rejudge).counters = s.counters ∧
      (s.rejudge).cmd = s.cmd ∧
      (s.rejudge).mem = s.mem ∧
      (s.rejudge).pending = s.pending := by
  unfold State.rejudge
  dsimp only
  repeat' split
  all_goals simp

@[simp] theorem State.countDelivery_frame (s : State) (kind : DeliveryKind) (own : WordClass) :
    (s.countDelivery kind own).bus = s.bus ∧
      (s.countDelivery kind own).coder = s.coder ∧
      (s.countDelivery kind own).tape = s.tape ∧
      (s.countDelivery kind own).dec = s.dec ∧
      (s.countDelivery kind own).mon = s.mon ∧
      (s.countDelivery kind own).edit = s.edit ∧
      (s.countDelivery kind own).copy = s.copy ∧
      (s.countDelivery kind own).settings = s.settings ∧
      (s.countDelivery kind own).cmd = s.cmd ∧
      (s.countDelivery kind own).mem = s.mem ∧
      (s.countDelivery kind own).pending = s.pending := by
  unfold State.countDelivery
  split <;> simp

@[simp] theorem State.noteRate_frame (s : State) (rate : Option Nat) (f : Option Nat) :
    (s.noteRate rate f).bus = s.bus ∧
      (s.noteRate rate f).coder = s.coder ∧
      (s.noteRate rate f).tape = s.tape ∧
      (s.noteRate rate f).mon = s.mon ∧
      (s.noteRate rate f).edit = s.edit ∧
      (s.noteRate rate f).copy = s.copy ∧
      (s.noteRate rate f).settings = s.settings ∧
      (s.noteRate rate f).counters = s.counters ∧
      (s.noteRate rate f).cmd = s.cmd ∧
      (s.noteRate rate f).mem = s.mem ∧
      (s.noteRate rate f).pending = s.pending := by
  unfold State.noteRate
  split <;> simp

@[simp] theorem State.monitorRequest_frame (s : State) (f : Option Nat) (n : Nat) (c : Fin 2) :
    (s.monitorRequest f n c).bus.op = s.bus.op ∧
      (s.monitorRequest f n c).bus.held = s.bus.held ∧
      (s.monitorRequest f n c).bus.waiting = s.bus.waiting ∧
      (s.monitorRequest f n c).bus.table = s.bus.table ∧
      (s.monitorRequest f n c).bus.valid = s.bus.valid ∧
      (s.monitorRequest f n c).coder = s.coder ∧
      (s.monitorRequest f n c).tape = s.tape ∧
      (s.monitorRequest f n c).mon = s.mon ∧
      (s.monitorRequest f n c).edit = s.edit ∧
      (s.monitorRequest f n c).copy = s.copy ∧
      (s.monitorRequest f n c).settings = s.settings ∧
      (s.monitorRequest f n c).cmd = s.cmd ∧
      (s.monitorRequest f n c).mem = s.mem ∧
      (s.monitorRequest f n c).pending = s.pending := by
  simp [State.monitorRequest]

@[simp] theorem State.mixRequest_frame (s : State) (f n : Nat) (c : Fin 2) :
    (s.mixRequest f n c).bus.op = s.bus.op ∧
      (s.mixRequest f n c).bus.held = s.bus.held ∧
      (s.mixRequest f n c).bus.waiting = s.bus.waiting ∧
      (s.mixRequest f n c).bus.table = s.bus.table ∧
      (s.mixRequest f n c).bus.valid = s.bus.valid ∧
      (s.mixRequest f n c).tape = s.tape ∧
      (s.mixRequest f n c).mon = s.mon ∧
      (s.mixRequest f n c).edit = s.edit ∧
      (s.mixRequest f n c).copy = s.copy ∧
      (s.mixRequest f n c).settings = s.settings ∧
      (s.mixRequest f n c).cmd = s.cmd ∧
      (s.mixRequest f n c).mem = s.mem ∧
      (s.mixRequest f n c).pending = s.pending := by
  unfold State.mixRequest
  dsimp only
  split <;> simp

@[simp] theorem State.applyReturnTest_frame (s : State) :
    (s.applyReturnTest).bus = s.bus ∧
      (s.applyReturnTest).coder = s.coder ∧
      (s.applyReturnTest).tape = s.tape ∧
      (s.applyReturnTest).dec = s.dec ∧
      (s.applyReturnTest).mon = s.mon ∧
      (s.applyReturnTest).copy = s.copy ∧
      (s.applyReturnTest).settings = s.settings ∧
      (s.applyReturnTest).counters = s.counters ∧
      (s.applyReturnTest).cmd = s.cmd ∧
      (s.applyReturnTest).mem = s.mem ∧
      (s.applyReturnTest).pending = s.pending := by
  unfold State.applyReturnTest
  dsimp only
  repeat' split
  all_goals simp

@[simp] theorem State.armHead_frame (s : State) :
    (s.armHead).bus = s.bus ∧
      (s.armHead).coder = s.coder ∧
      (s.armHead).tape = s.tape ∧
      (s.armHead).dec = s.dec ∧
      (s.armHead).mon = s.mon ∧
      (s.armHead).copy = s.copy ∧
      (s.armHead).settings = s.settings ∧
      (s.armHead).counters = s.counters ∧
      (s.armHead).cmd = s.cmd ∧
      (s.armHead).mem = s.mem ∧
      (s.armHead).pending = s.pending := by
  unfold State.armHead
  split <;> simp

@[simp] theorem State.firePunch_frame (s : State) (x : Entry) (q : Nat) (forced : Bool) :
    (s.firePunch x q forced).bus = s.bus ∧
      (s.firePunch x q forced).coder = s.coder ∧
      (s.firePunch x q forced).tape = s.tape ∧
      (s.firePunch x q forced).dec = s.dec ∧
      (s.firePunch x q forced).mon = s.mon ∧
      (s.firePunch x q forced).copy = s.copy ∧
      (s.firePunch x q forced).settings = s.settings ∧
      (s.firePunch x q forced).counters = s.counters ∧
      (s.firePunch x q forced).cmd = s.cmd ∧
      (s.firePunch x q forced).mem = s.mem ∧
      (s.firePunch x q forced).pending = s.pending := by
  simp [State.firePunch]

@[simp] theorem State.level2_frame (s : State) (x : Entry) (q : Nat) (old : Vector Word 2) :
    (s.level2 x q old).bus = s.bus ∧
      (s.level2 x q old).coder = s.coder ∧
      (s.level2 x q old).tape = s.tape ∧
      (s.level2 x q old).dec = s.dec ∧
      (s.level2 x q old).mon = s.mon ∧
      (s.level2 x q old).copy = s.copy ∧
      (s.level2 x q old).settings = s.settings ∧
      (s.level2 x q old).counters = s.counters ∧
      (s.level2 x q old).cmd = s.cmd ∧
      (s.level2 x q old).mem = s.mem ∧
      (s.level2 x q old).pending = s.pending := by
  unfold State.level2
  dsimp only
  repeat' split
  all_goals simp

@[simp] theorem State.level1_frame (s : State) (x : Entry) (q : Nat) (old : Vector Word 2) :
    (s.level1 x q old).bus = s.bus ∧
      (s.level1 x q old).coder = s.coder ∧
      (s.level1 x q old).tape = s.tape ∧
      (s.level1 x q old).dec = s.dec ∧
      (s.level1 x q old).mon = s.mon ∧
      (s.level1 x q old).copy = s.copy ∧
      (s.level1 x q old).settings = s.settings ∧
      (s.level1 x q old).counters = s.counters ∧
      (s.level1 x q old).cmd = s.cmd ∧
      (s.level1 x q old).mem = s.mem ∧
      (s.level1 x q old).pending = s.pending := by
  unfold State.level1
  repeat' split
  all_goals simp

@[simp] theorem State.comparator_frame (s : State) (q : Nat) (old : Option (Vector Word 2)) :
    (s.comparator q old).bus = s.bus ∧
      (s.comparator q old).coder = s.coder ∧
      (s.comparator q old).tape = s.tape ∧
      (s.comparator q old).dec = s.dec ∧
      (s.comparator q old).mon = s.mon ∧
      (s.comparator q old).copy = s.copy ∧
      (s.comparator q old).settings = s.settings ∧
      (s.comparator q old).counters = s.counters ∧
      (s.comparator q old).cmd = s.cmd ∧
      (s.comparator q old).mem = s.mem ∧
      (s.comparator q old).pending = s.pending := by
  unfold State.comparator
  split <;> simp

@[simp] theorem State.fadeWait_frame (s : State) (q : Nat) :
    (s.fadeWait q).bus = s.bus ∧
      (s.fadeWait q).coder = s.coder ∧
      (s.fadeWait q).tape = s.tape ∧
      (s.fadeWait q).dec = s.dec ∧
      (s.fadeWait q).mon = s.mon ∧
      (s.fadeWait q).copy = s.copy ∧
      (s.fadeWait q).settings = s.settings ∧
      (s.fadeWait q).counters = s.counters ∧
      (s.fadeWait q).cmd = s.cmd ∧
      (s.fadeWait q).mem = s.mem ∧
      (s.fadeWait q).pending = s.pending := by
  unfold State.fadeWait
  split <;> simp

@[simp] theorem State.pairEvent_frame (s : State) (q : Nat) (old : Option (Vector Word 2)) :
    (s.pairEvent q old).bus = s.bus ∧
      (s.pairEvent q old).tape = s.tape ∧
      (s.pairEvent q old).settings = s.settings ∧
      (s.pairEvent q old).counters = s.counters ∧
      (s.pairEvent q old).cmd = s.cmd ∧
      (s.pairEvent q old).mem = s.mem ∧
      (s.pairEvent q old).pending = s.pending := by
  simp [State.pairEvent]

@[simp] theorem State.endLocate_frame (s : State) :
    (s.endLocate).bus = s.bus ∧
      (s.endLocate).coder = s.coder ∧
      (s.endLocate).tape = s.tape ∧
      (s.endLocate).dec = s.dec ∧
      (s.endLocate).mon = s.mon ∧
      (s.endLocate).copy = s.copy ∧
      (s.endLocate).settings = s.settings ∧
      (s.endLocate).counters = s.counters ∧
      (s.endLocate).cmd = s.cmd ∧
      (s.endLocate).mem = s.mem ∧
      (s.endLocate).pending = s.pending := by
  simp [State.endLocate]

@[simp] theorem State.locateTest_frame (s : State) (a : Nat) :
    (s.locateTest a).bus = s.bus ∧
      (s.locateTest a).coder = s.coder ∧
      (s.locateTest a).tape = s.tape ∧
      (s.locateTest a).dec = s.dec ∧
      (s.locateTest a).mon = s.mon ∧
      (s.locateTest a).copy = s.copy ∧
      (s.locateTest a).settings = s.settings ∧
      (s.locateTest a).counters = s.counters ∧
      (s.locateTest a).cmd = s.cmd ∧
      (s.locateTest a).mem = s.mem ∧
      (s.locateTest a).pending = s.pending := by
  unfold State.locateTest
  split <;> simp

@[simp] theorem State.dropParam_frame (s : State) :
    (s.dropParam).bus = s.bus ∧
      (s.dropParam).coder = s.coder ∧
      (s.dropParam).tape = s.tape ∧
      (s.dropParam).dec = s.dec ∧
      (s.dropParam).mon = s.mon ∧
      (s.dropParam).copy = s.copy ∧
      (s.dropParam).settings = s.settings ∧
      (s.dropParam).counters = s.counters ∧
      (s.dropParam).cmd = s.cmd ∧
      (s.dropParam).rep = s.rep ∧
      (s.dropParam).mem = s.mem ∧
      (s.dropParam).pending = s.pending := by
  simp [State.dropParam]

@[simp] theorem State.takeLoad_frame (s : State) (x : Entry) :
    (s.takeLoad x).bus = s.bus ∧
      (s.takeLoad x).coder = s.coder ∧
      (s.takeLoad x).tape = s.tape ∧
      (s.takeLoad x).dec = s.dec ∧
      (s.takeLoad x).mon = s.mon ∧
      (s.takeLoad x).copy = s.copy ∧
      (s.takeLoad x).settings = s.settings ∧
      (s.takeLoad x).counters = s.counters ∧
      (s.takeLoad x).cmd = s.cmd ∧
      (s.takeLoad x).mem = s.mem ∧
      (s.takeLoad x).pending = s.pending := by
  unfold State.takeLoad
  split <;> simp

@[simp] theorem State.editLoad_frame (s : State) (handle : BitVec 4) (kind : BitVec 2) (hi : BitVec 5) (lo pair : Word) :
    (s.editLoad handle kind hi lo pair).1.bus = s.bus ∧
      (s.editLoad handle kind hi lo pair).1.coder = s.coder ∧
      (s.editLoad handle kind hi lo pair).1.tape = s.tape ∧
      (s.editLoad handle kind hi lo pair).1.dec = s.dec ∧
      (s.editLoad handle kind hi lo pair).1.mon = s.mon ∧
      (s.editLoad handle kind hi lo pair).1.copy = s.copy ∧
      (s.editLoad handle kind hi lo pair).1.settings = s.settings ∧
      (s.editLoad handle kind hi lo pair).1.counters = s.counters ∧
      (s.editLoad handle kind hi lo pair).1.cmd = s.cmd ∧
      (s.editLoad handle kind hi lo pair).1.mem = s.mem ∧
      (s.editLoad handle kind hi lo pair).1.pending = s.pending := by
  unfold State.editLoad
  dsimp only
  repeat' split
  all_goals simp

@[simp] theorem State.editParam_frame (s : State) (cond : BitVec 2) (chan : BitVec 1) (expo : BitVec 4) (shape : BitVec 2) (threshold span : Word) :
    (s.editParam cond chan expo shape threshold span).1.bus = s.bus ∧
      (s.editParam cond chan expo shape threshold span).1.coder = s.coder ∧
      (s.editParam cond chan expo shape threshold span).1.tape = s.tape ∧
      (s.editParam cond chan expo shape threshold span).1.dec = s.dec ∧
      (s.editParam cond chan expo shape threshold span).1.mon = s.mon ∧
      (s.editParam cond chan expo shape threshold span).1.copy = s.copy ∧
      (s.editParam cond chan expo shape threshold span).1.settings = s.settings ∧
      (s.editParam cond chan expo shape threshold span).1.counters = s.counters ∧
      (s.editParam cond chan expo shape threshold span).1.cmd = s.cmd ∧
      (s.editParam cond chan expo shape threshold span).1.mem = s.mem ∧
      (s.editParam cond chan expo shape threshold span).1.pending = s.pending := by
  unfold State.editParam
  repeat' split
  all_goals simp

@[simp] theorem State.editCancel_frame (s : State) (handle : BitVec 4) :
    (s.editCancel handle).1.bus = s.bus ∧
      (s.editCancel handle).1.coder = s.coder ∧
      (s.editCancel handle).1.tape = s.tape ∧
      (s.editCancel handle).1.dec = s.dec ∧
      (s.editCancel handle).1.mon = s.mon ∧
      (s.editCancel handle).1.copy = s.copy ∧
      (s.editCancel handle).1.settings = s.settings ∧
      (s.editCancel handle).1.counters = s.counters ∧
      (s.editCancel handle).1.cmd = s.cmd ∧
      (s.editCancel handle).1.mem = s.mem ∧
      (s.editCancel handle).1.pending = s.pending := by
  unfold State.editCancel
  repeat' split
  all_goals simp

@[simp] theorem State.editArm_frame (s : State) :
    (s.editArm).1.bus = s.bus ∧
      (s.editArm).1.coder = s.coder ∧
      (s.editArm).1.tape = s.tape ∧
      (s.editArm).1.dec = s.dec ∧
      (s.editArm).1.mon = s.mon ∧
      (s.editArm).1.copy = s.copy ∧
      (s.editArm).1.settings = s.settings ∧
      (s.editArm).1.counters = s.counters ∧
      (s.editArm).1.cmd = s.cmd ∧
      (s.editArm).1.mem = s.mem ∧
      (s.editArm).1.pending = s.pending := by
  unfold State.editArm
  repeat' split
  all_goals simp

@[simp] theorem State.editDisarm_frame (s : State) :
    (s.editDisarm).1.bus = s.bus ∧
      (s.editDisarm).1.coder = s.coder ∧
      (s.editDisarm).1.tape = s.tape ∧
      (s.editDisarm).1.dec = s.dec ∧
      (s.editDisarm).1.mon = s.mon ∧
      (s.editDisarm).1.copy = s.copy ∧
      (s.editDisarm).1.settings = s.settings ∧
      (s.editDisarm).1.counters = s.counters ∧
      (s.editDisarm).1.cmd = s.cmd ∧
      (s.editDisarm).1.mem = s.mem ∧
      (s.editDisarm).1.pending = s.pending := by
  unfold State.editDisarm
  split <;> simp

@[simp] theorem State.locate_frame (s : State) (hi lo : Word) :
    (s.locate hi lo).1.bus = s.bus ∧
      (s.locate hi lo).1.coder = s.coder ∧
      (s.locate hi lo).1.tape = s.tape ∧
      (s.locate hi lo).1.dec = s.dec ∧
      (s.locate hi lo).1.mon = s.mon ∧
      (s.locate hi lo).1.copy = s.copy ∧
      (s.locate hi lo).1.settings = s.settings ∧
      (s.locate hi lo).1.counters = s.counters ∧
      (s.locate hi lo).1.cmd = s.cmd ∧
      (s.locate hi lo).1.mem = s.mem ∧
      (s.locate hi lo).1.pending = s.pending := by
  unfold State.locate
  split <;> simp

@[simp] theorem State.locateCancel_frame (s : State) :
    (s.locateCancel).1.bus = s.bus ∧
      (s.locateCancel).1.coder = s.coder ∧
      (s.locateCancel).1.tape = s.tape ∧
      (s.locateCancel).1.dec = s.dec ∧
      (s.locateCancel).1.mon = s.mon ∧
      (s.locateCancel).1.copy = s.copy ∧
      (s.locateCancel).1.settings = s.settings ∧
      (s.locateCancel).1.counters = s.counters ∧
      (s.locateCancel).1.cmd = s.cmd ∧
      (s.locateCancel).1.mem = s.mem ∧
      (s.locateCancel).1.pending = s.pending := by
  unfold State.locateCancel
  split <;> simp

end Sys2Proof.Machine
end

