-- ==== Sys2Proof/Laws/FrameTape.lean ====
section
/-! SUPPORT. What each operation of the off-tape assembler leaves as it stands. -/

namespace Sys2Proof.Machine

@[simp] theorem State.releaseSlot_frame (s : State) (k : Fin 4) :
    (s.releaseSlot k).bus = s.bus ∧
      (s.releaseSlot k).coder = s.coder ∧
      (s.releaseSlot k).dec = s.dec ∧
      (s.releaseSlot k).mon = s.mon ∧
      (s.releaseSlot k).edit = s.edit ∧
      (s.releaseSlot k).copy = s.copy ∧
      (s.releaseSlot k).settings = s.settings ∧
      (s.releaseSlot k).counters = s.counters ∧
      (s.releaseSlot k).cmd = s.cmd ∧
      (s.releaseSlot k).mem = s.mem ∧
      (s.releaseSlot k).pending = s.pending := by
  unfold State.releaseSlot
  split <;> simp

@[simp] theorem State.retestHolds_frame (s : State) :
    (s.retestHolds).bus = s.bus ∧
      (s.retestHolds).coder = s.coder ∧
      (s.retestHolds).dec = s.dec ∧
      (s.retestHolds).mon = s.mon ∧
      (s.retestHolds).edit = s.edit ∧
      (s.retestHolds).copy = s.copy ∧
      (s.retestHolds).settings = s.settings ∧
      (s.retestHolds).counters = s.counters ∧
      (s.retestHolds).cmd = s.cmd ∧
      (s.retestHolds).mem = s.mem ∧
      (s.retestHolds).pending = s.pending := by
  simp [State.retestHolds, slotNumbers]

@[simp] theorem State.sendToEvaluation_frame (s : State) (k : Fin 4) :
    (s.sendToEvaluation k).bus = s.bus ∧
      (s.sendToEvaluation k).coder = s.coder ∧
      (s.sendToEvaluation k).dec = s.dec ∧
      (s.sendToEvaluation k).mon = s.mon ∧
      (s.sendToEvaluation k).edit = s.edit ∧
      (s.sendToEvaluation k).copy = s.copy ∧
      (s.sendToEvaluation k).settings = s.settings ∧
      (s.sendToEvaluation k).counters = s.counters ∧
      (s.sendToEvaluation k).cmd = s.cmd ∧
      (s.sendToEvaluation k).mem = s.mem ∧
      (s.sendToEvaluation k).pending = s.pending := by
  unfold State.sendToEvaluation
  split <;> simp

@[simp] theorem State.beginFill_frame (s : State) (k : Fin 4) :
    (s.beginFill k).bus = s.bus ∧
      (s.beginFill k).coder = s.coder ∧
      (s.beginFill k).dec = s.dec ∧
      (s.beginFill k).mon = s.mon ∧
      (s.beginFill k).edit = s.edit ∧
      (s.beginFill k).copy = s.copy ∧
      (s.beginFill k).settings = s.settings ∧
      (s.beginFill k).counters = s.counters ∧
      (s.beginFill k).cmd = s.cmd ∧
      (s.beginFill k).mem = s.mem ∧
      (s.beginFill k).pending = s.pending := by
  simp [State.beginFill]

@[simp] theorem State.takeTapeWord_frame (s : State) (k : Fin 4) (b j : Nat) (v : Word) :
    (s.takeTapeWord k b j v).bus.op = s.bus.op ∧
      (s.takeTapeWord k b j v).bus.held = s.bus.held ∧
      (s.takeTapeWord k b j v).bus.waiting = s.bus.waiting ∧
      (s.takeTapeWord k b j v).bus.table = s.bus.table ∧
      (s.takeTapeWord k b j v).bus.valid = s.bus.valid ∧
      (s.takeTapeWord k b j v).coder = s.coder ∧
      (s.takeTapeWord k b j v).dec = s.dec ∧
      (s.takeTapeWord k b j v).mon = s.mon ∧
      (s.takeTapeWord k b j v).edit = s.edit ∧
      (s.takeTapeWord k b j v).copy = s.copy ∧
      (s.takeTapeWord k b j v).settings = s.settings ∧
      (s.takeTapeWord k b j v).counters = s.counters ∧
      (s.takeTapeWord k b j v).cmd = s.cmd ∧
      (s.takeTapeWord k b j v).pending = s.pending := by
  unfold State.takeTapeWord
  dsimp only
  repeat' split
  all_goals simp

@[simp] theorem State.raiseOpt_frame (s : State) (c : Option Cause) :
    (s.raiseOpt c).bus = s.bus ∧
      (s.raiseOpt c).coder = s.coder ∧
      (s.raiseOpt c).tape = s.tape ∧
      (s.raiseOpt c).dec = s.dec ∧
      (s.raiseOpt c).mon = s.mon ∧
      (s.raiseOpt c).edit = s.edit ∧
      (s.raiseOpt c).copy = s.copy ∧
      (s.raiseOpt c).settings = s.settings ∧
      (s.raiseOpt c).counters = s.counters ∧
      (s.raiseOpt c).cmd = s.cmd ∧
      (s.raiseOpt c).mem = s.mem ∧
      (s.raiseOpt c).pending = s.pending := by
  unfold State.raiseOpt
  split <;> simp

@[simp] theorem State.lockStep_frame (s : State) (g : Nat) (a : Option Nat) :
    (s.lockStep g a).bus = s.bus ∧
      (s.lockStep g a).coder = s.coder ∧
      (s.lockStep g a).edit = s.edit ∧
      (s.lockStep g a).settings = s.settings ∧
      (s.lockStep g a).counters = s.counters ∧
      (s.lockStep g a).cmd = s.cmd ∧
      (s.lockStep g a).mem = s.mem ∧
      (s.lockStep g a).pending = s.pending := by
  simp [State.lockStep]

@[simp] theorem State.rateTest_frame (s : State) :
    (s.rateTest).bus = s.bus ∧
      (s.rateTest).coder = s.coder ∧
      (s.rateTest).dec = s.dec ∧
      (s.rateTest).mon = s.mon ∧
      (s.rateTest).edit = s.edit ∧
      (s.rateTest).copy = s.copy ∧
      (s.rateTest).settings = s.settings ∧
      (s.rateTest).cmd = s.cmd ∧
      (s.rateTest).mem = s.mem ∧
      (s.rateTest).pending = s.pending := by
  unfold State.rateTest
  repeat' split
  all_goals simp

@[simp] theorem State.pushDamage_frame (s : State) (d : Nat) :
    (s.pushDamage d).bus = s.bus ∧
      (s.pushDamage d).coder = s.coder ∧
      (s.pushDamage d).dec = s.dec ∧
      (s.pushDamage d).mon = s.mon ∧
      (s.pushDamage d).edit = s.edit ∧
      (s.pushDamage d).copy = s.copy ∧
      (s.pushDamage d).settings = s.settings ∧
      (s.pushDamage d).cmd = s.cmd ∧
      (s.pushDamage d).mem = s.mem ∧
      (s.pushDamage d).pending = s.pending := by
  simp [State.pushDamage]

@[simp] theorem State.gapSteps_frame (n : Nat) (s : State) :
    (s.gapSteps n).bus = s.bus ∧
      (s.gapSteps n).coder = s.coder ∧
      (s.gapSteps n).edit = s.edit ∧
      (s.gapSteps n).settings = s.settings ∧
      (s.gapSteps n).counters = s.counters ∧
      (s.gapSteps n).cmd = s.cmd ∧
      (s.gapSteps n).mem = s.mem ∧
      (s.gapSteps n).pending = s.pending := by
  induction n generalizing s with
  | zero => simp [State.gapSteps]
  | succ n ih => simp [State.gapSteps, ih]

@[simp] theorem State.gapPushes_frame (n : Nat) (s : State) :
    (s.gapPushes n).bus = s.bus ∧
      (s.gapPushes n).coder = s.coder ∧
      (s.gapPushes n).dec = s.dec ∧
      (s.gapPushes n).mon = s.mon ∧
      (s.gapPushes n).edit = s.edit ∧
      (s.gapPushes n).copy = s.copy ∧
      (s.gapPushes n).settings = s.settings ∧
      (s.gapPushes n).cmd = s.cmd ∧
      (s.gapPushes n).mem = s.mem ∧
      (s.gapPushes n).pending = s.pending := by
  induction n generalizing s with
  | zero => simp [State.gapPushes]
  | succ n ih => simp [State.gapPushes, ih]

@[simp] theorem State.advanceFill_frame (s : State) (b j : Nat) (v : Word) :
    (s.advanceFill b j v).bus.op = s.bus.op ∧
      (s.advanceFill b j v).bus.held = s.bus.held ∧
      (s.advanceFill b j v).bus.waiting = s.bus.waiting ∧
      (s.advanceFill b j v).bus.table = s.bus.table ∧
      (s.advanceFill b j v).bus.valid = s.bus.valid ∧
      (s.advanceFill b j v).coder = s.coder ∧
      (s.advanceFill b j v).dec = s.dec ∧
      (s.advanceFill b j v).mon = s.mon ∧
      (s.advanceFill b j v).edit = s.edit ∧
      (s.advanceFill b j v).copy = s.copy ∧
      (s.advanceFill b j v).settings = s.settings ∧
      (s.advanceFill b j v).counters = s.counters ∧
      (s.advanceFill b j v).cmd = s.cmd ∧
      (s.advanceFill b j v).pending = s.pending := by
  simp [State.advanceFill]

@[simp] theorem State.beginOverrun_frame (s : State) :
    (s.beginOverrun).bus.op = s.bus.op ∧
      (s.beginOverrun).bus.held = s.bus.held ∧
      (s.beginOverrun).bus.waiting = s.bus.waiting ∧
      (s.beginOverrun).bus.table = s.bus.table ∧
      (s.beginOverrun).bus.valid = s.bus.valid ∧
      (s.beginOverrun).coder = s.coder ∧
      (s.beginOverrun).dec = s.dec ∧
      (s.beginOverrun).mon = s.mon ∧
      (s.beginOverrun).edit = s.edit ∧
      (s.beginOverrun).copy = s.copy ∧
      (s.beginOverrun).settings = s.settings ∧
      (s.beginOverrun).cmd = s.cmd ∧
      (s.beginOverrun).mem = s.mem ∧
      (s.beginOverrun).pending = s.pending := by
  simp [State.beginOverrun]

@[simp] theorem State.strayWrite_frame (s : State) :
    (s.strayWrite).bus.op = s.bus.op ∧
      (s.strayWrite).bus.held = s.bus.held ∧
      (s.strayWrite).bus.waiting = s.bus.waiting ∧
      (s.strayWrite).bus.table = s.bus.table ∧
      (s.strayWrite).bus.valid = s.bus.valid ∧
      (s.strayWrite).coder = s.coder ∧
      (s.strayWrite).tape = s.tape ∧
      (s.strayWrite).dec = s.dec ∧
      (s.strayWrite).mon = s.mon ∧
      (s.strayWrite).edit = s.edit ∧
      (s.strayWrite).copy = s.copy ∧
      (s.strayWrite).settings = s.settings ∧
      (s.strayWrite).cmd = s.cmd ∧
      (s.strayWrite).mem = s.mem ∧
      (s.strayWrite).pending = s.pending := by
  simp [State.strayWrite]

@[simp] theorem State.waitWrite_frame (s : State) (gap : Nat) (k b j : Nat) (v : Word) :
    (s.waitWrite gap k b j v).bus.op = s.bus.op ∧
      (s.waitWrite gap k b j v).bus.held = s.bus.held ∧
      (s.waitWrite gap k b j v).bus.waiting = s.bus.waiting ∧
      (s.waitWrite gap k b j v).bus.table = s.bus.table ∧
      (s.waitWrite gap k b j v).bus.valid = s.bus.valid ∧
      (s.waitWrite gap k b j v).coder = s.coder ∧
      (s.waitWrite gap k b j v).edit = s.edit ∧
      (s.waitWrite gap k b j v).settings = s.settings ∧
      (s.waitWrite gap k b j v).cmd = s.cmd ∧
      (s.waitWrite gap k b j v).pending = s.pending := by
  unfold State.waitWrite
  dsimp only
  repeat' split
  all_goals simp

@[simp] theorem State.fillWrite_frame (s : State) (k b j : Nat) (v : Word) :
    (s.fillWrite k b j v).bus.op = s.bus.op ∧
      (s.fillWrite k b j v).bus.held = s.bus.held ∧
      (s.fillWrite k b j v).bus.waiting = s.bus.waiting ∧
      (s.fillWrite k b j v).bus.table = s.bus.table ∧
      (s.fillWrite k b j v).bus.valid = s.bus.valid ∧
      (s.fillWrite k b j v).coder = s.coder ∧
      (s.fillWrite k b j v).dec = s.dec ∧
      (s.fillWrite k b j v).mon = s.mon ∧
      (s.fillWrite k b j v).edit = s.edit ∧
      (s.fillWrite k b j v).copy = s.copy ∧
      (s.fillWrite k b j v).settings = s.settings ∧
      (s.fillWrite k b j v).cmd = s.cmd ∧
      (s.fillWrite k b j v).pending = s.pending := by
  unfold State.fillWrite
  dsimp only
  repeat' split
  all_goals simp

@[simp] theorem State.formatterWrite_frame (s : State) (y : Nat) (v : Word) :
    (s.formatterWrite y v).bus.op = s.bus.op ∧
      (s.formatterWrite y v).bus.held = s.bus.held ∧
      (s.formatterWrite y v).bus.waiting = s.bus.waiting ∧
      (s.formatterWrite y v).bus.table = s.bus.table ∧
      (s.formatterWrite y v).bus.valid = s.bus.valid ∧
      (s.formatterWrite y v).coder = s.coder ∧
      (s.formatterWrite y v).edit = s.edit ∧
      (s.formatterWrite y v).settings = s.settings ∧
      (s.formatterWrite y v).cmd = s.cmd ∧
      (s.formatterWrite y v).pending = s.pending := by
  unfold State.formatterWrite
  split <;> simp

@[simp] theorem State.takeEvaluation_frame (s : State) (k : Fin 4) (rest : List (Fin 4)) :
    (s.takeEvaluation k rest).bus = s.bus ∧
      (s.takeEvaluation k rest).coder = s.coder ∧
      (s.takeEvaluation k rest).dec = s.dec ∧
      (s.takeEvaluation k rest).mon = s.mon ∧
      (s.takeEvaluation k rest).edit = s.edit ∧
      (s.takeEvaluation k rest).copy = s.copy ∧
      (s.takeEvaluation k rest).settings = s.settings ∧
      (s.takeEvaluation k rest).cmd = s.cmd ∧
      (s.takeEvaluation k rest).mem = s.mem ∧
      (s.takeEvaluation k rest).pending = s.pending := by
  simp [State.takeEvaluation]

@[simp] theorem State.loseFrame_frame (s : State) (k : Fin 4) :
    (s.loseFrame k).bus = s.bus ∧
      (s.loseFrame k).coder = s.coder ∧
      (s.loseFrame k).dec = s.dec ∧
      (s.loseFrame k).mon = s.mon ∧
      (s.loseFrame k).edit = s.edit ∧
      (s.loseFrame k).copy = s.copy ∧
      (s.loseFrame k).settings = s.settings ∧
      (s.loseFrame k).cmd = s.cmd ∧
      (s.loseFrame k).mem = s.mem ∧
      (s.loseFrame k).pending = s.pending := by
  simp [State.loseFrame]

@[simp] theorem State.acceptFrame_frame (s : State) (k : Fin 4) :
    (s.acceptFrame k).bus = s.bus ∧
      (s.acceptFrame k).coder = s.coder ∧
      (s.acceptFrame k).dec = s.dec ∧
      (s.acceptFrame k).edit = s.edit ∧
      (s.acceptFrame k).copy = s.copy ∧
      (s.acceptFrame k).settings = s.settings ∧
      (s.acceptFrame k).counters = s.counters ∧
      (s.acceptFrame k).cmd = s.cmd ∧
      (s.acceptFrame k).rep = s.rep ∧
      (s.acceptFrame k).mem = s.mem ∧
      (s.acceptFrame k).pending = s.pending := by
  unfold State.acceptFrame
  dsimp only
  split <;> simp

@[simp] theorem State.settleFrame_frame (s : State) (j : EvalJob) :
    (s.settleFrame j).bus = s.bus ∧
      (s.settleFrame j).coder = s.coder ∧
      (s.settleFrame j).settings = s.settings ∧
      (s.settleFrame j).cmd = s.cmd ∧
      (s.settleFrame j).mem = s.mem ∧
      (s.settleFrame j).pending = s.pending := by
  unfold State.settleFrame
  split <;> simp

@[simp] theorem State.finishEvaluation_frame (s : State) (j : EvalJob) :
    (s.finishEvaluation j).bus = s.bus ∧
      (s.finishEvaluation j).coder = s.coder ∧
      (s.finishEvaluation j).settings = s.settings ∧
      (s.finishEvaluation j).cmd = s.cmd ∧
      (s.finishEvaluation j).mem = s.mem ∧
      (s.finishEvaluation j).pending = s.pending := by
  unfold State.finishEvaluation
  split <;> simp

@[simp] theorem State.playStart_frame (s : State) :
    (s.playStart).1.bus = s.bus ∧
      (s.playStart).1.coder = s.coder ∧
      (s.playStart).1.edit = s.edit ∧
      (s.playStart).1.settings = s.settings ∧
      (s.playStart).1.counters = s.counters ∧
      (s.playStart).1.cmd = s.cmd ∧
      (s.playStart).1.mem = s.mem ∧
      (s.playStart).1.pending = s.pending := by
  unfold State.playStart
  split <;> simp

@[simp] theorem State.playStop_frame (s : State) :
    (s.playStop).1.coder = s.coder ∧
      (s.playStop).1.edit = s.edit ∧
      (s.playStop).1.settings = s.settings ∧
      (s.playStop).1.counters = s.counters ∧
      (s.playStop).1.cmd = s.cmd ∧
      (s.playStop).1.mem = s.mem ∧
      (s.playStop).1.pending = s.pending := by
  unfold State.playStop
  split <;> simp

@[simp] theorem State.resetPlayback_frame (s : State) :
    (s.resetPlayback).coder = s.coder ∧
      (s.resetPlayback).edit = s.edit ∧
      (s.resetPlayback).settings = s.settings ∧
      (s.resetPlayback).counters = s.counters ∧
      (s.resetPlayback).cmd = s.cmd ∧
      (s.resetPlayback).mem = s.mem ∧
      (s.resetPlayback).pending = s.pending := by
  simp [State.resetPlayback]

end Sys2Proof.Machine
end

