-- ==== Sys2Proof/Laws/FrameRecord.lean ====
section
/-! SUPPORT. What each operation of the record coder and the close engine leaves as it stands. -/

namespace Sys2Proof.Machine

@[simp] theorem State.startClose_frame (s : State) (k : Fin 4) :
    (s.startClose k).bus = s.bus ∧
      (s.startClose k).tape = s.tape ∧
      (s.startClose k).dec = s.dec ∧
      (s.startClose k).mon = s.mon ∧
      (s.startClose k).edit = s.edit ∧
      (s.startClose k).copy = s.copy ∧
      (s.startClose k).settings = s.settings ∧
      (s.startClose k).counters = s.counters ∧
      (s.startClose k).cmd = s.cmd ∧
      (s.startClose k).mem = s.mem ∧
      (s.startClose k).pending = s.pending := by
  simp [State.startClose]

@[simp] theorem State.beginClose_frame (s : State) (k : Fin 4) :
    (s.beginClose k).bus = s.bus ∧
      (s.beginClose k).tape = s.tape ∧
      (s.beginClose k).dec = s.dec ∧
      (s.beginClose k).mon = s.mon ∧
      (s.beginClose k).edit = s.edit ∧
      (s.beginClose k).copy = s.copy ∧
      (s.beginClose k).settings = s.settings ∧
      (s.beginClose k).counters = s.counters ∧
      (s.beginClose k).cmd = s.cmd ∧
      (s.beginClose k).mem = s.mem ∧
      (s.beginClose k).pending = s.pending := by
  unfold State.beginClose
  split <;> simp

@[simp] theorem State.leaveHalf_frame (s : State) :
    (s.leaveHalf).bus = s.bus ∧
      (s.leaveHalf).tape = s.tape ∧
      (s.leaveHalf).dec = s.dec ∧
      (s.leaveHalf).mon = s.mon ∧
      (s.leaveHalf).edit = s.edit ∧
      (s.leaveHalf).copy = s.copy ∧
      (s.leaveHalf).settings = s.settings ∧
      (s.leaveHalf).counters = s.counters ∧
      (s.leaveHalf).cmd = s.cmd ∧
      (s.leaveHalf).mem = s.mem ∧
      (s.leaveHalf).pending = s.pending := by
  unfold State.leaveHalf
  split <;> simp

@[simp] theorem State.restJob_frame (s : State) :
    (s.restJob).bus = s.bus ∧
      (s.restJob).tape = s.tape ∧
      (s.restJob).edit = s.edit ∧
      (s.restJob).settings = s.settings ∧
      (s.restJob).counters = s.counters ∧
      (s.restJob).cmd = s.cmd ∧
      (s.restJob).mem = s.mem ∧
      (s.restJob).pending = s.pending := by
  unfold State.restJob
  split <;> simp

@[simp] theorem State.stopJob_frame (s : State) :
    (s.stopJob).bus = s.bus ∧
      (s.stopJob).settings = s.settings ∧
      (s.stopJob).counters = s.counters ∧
      (s.stopJob).cmd = s.cmd ∧
      (s.stopJob).mem = s.mem ∧
      (s.stopJob).pending = s.pending := by
  simp [State.stopJob]

@[simp] theorem State.openFrame_frame (s : State) :
    (s.openFrame).bus = s.bus ∧
      (s.openFrame).dec = s.dec ∧
      (s.openFrame).mon = s.mon ∧
      (s.openFrame).edit = s.edit ∧
      (s.openFrame).settings = s.settings ∧
      (s.openFrame).counters = s.counters ∧
      (s.openFrame).cmd = s.cmd ∧
      (s.openFrame).mem = s.mem ∧
      (s.openFrame).pending = s.pending := by
  simp [State.openFrame]

@[simp] theorem State.bindHalf_frame (s : State) (h : Fin 2) (b : Binding) :
    (s.bindHalf h b).bus = s.bus ∧
      (s.bindHalf h b).tape = s.tape ∧
      (s.bindHalf h b).dec = s.dec ∧
      (s.bindHalf h b).mon = s.mon ∧
      (s.bindHalf h b).edit = s.edit ∧
      (s.bindHalf h b).copy = s.copy ∧
      (s.bindHalf h b).settings = s.settings ∧
      (s.bindHalf h b).counters = s.counters ∧
      (s.bindHalf h b).cmd = s.cmd ∧
      (s.bindHalf h b).rep = s.rep ∧
      (s.bindHalf h b).mem = s.mem ∧
      (s.bindHalf h b).pending = s.pending := by
  simp [State.bindHalf]

@[simp] theorem State.recordOverrun_frame (s : State) :
    (s.recordOverrun).bus = s.bus ∧
      (s.recordOverrun).tape = s.tape ∧
      (s.recordOverrun).dec = s.dec ∧
      (s.recordOverrun).mon = s.mon ∧
      (s.recordOverrun).edit = s.edit ∧
      (s.recordOverrun).copy = s.copy ∧
      (s.recordOverrun).settings = s.settings ∧
      (s.recordOverrun).cmd = s.cmd ∧
      (s.recordOverrun).mem = s.mem ∧
      (s.recordOverrun).pending = s.pending := by
  simp [State.recordOverrun]

@[simp] theorem State.beginFrame_frame (s : State) (h : Fin 2) :
    (s.beginFrame h).bus = s.bus ∧
      (s.beginFrame h).dec = s.dec ∧
      (s.beginFrame h).mon = s.mon ∧
      (s.beginFrame h).edit = s.edit ∧
      (s.beginFrame h).settings = s.settings ∧
      (s.beginFrame h).cmd = s.cmd ∧
      (s.beginFrame h).mem = s.mem ∧
      (s.beginFrame h).pending = s.pending := by
  unfold State.beginFrame
  dsimp only
  repeat' split
  all_goals simp

@[simp] theorem State.fetchOld_frame (s : State) (n : Nat) :
    (s.fetchOld n).bus.op = s.bus.op ∧
      (s.fetchOld n).bus.held = s.bus.held ∧
      (s.fetchOld n).bus.waiting = s.bus.waiting ∧
      (s.fetchOld n).bus.table = s.bus.table ∧
      (s.fetchOld n).bus.valid = s.bus.valid ∧
      (s.fetchOld n).tape = s.tape ∧
      (s.fetchOld n).mon = s.mon ∧
      (s.fetchOld n).edit = s.edit ∧
      (s.fetchOld n).copy = s.copy ∧
      (s.fetchOld n).settings = s.settings ∧
      (s.fetchOld n).cmd = s.cmd ∧
      (s.fetchOld n).mem = s.mem ∧
      (s.fetchOld n).pending = s.pending := by
  simp [State.fetchOld]

@[simp] theorem State.storeWord_frame (s : State) (k : Fin 4) (b p : Nat) (x : Word) :
    (s.storeWord k b p x).bus.op = s.bus.op ∧
      (s.storeWord k b p x).bus.held = s.bus.held ∧
      (s.storeWord k b p x).bus.waiting = s.bus.waiting ∧
      (s.storeWord k b p x).bus.table = s.bus.table ∧
      (s.storeWord k b p x).bus.valid = s.bus.valid ∧
      (s.storeWord k b p x).tape = s.tape ∧
      (s.storeWord k b p x).dec = s.dec ∧
      (s.storeWord k b p x).mon = s.mon ∧
      (s.storeWord k b p x).edit = s.edit ∧
      (s.storeWord k b p x).copy = s.copy ∧
      (s.storeWord k b p x).settings = s.settings ∧
      (s.storeWord k b p x).counters = s.counters ∧
      (s.storeWord k b p x).cmd = s.cmd ∧
      (s.storeWord k b p x).pending = s.pending := by
  simp [State.storeWord]

@[simp] theorem State.settleAndStore_frame (s : State) (k : Fin 4) (n : Nat) (c : Fin 2) (v : Word) :
    (s.settleAndStore k n c v).bus.op = s.bus.op ∧
      (s.settleAndStore k n c v).bus.held = s.bus.held ∧
      (s.settleAndStore k n c v).bus.waiting = s.bus.waiting ∧
      (s.settleAndStore k n c v).bus.table = s.bus.table ∧
      (s.settleAndStore k n c v).bus.valid = s.bus.valid ∧
      (s.settleAndStore k n c v).tape = s.tape ∧
      (s.settleAndStore k n c v).dec = s.dec ∧
      (s.settleAndStore k n c v).mon = s.mon ∧
      (s.settleAndStore k n c v).edit = s.edit ∧
      (s.settleAndStore k n c v).settings = s.settings ∧
      (s.settleAndStore k n c v).cmd = s.cmd ∧
      (s.settleAndStore k n c v).pending = s.pending := by
  unfold State.settleAndStore
  dsimp only
  repeat' split
  all_goals simp

@[simp] theorem State.wordWrite_frame (s : State) (k : Fin 4) (n : Nat) (c : Fin 2) (v : Word) :
    (s.wordWrite k n c v).bus.op = s.bus.op ∧
      (s.wordWrite k n c v).bus.held = s.bus.held ∧
      (s.wordWrite k n c v).bus.waiting = s.bus.waiting ∧
      (s.wordWrite k n c v).bus.table = s.bus.table ∧
      (s.wordWrite k n c v).bus.valid = s.bus.valid ∧
      (s.wordWrite k n c v).tape = s.tape ∧
      (s.wordWrite k n c v).settings = s.settings ∧
      (s.wordWrite k n c v).cmd = s.cmd ∧
      (s.wordWrite k n c v).pending = s.pending := by
  unfold State.wordWrite
  dsimp only
  repeat' split
  all_goals simp

@[simp] theorem State.echoIn_frame (s : State) (c : Fin 2) (v : Word) :
    (s.echoIn c v).bus = s.bus ∧
      (s.echoIn c v).coder = s.coder ∧
      (s.echoIn c v).tape = s.tape ∧
      (s.echoIn c v).dec = s.dec ∧
      (s.echoIn c v).edit = s.edit ∧
      (s.echoIn c v).copy = s.copy ∧
      (s.echoIn c v).settings = s.settings ∧
      (s.echoIn c v).counters = s.counters ∧
      (s.echoIn c v).cmd = s.cmd ∧
      (s.echoIn c v).rep = s.rep ∧
      (s.echoIn c v).mem = s.mem ∧
      (s.echoIn c v).pending = s.pending := by
  simp [State.echoIn]

@[simp] theorem State.hold_frame (s : State) (t : Txn) (k : HoldKind) :
    (s.hold t k).bus.op = s.bus.op ∧
      (s.hold t k).bus.waiting = s.bus.waiting ∧
      (s.hold t k).bus.table = s.bus.table ∧
      (s.hold t k).bus.valid = s.bus.valid ∧
      (s.hold t k).coder = s.coder ∧
      (s.hold t k).tape = s.tape ∧
      (s.hold t k).dec = s.dec ∧
      (s.hold t k).mon = s.mon ∧
      (s.hold t k).edit = s.edit ∧
      (s.hold t k).copy = s.copy ∧
      (s.hold t k).settings = s.settings ∧
      (s.hold t k).counters = s.counters ∧
      (s.hold t k).cmd = s.cmd ∧
      (s.hold t k).rep = s.rep ∧
      (s.hold t k).mem = s.mem ∧
      (s.hold t k).pending = s.pending := by
  simp [State.hold]

@[simp] theorem State.landWrite_frame (s : State) (t : Txn) (h : Fin 2) (n : Nat) (c : Fin 2) (v : Word) :
    (s.landWrite t h n c v).bus.op = s.bus.op ∧
      (s.landWrite t h n c v).bus.waiting = s.bus.waiting ∧
      (s.landWrite t h n c v).bus.table = s.bus.table ∧
      (s.landWrite t h n c v).bus.valid = s.bus.valid ∧
      (s.landWrite t h n c v).tape = s.tape ∧
      (s.landWrite t h n c v).settings = s.settings ∧
      (s.landWrite t h n c v).cmd = s.cmd ∧
      (s.landWrite t h n c v).pending = s.pending := by
  unfold State.landWrite
  repeat' split
  all_goals simp

@[simp] theorem State.rangeEnd_frame (s : State) (c : Fin 2) (v : Word) :
    (s.rangeEnd c v).bus.op = s.bus.op ∧
      (s.rangeEnd c v).bus.held = s.bus.held ∧
      (s.rangeEnd c v).bus.waiting = s.bus.waiting ∧
      (s.rangeEnd c v).bus.table = s.bus.table ∧
      (s.rangeEnd c v).bus.valid = s.bus.valid ∧
      (s.rangeEnd c v).settings = s.settings ∧
      (s.rangeEnd c v).counters = s.counters ∧
      (s.rangeEnd c v).cmd = s.cmd ∧
      (s.rangeEnd c v).mem = s.mem ∧
      (s.rangeEnd c v).pending = s.pending := by
  simp [State.rangeEnd]

@[simp] theorem State.turnover_frame (s : State) (t : Txn) (h : Fin 2) (n : Nat) (c : Fin 2) (v : Word) :
    (s.turnover t h n c v).bus.op = s.bus.op ∧
      (s.turnover t h n c v).bus.waiting = s.bus.waiting ∧
      (s.turnover t h n c v).bus.table = s.bus.table ∧
      (s.turnover t h n c v).bus.valid = s.bus.valid ∧
      (s.turnover t h n c v).settings = s.settings ∧
      (s.turnover t h n c v).cmd = s.cmd ∧
      (s.turnover t h n c v).pending = s.pending := by
  unfold State.turnover
  split <;> simp

@[simp] theorem State.idleWrite_frame (s : State) (c : Fin 2) (v : Word) :
    (s.idleWrite c v).bus.op = s.bus.op ∧
      (s.idleWrite c v).bus.held = s.bus.held ∧
      (s.idleWrite c v).bus.waiting = s.bus.waiting ∧
      (s.idleWrite c v).bus.table = s.bus.table ∧
      (s.idleWrite c v).bus.valid = s.bus.valid ∧
      (s.idleWrite c v).coder = s.coder ∧
      (s.idleWrite c v).tape = s.tape ∧
      (s.idleWrite c v).dec = s.dec ∧
      (s.idleWrite c v).edit = s.edit ∧
      (s.idleWrite c v).copy = s.copy ∧
      (s.idleWrite c v).settings = s.settings ∧
      (s.idleWrite c v).counters = s.counters ∧
      (s.idleWrite c v).cmd = s.cmd ∧
      (s.idleWrite c v).mem = s.mem ∧
      (s.idleWrite c v).pending = s.pending := by
  simp [State.idleWrite]

@[simp] theorem State.recordWrite_frame (s : State) (t : Txn) (o : Nat) (v : Word) :
    (s.recordWrite t o v).bus.op = s.bus.op ∧
      (s.recordWrite t o v).bus.waiting = s.bus.waiting ∧
      (s.recordWrite t o v).bus.table = s.bus.table ∧
      (s.recordWrite t o v).bus.valid = s.bus.valid ∧
      (s.recordWrite t o v).settings = s.settings ∧
      (s.recordWrite t o v).cmd = s.cmd ∧
      (s.recordWrite t o v).pending = s.pending := by
  unfold State.recordWrite
  dsimp only
  repeat' split
  all_goals simp

@[simp] theorem State.recordRead_frame (s : State) (o : Nat) :
    (s.recordRead o).bus.op = s.bus.op ∧
      (s.recordRead o).bus.held = s.bus.held ∧
      (s.recordRead o).bus.waiting = s.bus.waiting ∧
      (s.recordRead o).bus.table = s.bus.table ∧
      (s.recordRead o).bus.valid = s.bus.valid ∧
      (s.recordRead o).coder = s.coder ∧
      (s.recordRead o).tape = s.tape ∧
      (s.recordRead o).dec = s.dec ∧
      (s.recordRead o).mon = s.mon ∧
      (s.recordRead o).edit = s.edit ∧
      (s.recordRead o).copy = s.copy ∧
      (s.recordRead o).settings = s.settings ∧
      (s.recordRead o).counters = s.counters ∧
      (s.recordRead o).cmd = s.cmd ∧
      (s.recordRead o).rep = s.rep ∧
      (s.recordRead o).mem = s.mem ∧
      (s.recordRead o).pending = s.pending := by
  simp [State.recordRead]

@[simp] theorem State.releaseRecord_frame (s : State) (k : Fin 4) :
    (s.releaseRecord k).bus = s.bus ∧
      (s.releaseRecord k).tape = s.tape ∧
      (s.releaseRecord k).dec = s.dec ∧
      (s.releaseRecord k).mon = s.mon ∧
      (s.releaseRecord k).edit = s.edit ∧
      (s.releaseRecord k).copy = s.copy ∧
      (s.releaseRecord k).settings = s.settings ∧
      (s.releaseRecord k).counters = s.counters ∧
      (s.releaseRecord k).cmd = s.cmd ∧
      (s.releaseRecord k).mem = s.mem ∧
      (s.releaseRecord k).pending = s.pending := by
  simp [State.releaseRecord]

@[simp] theorem State.watchRelease_frame (s : State) (y : Nat) :
    (s.watchRelease y).bus = s.bus ∧
      (s.watchRelease y).tape = s.tape ∧
      (s.watchRelease y).dec = s.dec ∧
      (s.watchRelease y).mon = s.mon ∧
      (s.watchRelease y).edit = s.edit ∧
      (s.watchRelease y).copy = s.copy ∧
      (s.watchRelease y).settings = s.settings ∧
      (s.watchRelease y).counters = s.counters ∧
      (s.watchRelease y).cmd = s.cmd ∧
      (s.watchRelease y).mem = s.mem ∧
      (s.watchRelease y).pending = s.pending := by
  unfold State.watchRelease
  repeat' split
  all_goals simp

@[simp] theorem State.setClose_frame (s : State) (j : CloseJob) :
    (s.setClose j).bus = s.bus ∧
      (s.setClose j).tape = s.tape ∧
      (s.setClose j).dec = s.dec ∧
      (s.setClose j).mon = s.mon ∧
      (s.setClose j).edit = s.edit ∧
      (s.setClose j).copy = s.copy ∧
      (s.setClose j).settings = s.settings ∧
      (s.setClose j).counters = s.counters ∧
      (s.setClose j).cmd = s.cmd ∧
      (s.setClose j).rep = s.rep ∧
      (s.setClose j).mem = s.mem ∧
      (s.setClose j).pending = s.pending := by
  simp [State.setClose]

@[simp] theorem State.closeStages_frame (s : State) (j : CloseJob) :
    (s.closeStages j).bus = s.bus ∧
      (s.closeStages j).tape = s.tape ∧
      (s.closeStages j).dec = s.dec ∧
      (s.closeStages j).mon = s.mon ∧
      (s.closeStages j).edit = s.edit ∧
      (s.closeStages j).copy = s.copy ∧
      (s.closeStages j).settings = s.settings ∧
      (s.closeStages j).cmd = s.cmd ∧
      (s.closeStages j).mem = s.mem ∧
      (s.closeStages j).pending = s.pending := by
  unfold State.closeStages
  repeat' split
  all_goals simp

@[simp] theorem State.closeHead_frame (s : State) (j : CloseJob) (st : CopyStatus) :
    (s.closeHead j st).bus = s.bus ∧
      (s.closeHead j st).tape = s.tape ∧
      (s.closeHead j st).dec = s.dec ∧
      (s.closeHead j st).mon = s.mon ∧
      (s.closeHead j st).edit = s.edit ∧
      (s.closeHead j st).copy = s.copy ∧
      (s.closeHead j st).settings = s.settings ∧
      (s.closeHead j st).counters = s.counters ∧
      (s.closeHead j st).cmd = s.cmd ∧
      (s.closeHead j st).rep = s.rep ∧
      (s.closeHead j st).pending = s.pending := by
  unfold State.closeHead
  dsimp only
  repeat' split
  all_goals simp

@[simp] theorem State.closeAccess_frame (s : State) (j : CloseJob) :
    (s.closeAccess j).bus = s.bus ∧
      (s.closeAccess j).tape = s.tape ∧
      (s.closeAccess j).dec = s.dec ∧
      (s.closeAccess j).mon = s.mon ∧
      (s.closeAccess j).edit = s.edit ∧
      (s.closeAccess j).copy = s.copy ∧
      (s.closeAccess j).settings = s.settings ∧
      (s.closeAccess j).cmd = s.cmd ∧
      (s.closeAccess j).pending = s.pending := by
  unfold State.closeAccess
  split <;> simp

@[simp] theorem State.finishClose_frame (s : State) (j : CloseJob) :
    (s.finishClose j).bus = s.bus ∧
      (s.finishClose j).settings = s.settings ∧
      (s.finishClose j).cmd = s.cmd ∧
      (s.finishClose j).mem = s.mem ∧
      (s.finishClose j).pending = s.pending := by
  unfold State.finishClose
  dsimp only
  split <;> simp

@[simp] theorem State.startRecording_frame (s : State) (mode : RecMode) (a : Nat) :
    (s.startRecording mode a).bus = s.bus ∧
      (s.startRecording mode a).tape = s.tape ∧
      (s.startRecording mode a).settings = s.settings ∧
      (s.startRecording mode a).counters = s.counters ∧
      (s.startRecording mode a).cmd = s.cmd ∧
      (s.startRecording mode a).mem = s.mem ∧
      (s.startRecording mode a).pending = s.pending := by
  simp [State.startRecording]

@[simp] theorem State.recordStart_frame (s : State) (mode : BitVec 2) (hi lo : Word) :
    (s.recordStart mode hi lo).1.bus = s.bus ∧
      (s.recordStart mode hi lo).1.tape = s.tape ∧
      (s.recordStart mode hi lo).1.settings = s.settings ∧
      (s.recordStart mode hi lo).1.counters = s.counters ∧
      (s.recordStart mode hi lo).1.cmd = s.cmd ∧
      (s.recordStart mode hi lo).1.mem = s.mem ∧
      (s.recordStart mode hi lo).1.pending = s.pending := by
  unfold State.recordStart
  repeat' split
  all_goals simp

@[simp] theorem State.recordStop_frame (s : State) :
    (s.recordStop).1.bus = s.bus ∧
      (s.recordStop).1.settings = s.settings ∧
      (s.recordStop).1.counters = s.counters ∧
      (s.recordStop).1.cmd = s.cmd ∧
      (s.recordStop).1.mem = s.mem ∧
      (s.recordStop).1.pending = s.pending := by
  unfold State.recordStop
  split <;> simp

@[simp] theorem State.resetRecord_frame (s : State) :
    (s.resetRecord).bus = s.bus ∧
      (s.resetRecord).settings = s.settings ∧
      (s.resetRecord).counters = s.counters ∧
      (s.resetRecord).cmd = s.cmd ∧
      (s.resetRecord).mem = s.mem ∧
      (s.resetRecord).pending = s.pending := by
  simp [State.resetRecord]

end Sys2Proof.Machine
end

