-- ==== Sys2Proof/Laws/FrameControl.lean ====
section
/-! SUPPORT. What each operation of the report unit, the command unit and the bus path leaves as it stands. -/

namespace Sys2Proof.Machine

@[simp] theorem State.passWrite_frame (s : State) (w : RepWrite) :
    (s.passWrite w).bus = s.bus ∧
      (s.passWrite w).coder = s.coder ∧
      (s.passWrite w).tape = s.tape ∧
      (s.passWrite w).dec = s.dec ∧
      (s.passWrite w).mon = s.mon ∧
      (s.passWrite w).edit = s.edit ∧
      (s.passWrite w).copy = s.copy ∧
      (s.passWrite w).settings = s.settings ∧
      (s.passWrite w).counters = s.counters ∧
      (s.passWrite w).cmd = s.cmd ∧
      (s.passWrite w).pending = s.pending := by
  unfold State.passWrite
  split <;> simp

@[simp] theorem State.passAccess_frame (s : State) :
    (s.passAccess).bus = s.bus ∧
      (s.passAccess).coder = s.coder ∧
      (s.passAccess).tape = s.tape ∧
      (s.passAccess).dec = s.dec ∧
      (s.passAccess).mon = s.mon ∧
      (s.passAccess).edit = s.edit ∧
      (s.passAccess).copy = s.copy ∧
      (s.passAccess).settings = s.settings ∧
      (s.passAccess).counters = s.counters ∧
      (s.passAccess).cmd = s.cmd ∧
      (s.passAccess).pending = s.pending := by
  unfold State.passAccess
  split <;> simp

@[simp] theorem State.beginPass_frame (s : State) :
    (s.beginPass).bus = s.bus ∧
      (s.beginPass).coder = s.coder ∧
      (s.beginPass).tape = s.tape ∧
      (s.beginPass).dec = s.dec ∧
      (s.beginPass).mon = s.mon ∧
      (s.beginPass).edit = s.edit ∧
      (s.beginPass).copy = s.copy ∧
      (s.beginPass).settings = s.settings ∧
      (s.beginPass).counters = s.counters ∧
      (s.beginPass).cmd = s.cmd ∧
      (s.beginPass).mem = s.mem ∧
      (s.beginPass).pending = s.pending := by
  simp [State.beginPass]

@[simp] theorem State.endPass_frame (s : State) :
    (s.endPass).bus = s.bus ∧
      (s.endPass).coder = s.coder ∧
      (s.endPass).tape = s.tape ∧
      (s.endPass).dec = s.dec ∧
      (s.endPass).mon = s.mon ∧
      (s.endPass).edit = s.edit ∧
      (s.endPass).copy = s.copy ∧
      (s.endPass).settings = s.settings ∧
      (s.endPass).counters = s.counters ∧
      (s.endPass).cmd = s.cmd ∧
      (s.endPass).mem = s.mem ∧
      (s.endPass).pending = s.pending := by
  simp [State.endPass]

@[simp] theorem State.clearCauses_frame (s : State) (g : Fin 6) (v : Word) :
    (s.clearCauses g v).bus = s.bus ∧
      (s.clearCauses g v).coder = s.coder ∧
      (s.clearCauses g v).tape = s.tape ∧
      (s.clearCauses g v).dec = s.dec ∧
      (s.clearCauses g v).mon = s.mon ∧
      (s.clearCauses g v).edit = s.edit ∧
      (s.clearCauses g v).copy = s.copy ∧
      (s.clearCauses g v).settings = s.settings ∧
      (s.clearCauses g v).counters = s.counters ∧
      (s.clearCauses g v).cmd = s.cmd ∧
      (s.clearCauses g v).mem = s.mem ∧
      (s.clearCauses g v).pending = s.pending := by
  simp [State.clearCauses]

@[simp] theorem State.normCounts_frame (s : State) :
    (s.normCounts).bus.op = s.bus.op ∧
      (s.normCounts).bus.held = s.bus.held ∧
      (s.normCounts).bus.waiting = s.bus.waiting ∧
      (s.normCounts).bus.table = s.bus.table ∧
      (s.normCounts).bus.valid = s.bus.valid ∧
      (s.normCounts).coder = s.coder ∧
      (s.normCounts).tape = s.tape ∧
      (s.normCounts).dec = s.dec ∧
      (s.normCounts).mon = s.mon ∧
      (s.normCounts).edit = s.edit ∧
      (s.normCounts).copy = s.copy ∧
      (s.normCounts).settings = s.settings ∧
      (s.normCounts).counters = s.counters ∧
      (s.normCounts).cmd = s.cmd ∧
      (s.normCounts).rep = s.rep ∧
      (s.normCounts).mem = s.mem ∧
      (s.normCounts).pending = s.pending := by
  simp [State.normCounts]

@[simp] theorem State.countWaits_frame (s : State) (before : State) :
    (s.countWaits before).bus.op = s.bus.op ∧
      (s.countWaits before).bus.held = s.bus.held ∧
      (s.countWaits before).bus.waiting = s.bus.waiting ∧
      (s.countWaits before).bus.table = s.bus.table ∧
      (s.countWaits before).bus.valid = s.bus.valid ∧
      (s.countWaits before).coder = s.coder ∧
      (s.countWaits before).tape = s.tape ∧
      (s.countWaits before).dec = s.dec ∧
      (s.countWaits before).mon = s.mon ∧
      (s.countWaits before).edit = s.edit ∧
      (s.countWaits before).copy = s.copy ∧
      (s.countWaits before).settings = s.settings ∧
      (s.countWaits before).counters = s.counters ∧
      (s.countWaits before).cmd = s.cmd ∧
      (s.countWaits before).rep = s.rep ∧
      (s.countWaits before).mem = s.mem ∧
      (s.countWaits before).pending = s.pending := by
  simp [State.countWaits]

@[simp] theorem State.completeCommand_frame (s : State) (k : CmdKind) (r : Result) :
    (s.completeCommand k r).bus = s.bus ∧
      (s.completeCommand k r).coder = s.coder ∧
      (s.completeCommand k r).tape = s.tape ∧
      (s.completeCommand k r).dec = s.dec ∧
      (s.completeCommand k r).mon = s.mon ∧
      (s.completeCommand k r).edit = s.edit ∧
      (s.completeCommand k r).copy = s.copy ∧
      (s.completeCommand k r).settings = s.settings ∧
      (s.completeCommand k r).counters = s.counters ∧
      (s.completeCommand k r).mem = s.mem ∧
      (s.completeCommand k r).pending = s.pending := by
  simp [State.completeCommand]

@[simp] theorem State.writeResult_frame (s : State) (k : CmdKind) (r : Result) :
    (s.writeResult k r).bus = s.bus ∧
      (s.writeResult k r).coder = s.coder ∧
      (s.writeResult k r).tape = s.tape ∧
      (s.writeResult k r).dec = s.dec ∧
      (s.writeResult k r).mon = s.mon ∧
      (s.writeResult k r).edit = s.edit ∧
      (s.writeResult k r).copy = s.copy ∧
      (s.writeResult k r).settings = s.settings ∧
      (s.writeResult k r).counters = s.counters ∧
      (s.writeResult k r).rep = s.rep ∧
      (s.writeResult k r).pending = s.pending := by
  simp [State.writeResult]

@[simp] theorem State.writeConsumer_frame (s : State) (k : CmdKind) (r : Result) :
    (s.writeConsumer k r).bus = s.bus ∧
      (s.writeConsumer k r).coder = s.coder ∧
      (s.writeConsumer k r).tape = s.tape ∧
      (s.writeConsumer k r).dec = s.dec ∧
      (s.writeConsumer k r).mon = s.mon ∧
      (s.writeConsumer k r).edit = s.edit ∧
      (s.writeConsumer k r).copy = s.copy ∧
      (s.writeConsumer k r).settings = s.settings ∧
      (s.writeConsumer k r).counters = s.counters ∧
      (s.writeConsumer k r).pending = s.pending := by
  simp [State.writeConsumer]

@[simp] theorem State.commandAccess_frame (s : State) :
    (s.commandAccess).bus = s.bus ∧
      (s.commandAccess).coder = s.coder ∧
      (s.commandAccess).tape = s.tape ∧
      (s.commandAccess).dec = s.dec ∧
      (s.commandAccess).mon = s.mon ∧
      (s.commandAccess).edit = s.edit ∧
      (s.commandAccess).copy = s.copy ∧
      (s.commandAccess).settings = s.settings ∧
      (s.commandAccess).counters = s.counters ∧
      (s.commandAccess).pending = s.pending := by
  unfold State.commandAccess
  split <;> simp

@[simp] theorem State.evalAccess_frame (s : State) (j : EvalJob) :
    (s.evalAccess j).bus = s.bus ∧
      (s.evalAccess j).coder = s.coder ∧
      (s.evalAccess j).dec = s.dec ∧
      (s.evalAccess j).mon = s.mon ∧
      (s.evalAccess j).edit = s.edit ∧
      (s.evalAccess j).copy = s.copy ∧
      (s.evalAccess j).settings = s.settings ∧
      (s.evalAccess j).counters = s.counters ∧
      (s.evalAccess j).cmd = s.cmd ∧
      (s.evalAccess j).rep = s.rep ∧
      (s.evalAccess j).pending = s.pending := by
  simp [State.evalAccess]

@[simp] theorem State.engineAccess_frame (s : State) (e : Engine) :
    (s.engineAccess e).bus = s.bus ∧
      (s.engineAccess e).dec = s.dec ∧
      (s.engineAccess e).mon = s.mon ∧
      (s.engineAccess e).edit = s.edit ∧
      (s.engineAccess e).copy = s.copy ∧
      (s.engineAccess e).settings = s.settings ∧
      (s.engineAccess e).pending = s.pending := by
  unfold State.engineAccess
  repeat' split
  all_goals simp

@[simp] theorem State.grant_frame (s : State) (e : Engine) :
    (s.grant e).dec = s.dec ∧
      (s.grant e).mon = s.mon ∧
      (s.grant e).edit = s.edit ∧
      (s.grant e).copy = s.copy ∧
      (s.grant e).settings = s.settings ∧
      (s.grant e).pending = s.pending := by
  simp [State.grant]

@[simp] theorem State.clearSticky_frame (s : State) :
    (s.clearSticky).bus = s.bus ∧
      (s.clearSticky).dec = s.dec ∧
      (s.clearSticky).mon = s.mon ∧
      (s.clearSticky).edit = s.edit ∧
      (s.clearSticky).copy = s.copy ∧
      (s.clearSticky).settings = s.settings ∧
      (s.clearSticky).counters = s.counters ∧
      (s.clearSticky).cmd = s.cmd ∧
      (s.clearSticky).mem = s.mem ∧
      (s.clearSticky).pending = s.pending := by
  simp [State.clearSticky]

@[simp] theorem State.monitorSelect_frame (s : State) (source override : Word) :
    (s.monitorSelect source override).1.bus = s.bus ∧
      (s.monitorSelect source override).1.coder = s.coder ∧
      (s.monitorSelect source override).1.tape = s.tape ∧
      (s.monitorSelect source override).1.edit = s.edit ∧
      (s.monitorSelect source override).1.settings = s.settings ∧
      (s.monitorSelect source override).1.counters = s.counters ∧
      (s.monitorSelect source override).1.cmd = s.cmd ∧
      (s.monitorSelect source override).1.mem = s.mem ∧
      (s.monitorSelect source override).1.pending = s.pending := by
  unfold State.monitorSelect
  repeat' split
  all_goals simp

@[simp] theorem State.settingEffect_frame (s : State) (k : Fin 7) :
    (s.settingEffect k).bus = s.bus ∧
      (s.settingEffect k).coder = s.coder ∧
      (s.settingEffect k).dec = s.dec ∧
      (s.settingEffect k).mon = s.mon ∧
      (s.settingEffect k).edit = s.edit ∧
      (s.settingEffect k).copy = s.copy ∧
      (s.settingEffect k).settings = s.settings ∧
      (s.settingEffect k).cmd = s.cmd ∧
      (s.settingEffect k).mem = s.mem ∧
      (s.settingEffect k).pending = s.pending := by
  unfold State.settingEffect
  repeat' split
  all_goals simp

@[simp] theorem State.captureSetting_frame (s : State) (k : Fin 7) (v : Word) :
    (s.captureSetting k v).bus = s.bus ∧
      (s.captureSetting k v).coder = s.coder ∧
      (s.captureSetting k v).dec = s.dec ∧
      (s.captureSetting k v).mon = s.mon ∧
      (s.captureSetting k v).edit = s.edit ∧
      (s.captureSetting k v).copy = s.copy ∧
      (s.captureSetting k v).cmd = s.cmd ∧
      (s.captureSetting k v).mem = s.mem ∧
      (s.captureSetting k v).pending = s.pending := by
  unfold State.captureSetting
  dsimp only
  repeat' split
  all_goals simp

@[simp] theorem State.captureMask_frame (s : State) (g : Fin 6) (v : Word) :
    (s.captureMask g v).bus = s.bus ∧
      (s.captureMask g v).coder = s.coder ∧
      (s.captureMask g v).tape = s.tape ∧
      (s.captureMask g v).dec = s.dec ∧
      (s.captureMask g v).mon = s.mon ∧
      (s.captureMask g v).edit = s.edit ∧
      (s.captureMask g v).copy = s.copy ∧
      (s.captureMask g v).settings = s.settings ∧
      (s.captureMask g v).counters = s.counters ∧
      (s.captureMask g v).cmd = s.cmd ∧
      (s.captureMask g v).mem = s.mem ∧
      (s.captureMask g v).pending = s.pending := by
  simp [State.captureMask]

@[simp] theorem State.passRead_frame (s : State) (a : BusAddr) :
    (s.passRead a).bus.op = s.bus.op ∧
      (s.passRead a).bus.held = s.bus.held ∧
      (s.passRead a).bus.waiting = s.bus.waiting ∧
      (s.passRead a).bus.table = s.bus.table ∧
      (s.passRead a).bus.valid = s.bus.valid ∧
      (s.passRead a).coder = s.coder ∧
      (s.passRead a).tape = s.tape ∧
      (s.passRead a).dec = s.dec ∧
      (s.passRead a).mon = s.mon ∧
      (s.passRead a).edit = s.edit ∧
      (s.passRead a).copy = s.copy ∧
      (s.passRead a).settings = s.settings ∧
      (s.passRead a).counters = s.counters ∧
      (s.passRead a).cmd = s.cmd ∧
      (s.passRead a).rep = s.rep ∧
      (s.passRead a).mem = s.mem ∧
      (s.passRead a).pending = s.pending := by
  simp [State.passRead]

@[simp] theorem State.passWord_frame (s : State) (a : BusAddr) (v : Word) :
    (s.passWord a v).bus.op = s.bus.op ∧
      (s.passWord a v).bus.held = s.bus.held ∧
      (s.passWord a v).bus.waiting = s.bus.waiting ∧
      (s.passWord a v).bus.table = s.bus.table ∧
      (s.passWord a v).bus.valid = s.bus.valid ∧
      (s.passWord a v).coder = s.coder ∧
      (s.passWord a v).tape = s.tape ∧
      (s.passWord a v).dec = s.dec ∧
      (s.passWord a v).mon = s.mon ∧
      (s.passWord a v).edit = s.edit ∧
      (s.passWord a v).copy = s.copy ∧
      (s.passWord a v).settings = s.settings ∧
      (s.passWord a v).counters = s.counters ∧
      (s.passWord a v).cmd = s.cmd ∧
      (s.passWord a v).rep = s.rep ∧
      (s.passWord a v).pending = s.pending := by
  simp [State.passWord]

@[simp] theorem State.dropWith_frame (s : State) (c : Cause) :
    (s.dropWith c).bus.op = s.bus.op ∧
      (s.dropWith c).bus.held = s.bus.held ∧
      (s.dropWith c).bus.waiting = s.bus.waiting ∧
      (s.dropWith c).bus.table = s.bus.table ∧
      (s.dropWith c).bus.valid = s.bus.valid ∧
      (s.dropWith c).coder = s.coder ∧
      (s.dropWith c).tape = s.tape ∧
      (s.dropWith c).dec = s.dec ∧
      (s.dropWith c).mon = s.mon ∧
      (s.dropWith c).edit = s.edit ∧
      (s.dropWith c).copy = s.copy ∧
      (s.dropWith c).settings = s.settings ∧
      (s.dropWith c).counters = s.counters ∧
      (s.dropWith c).cmd = s.cmd ∧
      (s.dropWith c).mem = s.mem ∧
      (s.dropWith c).pending = s.pending := by
  simp [State.dropWith]

@[simp] theorem State.captureTable_frame (s : State) (k : Fin 4) (v : Word) :
    (s.captureTable k v).bus.op = s.bus.op ∧
      (s.captureTable k v).bus.held = s.bus.held ∧
      (s.captureTable k v).bus.waiting = s.bus.waiting ∧
      (s.captureTable k v).coder = s.coder ∧
      (s.captureTable k v).tape = s.tape ∧
      (s.captureTable k v).dec = s.dec ∧
      (s.captureTable k v).edit = s.edit ∧
      (s.captureTable k v).copy = s.copy ∧
      (s.captureTable k v).settings = s.settings ∧
      (s.captureTable k v).counters = s.counters ∧
      (s.captureTable k v).cmd = s.cmd ∧
      (s.captureTable k v).mem = s.mem ∧
      (s.captureTable k v).pending = s.pending := by
  unfold State.captureTable
  dsimp only
  repeat' split
  all_goals simp

@[simp] theorem State.tableWrite_frame (s : State) (a : BusAddr) (k : Fin 4) (v : Word) :
    (s.tableWrite a k v).bus.op = s.bus.op ∧
      (s.tableWrite a k v).bus.held = s.bus.held ∧
      (s.tableWrite a k v).bus.waiting = s.bus.waiting ∧
      (s.tableWrite a k v).coder = s.coder ∧
      (s.tableWrite a k v).tape = s.tape ∧
      (s.tableWrite a k v).dec = s.dec ∧
      (s.tableWrite a k v).edit = s.edit ∧
      (s.tableWrite a k v).copy = s.copy ∧
      (s.tableWrite a k v).settings = s.settings ∧
      (s.tableWrite a k v).counters = s.counters ∧
      (s.tableWrite a k v).cmd = s.cmd ∧
      (s.tableWrite a k v).pending = s.pending := by
  unfold State.tableWrite
  split <;> simp

@[simp] theorem State.policyWrite_frame (s : State) (a : BusAddr) (k : Fin 21) (v : Word) :
    (s.policyWrite a k v).bus.op = s.bus.op ∧
      (s.policyWrite a k v).bus.held = s.bus.held ∧
      (s.policyWrite a k v).bus.waiting = s.bus.waiting ∧
      (s.policyWrite a k v).bus.table = s.bus.table ∧
      (s.policyWrite a k v).bus.valid = s.bus.valid ∧
      (s.policyWrite a k v).coder = s.coder ∧
      (s.policyWrite a k v).tape = s.tape ∧
      (s.policyWrite a k v).dec = s.dec ∧
      (s.policyWrite a k v).mon = s.mon ∧
      (s.policyWrite a k v).edit = s.edit ∧
      (s.policyWrite a k v).settings = s.settings ∧
      (s.policyWrite a k v).counters = s.counters ∧
      (s.policyWrite a k v).cmd = s.cmd ∧
      (s.policyWrite a k v).pending = s.pending := by
  unfold State.policyWrite
  split <;> simp

@[simp] theorem State.producerWrite_frame (s : State) (a : BusAddr) (v : Word) :
    (s.producerWrite a v).bus.op = s.bus.op ∧
      (s.producerWrite a v).bus.held = s.bus.held ∧
      (s.producerWrite a v).bus.waiting = s.bus.waiting ∧
      (s.producerWrite a v).bus.table = s.bus.table ∧
      (s.producerWrite a v).bus.valid = s.bus.valid ∧
      (s.producerWrite a v).coder = s.coder ∧
      (s.producerWrite a v).tape = s.tape ∧
      (s.producerWrite a v).dec = s.dec ∧
      (s.producerWrite a v).mon = s.mon ∧
      (s.producerWrite a v).edit = s.edit ∧
      (s.producerWrite a v).copy = s.copy ∧
      (s.producerWrite a v).settings = s.settings ∧
      (s.producerWrite a v).counters = s.counters ∧
      (s.producerWrite a v).pending = s.pending := by
  unfold State.producerWrite
  dsimp only
  split <;> simp

@[simp] theorem State.controlWrite_frame (s : State) (a : BusAddr) (v : Word) :
    (s.controlWrite a v).bus.op = s.bus.op ∧
      (s.controlWrite a v).bus.held = s.bus.held ∧
      (s.controlWrite a v).bus.waiting = s.bus.waiting ∧
      (s.controlWrite a v).coder = s.coder ∧
      (s.controlWrite a v).dec = s.dec ∧
      (s.controlWrite a v).edit = s.edit ∧
      (s.controlWrite a v).pending = s.pending := by
  unfold State.controlWrite
  cases controlWord (ctlOffset a) <;> simp

@[simp] theorem State.controlRead_frame (s : State) (a : BusAddr) :
    (s.controlRead a).bus.op = s.bus.op ∧
      (s.controlRead a).bus.held = s.bus.held ∧
      (s.controlRead a).bus.waiting = s.bus.waiting ∧
      (s.controlRead a).bus.table = s.bus.table ∧
      (s.controlRead a).bus.valid = s.bus.valid ∧
      (s.controlRead a).coder = s.coder ∧
      (s.controlRead a).tape = s.tape ∧
      (s.controlRead a).dec = s.dec ∧
      (s.controlRead a).mon = s.mon ∧
      (s.controlRead a).edit = s.edit ∧
      (s.controlRead a).copy = s.copy ∧
      (s.controlRead a).settings = s.settings ∧
      (s.controlRead a).counters = s.counters ∧
      (s.controlRead a).cmd = s.cmd ∧
      (s.controlRead a).mem = s.mem ∧
      (s.controlRead a).pending = s.pending := by
  unfold State.controlRead
  cases controlWord (ctlOffset a) <;> simp

@[simp] theorem State.decodeAnswer_frame (s : State) (f : Option Nat) (n : Nat) (c : Fin 2) :
    (s.decodeAnswer f n c).bus.op = s.bus.op ∧
      (s.decodeAnswer f n c).bus.held = s.bus.held ∧
      (s.decodeAnswer f n c).bus.waiting = s.bus.waiting ∧
      (s.decodeAnswer f n c).bus.table = s.bus.table ∧
      (s.decodeAnswer f n c).bus.valid = s.bus.valid ∧
      (s.decodeAnswer f n c).coder = s.coder ∧
      (s.decodeAnswer f n c).tape = s.tape ∧
      (s.decodeAnswer f n c).mon = s.mon ∧
      (s.decodeAnswer f n c).edit = s.edit ∧
      (s.decodeAnswer f n c).copy = s.copy ∧
      (s.decodeAnswer f n c).settings = s.settings ∧
      (s.decodeAnswer f n c).cmd = s.cmd ∧
      (s.decodeAnswer f n c).mem = s.mem ∧
      (s.decodeAnswer f n c).pending = s.pending := by
  simp [State.decodeAnswer]

@[simp] theorem State.deliver_frame (s : State) (t : Txn) (h : Fin 2) (n : Nat) (c : Fin 2) :
    (s.deliver t h n c).bus.op = s.bus.op ∧
      (s.deliver t h n c).bus.waiting = s.bus.waiting ∧
      (s.deliver t h n c).bus.table = s.bus.table ∧
      (s.deliver t h n c).bus.valid = s.bus.valid ∧
      (s.deliver t h n c).coder = s.coder ∧
      (s.deliver t h n c).tape = s.tape ∧
      (s.deliver t h n c).edit = s.edit ∧
      (s.deliver t h n c).copy = s.copy ∧
      (s.deliver t h n c).settings = s.settings ∧
      (s.deliver t h n c).cmd = s.cmd ∧
      (s.deliver t h n c).mem = s.mem ∧
      (s.deliver t h n c).pending = s.pending := by
  unfold State.deliver
  repeat' split
  all_goals simp

@[simp] theorem State.releaseHalf_frame (s : State) (h : Fin 2) :
    (s.releaseHalf h).bus = s.bus ∧
      (s.releaseHalf h).coder = s.coder ∧
      (s.releaseHalf h).dec = s.dec ∧
      (s.releaseHalf h).edit = s.edit ∧
      (s.releaseHalf h).copy = s.copy ∧
      (s.releaseHalf h).settings = s.settings ∧
      (s.releaseHalf h).counters = s.counters ∧
      (s.releaseHalf h).cmd = s.cmd ∧
      (s.releaseHalf h).mem = s.mem ∧
      (s.releaseHalf h).pending = s.pending := by
  unfold State.releaseHalf
  split <;> simp

@[simp] theorem State.bindTurnover_frame (s : State) (h : Fin 2) :
    (s.bindTurnover h).bus = s.bus ∧
      (s.bindTurnover h).coder = s.coder ∧
      (s.bindTurnover h).tape = s.tape ∧
      (s.bindTurnover h).dec = s.dec ∧
      (s.bindTurnover h).edit = s.edit ∧
      (s.bindTurnover h).settings = s.settings ∧
      (s.bindTurnover h).cmd = s.cmd ∧
      (s.bindTurnover h).mem = s.mem ∧
      (s.bindTurnover h).pending = s.pending := by
  unfold State.bindTurnover
  repeat' split
  all_goals simp

@[simp] theorem State.playbackRead_frame (s : State) (t : Txn) (o : Nat) :
    (s.playbackRead t o).bus.op = s.bus.op ∧
      (s.playbackRead t o).bus.waiting = s.bus.waiting ∧
      (s.playbackRead t o).bus.table = s.bus.table ∧
      (s.playbackRead t o).bus.valid = s.bus.valid ∧
      (s.playbackRead t o).coder = s.coder ∧
      (s.playbackRead t o).edit = s.edit ∧
      (s.playbackRead t o).settings = s.settings ∧
      (s.playbackRead t o).cmd = s.cmd ∧
      (s.playbackRead t o).mem = s.mem ∧
      (s.playbackRead t o).pending = s.pending := by
  unfold State.playbackRead
  dsimp only
  repeat' split
  all_goals simp

@[simp] theorem State.serveWrite_frame (s : State) (t : Txn) :
    (s.serveWrite t).bus.op = s.bus.op ∧
      (s.serveWrite t).bus.waiting = s.bus.waiting ∧
      (s.serveWrite t).pending = s.pending := by
  unfold State.serveWrite
  repeat' split
  all_goals simp

@[simp] theorem State.serveRead_frame (s : State) (t : Txn) :
    (s.serveRead t).bus.op = s.bus.op ∧
      (s.serveRead t).bus.waiting = s.bus.waiting ∧
      (s.serveRead t).bus.table = s.bus.table ∧
      (s.serveRead t).bus.valid = s.bus.valid ∧
      (s.serveRead t).edit = s.edit ∧
      (s.serveRead t).settings = s.settings ∧
      (s.serveRead t).cmd = s.cmd ∧
      (s.serveRead t).mem = s.mem ∧
      (s.serveRead t).pending = s.pending := by
  unfold State.serveRead
  split <;> simp

@[simp] theorem State.serve_frame (s : State) (t : Txn) :
    (s.serve t).bus.op = s.bus.op ∧
      (s.serve t).bus.waiting = s.bus.waiting ∧
      (s.serve t).pending = s.pending := by
  unfold State.serve
  split <;> simp

@[simp] theorem State.freshAccesses_frame (s : State) :
    (s.freshAccesses).bus.op = s.bus.op ∧
      (s.freshAccesses).bus.held = s.bus.held ∧
      (s.freshAccesses).bus.waiting = s.bus.waiting ∧
      (s.freshAccesses).bus.table = s.bus.table ∧
      (s.freshAccesses).bus.valid = s.bus.valid ∧
      (s.freshAccesses).coder = s.coder ∧
      (s.freshAccesses).tape = s.tape ∧
      (s.freshAccesses).dec = s.dec ∧
      (s.freshAccesses).mon = s.mon ∧
      (s.freshAccesses).edit = s.edit ∧
      (s.freshAccesses).copy = s.copy ∧
      (s.freshAccesses).settings = s.settings ∧
      (s.freshAccesses).counters = s.counters ∧
      (s.freshAccesses).cmd = s.cmd ∧
      (s.freshAccesses).rep = s.rep ∧
      (s.freshAccesses).mem = s.mem ∧
      (s.freshAccesses).pending = s.pending := by
  simp [State.freshAccesses]

@[simp] theorem State.tookPort_frame (s : State) (before : State) :
    (s.tookPort before).bus.op = s.bus.op ∧
      (s.tookPort before).bus.held = s.bus.held ∧
      (s.tookPort before).bus.waiting = s.bus.waiting ∧
      (s.tookPort before).bus.table = s.bus.table ∧
      (s.tookPort before).bus.valid = s.bus.valid ∧
      (s.tookPort before).coder = s.coder ∧
      (s.tookPort before).tape = s.tape ∧
      (s.tookPort before).dec = s.dec ∧
      (s.tookPort before).mon = s.mon ∧
      (s.tookPort before).edit = s.edit ∧
      (s.tookPort before).copy = s.copy ∧
      (s.tookPort before).settings = s.settings ∧
      (s.tookPort before).counters = s.counters ∧
      (s.tookPort before).cmd = s.cmd ∧
      (s.tookPort before).rep = s.rep ∧
      (s.tookPort before).mem = s.mem ∧
      (s.tookPort before).pending = s.pending := by
  unfold State.tookPort
  split <;> simp

@[simp] theorem State.service_frame (s : State) (t : Txn) :
    (s.service t).bus.op = s.bus.op ∧
      (s.service t).bus.waiting = s.bus.waiting ∧
      (s.service t).pending = s.pending := by
  simp [State.service]

@[simp] theorem State.assertReset_frame (s : State) :
    (s.assertReset).bus.waiting = s.bus.waiting ∧
      (s.assertReset).mem = s.mem ∧
      (s.assertReset).pending = s.pending := by
  simp [State.assertReset]

@[simp] theorem State.endInit_frame (s : State) :
    (s.endInit).bus.held = s.bus.held ∧
      (s.endInit).bus.waiting = s.bus.waiting ∧
      (s.endInit).bus.table = s.bus.table ∧
      (s.endInit).bus.valid = s.bus.valid := by
  simp [State.endInit]

@[simp] theorem State.finishReads_frame (s : State) :
    (s.finishReads).bus.op = s.bus.op ∧
      (s.finishReads).bus.held = s.bus.held ∧
      (s.finishReads).bus.waiting = s.bus.waiting ∧
      (s.finishReads).bus.table = s.bus.table ∧
      (s.finishReads).bus.valid = s.bus.valid ∧
      (s.finishReads).coder = s.coder ∧
      (s.finishReads).tape = s.tape ∧
      (s.finishReads).dec = s.dec ∧
      (s.finishReads).mon = s.mon ∧
      (s.finishReads).edit = s.edit ∧
      (s.finishReads).copy = s.copy ∧
      (s.finishReads).settings = s.settings ∧
      (s.finishReads).counters = s.counters ∧
      (s.finishReads).cmd = s.cmd ∧
      (s.finishReads).rep = s.rep ∧
      (s.finishReads).mem = s.mem ∧
      (s.finishReads).pending = s.pending := by
  unfold State.finishReads
  split <;> simp

@[simp] theorem State.complete_frame (s : State) (k : CmdKind) (r : Result) (written : Bool) :
    (s.complete k r written).coder = s.coder ∧
      (s.complete k r written).tape = s.tape ∧
      (s.complete k r written).dec = s.dec ∧
      (s.complete k r written).mon = s.mon ∧
      (s.complete k r written).edit = s.edit ∧
      (s.complete k r written).copy = s.copy ∧
      (s.complete k r written).settings = s.settings ∧
      (s.complete k r written).counters = s.counters ∧
      (s.complete k r written).pending = s.pending := by
  unfold State.complete
  split <;> simp

end Sys2Proof.Machine
end

