-- ==== Sys2Proof/Laws/Memory.lean ====
section
/-! SUPPORT. Buffer memory: a read after a write, and the canonical form that every memory operation keeps. -/

namespace Sys2Proof.Machine

/-! ### Read after write -/

theorem Memory.read_of_above {m : Memory} {a : Nat} (h : Memory.wf m = true) (ha : Memory.above (some a) m = true) :
    Memory.read m a = Config.unwrittenWord := by
  induction m with
  | nil => rfl
  | cons x rest ih =>
    obtain ⟨k, w⟩ := x
    simp only [Memory.above, decide_eq_true_eq] at ha
    simp only [Memory.wf, Bool.and_eq_true, decide_eq_true_eq] at h
    rw [Memory.read, if_neg (by omega)]
    refine ih h.2 ?_
    cases rest with
    | nil => rfl
    | cons y _ =>
      obtain ⟨⟨_, h2⟩, _⟩ := h
      simp only [Memory.above, decide_eq_true_eq] at h2 ⊢
      omega

/-- A read of the word just written. -/
theorem Memory.read_write_same {m : Memory} (h : Memory.wf m = true) (a : Nat) (v : Word) :
    Memory.read (Memory.write m a v) a = v := by
  induction m with
  | nil =>
    simp only [Memory.write, Memory.put]
    split
    · simp_all [Memory.read]
    · simp [Memory.read]
  | cons x rest ih =>
    obtain ⟨k, w⟩ := x
    have hw := h
    simp only [Memory.wf, Bool.and_eq_true, decide_eq_true_eq] at h
    simp only [Memory.write]
    split
    · next hlt =>
      simp only [Memory.put]
      split
      · next hv => rw [hv]; exact Memory.read_of_above hw (by simpa [Memory.above] using hlt)
      · simp [Memory.read]
    · split
      · next _ heq =>
        subst heq
        simp only [Memory.put]
        split
        · next hv => rw [hv]; exact Memory.read_of_above h.2 h.1.2
        · simp [Memory.read]
      · next _ hne => rw [Memory.read, if_neg (fun e => hne e.symm)]; exact ih h.2

/-- A read of another word. -/
theorem Memory.read_write_other (m : Memory) {a b : Nat} (v : Word) (hab : b ≠ a) :
    Memory.read (Memory.write m a v) b = Memory.read m b := by
  have hput : ∀ l : Memory, Memory.read (Memory.put a v l) b = Memory.read l b := by
    intro l
    simp only [Memory.put]
    split
    · rfl
    · rw [Memory.read, if_neg (Ne.symm hab)]
  induction m with
  | nil => exact hput []
  | cons x rest ih =>
    obtain ⟨k, w⟩ := x
    simp only [Memory.write]
    split
    · exact hput _
    · split
      · next _ heq => rw [hput, Memory.read, if_neg (by omega)]
      · simp only [Memory.read, ih]

/-! ### The canonical form -/

theorem Memory.above_put {b : Option Nat} {a : Nat} {v : Word} {m : Memory}
    (hb : ∀ k, b = some k → k < a) (hm : Memory.above b m = true) : Memory.above b (Memory.put a v m) = true := by
  simp only [Memory.put]
  split
  · exact hm
  · cases b with
    | none => rfl
    | some k => simpa [Memory.above] using hb k rfl

theorem Memory.above_write {b : Option Nat} {a : Nat} {v : Word} {m : Memory}
    (hb : ∀ k, b = some k → k < a) (hw : Memory.wf m = true) (hm : Memory.above b m = true) :
    Memory.above b (Memory.write m a v) = true := by
  cases m with
  | nil => exact Memory.above_put hb hm
  | cons x rest =>
    obtain ⟨k, w⟩ := x
    simp only [Memory.write]
    split
    · exact Memory.above_put hb hm
    · split
      · refine Memory.above_put hb ?_
        simp only [Memory.wf, Bool.and_eq_true] at hw
        cases rest with
        | nil => rfl
        | cons y _ =>
          cases b with
          | none => rfl
          | some n =>
            have h1 := hw.1.2
            simp only [Memory.above, decide_eq_true_eq] at hm h1 ⊢
            omega
      · exact hm

theorem Memory.wf_put {a : Nat} {v : Word} {m : Memory} (ha : a < Config.memoryWords) (hw : Memory.wf m = true)
    (hm : Memory.above (some a) m = true) : Memory.wf (Memory.put a v m) = true := by
  simp only [Memory.put]
  split
  · exact hw
  · simp_all [Memory.wf]

/-- A write keeps the canonical form. -/
theorem Memory.wf_write {m : Memory} {a : Nat} (v : Word) (ha : a < Config.memoryWords) (hw : Memory.wf m = true) :
    Memory.wf (Memory.write m a v) = true := by
  induction m with
  | nil => exact Memory.wf_put ha rfl rfl
  | cons x rest ih =>
    obtain ⟨k, w⟩ := x
    have h := hw
    simp only [Memory.wf, Bool.and_eq_true, decide_eq_true_eq] at h
    simp only [Memory.write]
    split
    · next hlt => exact Memory.wf_put ha hw (by simpa [Memory.above] using hlt)
    · split
      · next _ heq => subst heq; exact Memory.wf_put ha h.2 h.1.2
      · next h1 h2 =>
        simp only [Memory.wf, Bool.and_eq_true, decide_eq_true_eq]
        exact ⟨⟨h.1.1, Memory.above_write (fun n hn => by cases hn; omega) h.2 h.1.2⟩, ih h.2⟩

/-- A list of writes keeps the canonical form. -/
theorem Memory.wf_writeAll {ws : List (Nat × Word)} {m : Memory} (ha : ∀ x ∈ ws, x.1 < Config.memoryWords)
    (hw : Memory.wf m = true) : Memory.wf (Memory.writeAll m ws) = true := by
  induction ws generalizing m with
  | nil => exact hw
  | cons x rest ih =>
    exact ih (fun y hy => ha y (List.mem_cons_of_mem x hy)) (Memory.wf_write x.2 (ha x List.mem_cons_self) hw)

theorem Memory.wf_filter {m : Memory} (p : Nat × Word → Bool) (hw : Memory.wf m = true) :
    Memory.wf (m.filter p) = true ∧ ∀ b, Memory.above b m = true → Memory.above b (m.filter p) = true := by
  induction m with
  | nil => exact ⟨rfl, fun _ h => h⟩
  | cons x rest ih =>
    obtain ⟨k, w⟩ := x
    have h := hw
    simp only [Memory.wf, Bool.and_eq_true, decide_eq_true_eq] at h
    obtain ⟨i1, i2⟩ := ih h.2
    have i3 := i2 (some k) h.1.2
    rw [List.filter_cons]
    split
    · refine ⟨by simp only [Memory.wf, Bool.and_eq_true, decide_eq_true_eq]; exact ⟨⟨h.1.1, i3⟩, i1⟩, fun b hb => hb⟩
    · refine ⟨i1, fun b hb => ?_⟩
      cases b with
      | none => cases hf : rest.filter p <;> rfl
      | some n =>
        simp only [Memory.above, decide_eq_true_eq] at hb
        cases hf : rest.filter p with
        | nil => rfl
        | cons y _ =>
          rw [hf] at i3
          simp only [Memory.above, decide_eq_true_eq] at i3 ⊢
          omega

/-- The addresses that INIT writes lie in the control area (R173). -/
theorem initWords_below : ∀ x ∈ initWords, x.1 < Config.controlWords := by decide +kernel

/-- INIT keeps the canonical form. -/
theorem Memory.wf_init {m : Memory} (hw : Memory.wf m = true) : Memory.wf m.init = true := by
  refine Memory.wf_writeAll ?_ (Memory.wf_filter _ hw).1
  intro x hx
  obtain ⟨y, hy, rfl⟩ := List.mem_map.mp hx
  have := initWords_below y hy
  simp only [ctlAddr, Config.controlBase, Config.memoryWords, Config.controlWords] at *
  omega

/-! ### Reads and writes of State -/

theorem State.peek_poke_same (s : State) (h : Memory.wf s.mem = true) (a : Nat) (v : Word) : (s.poke a v).peek a = v :=
  Memory.read_write_same h _ v

theorem State.peek_poke_other (s : State) {a b : Nat} (v : Word)
    (h : b % Config.memoryWords ≠ a % Config.memoryWords) : (s.poke a v).peek b = s.peek b :=
  Memory.read_write_other s.mem v h

/-- A write of buffer memory keeps the canonical form. -/
theorem State.wf_poke (s : State) (h : Memory.wf s.mem = true) (a : Nat) (v : Word) : Memory.wf (s.poke a v).mem = true :=
  Memory.wf_write v (Nat.mod_lt _ (by decide)) h

end Sys2Proof.Machine
end

