-- ==== Sys2Proof/Laws/Port.lean ====
section
/-! SUPPORT. The bus path around a service: what settling does where no transaction is held, and how a transaction that
finds the port free is served. -/

namespace Sys2Proof.Machine

/-- The wait counts' normal form once taken is kept. -/
theorem State.normCounts_idem (s : State) : s.normCounts.normCounts = s.normCounts := by
  have h : ∀ (p : Bool) (n : Nat), (if p then (if p then n else 0) else 0) = if p then n else 0 := by
    intro p n; cases p <;> rfl
  simp only [State.normCounts, State.modBus]
  congr 2
  simp only [WaitCounts.mk.injEq]
  exact ⟨h _ _, h _ _, h _ _⟩

theorem State.drain_nil (s : State) (h : s.bus.waiting = []) : s.drain [] = s := by
  obtain ⟨⟨_, _, _, _, _, _, _, _, _⟩, _, _, _, _, _, _, _, _, _, _, _, _⟩ := s
  simp_all [State.drain, State.modBus]

/-- What follows an event that leaves no transaction held and none waiting: the counts of the engines that do not wait
return to 0 (R154). -/
theorem State.settle_noneHeld (s : State) (h : s.noneHeld) : s.settle = s.normCounts := by
  obtain ⟨h1, h2⟩ := h
  have e1 : s.normCounts.release = s.normCounts := by simp [State.release, h1]
  simp only [State.settle, e1, State.normCounts_idem]
  rw [if_neg (by simp [h1]), State.normCounts_frame s |>.2.2.1, h2, State.drain_nil _ (by simp [h2])]

/-- What follows an event that leaves a transaction held which is not ready (R152). -/
theorem State.settle_held (s : State) (x : Held) (h : s.bus.held = some x) (hr : s.normCounts.ready x = false) :
    s.settle = s.normCounts := by
  have e1 : s.normCounts.release = s.normCounts := by simp [State.release, h, hr]
  simp only [State.settle, e1, State.normCounts_idem]
  rw [if_pos (by simp [h])]

/-- A transaction that finds the port free is taken into service (R153). -/
theorem State.arrive_portFree (s : State) (h : s.portFree) (t : Txn) : s.arrive t = s.service t := by
  obtain ⟨h1, h2, _, h4⟩ := h
  simp [State.arrive, h1, h2, h4]

/-- Clearing the access count moves no region and no offset. -/
theorem State.freshAccesses_region (s : State) (k : Fin 4) (a : Nat) :
    s.freshAccesses.bus.regionOf a = s.bus.regionOf a ∧ s.freshAccesses.bus.offset k a = s.bus.offset k a := ⟨rfl, rfl⟩

/-- A service that holds nothing, and what follows it (R153, R154). -/
theorem State.service_settled (s : State) (h : s.portFree) (t : Txn)
    (hs : (s.freshAccesses.serve t).bus.held = none) :
    (s.arrive t).settle = ((s.freshAccesses.serve t).countWaits s).normCounts := by
  have e : s.arrive t = (s.freshAccesses.serve t).countWaits s := by
    rw [s.arrive_portFree h]
    simp [State.service, State.tookPort, hs]
  rw [e, State.settle_noneHeld]
  refine ⟨by simpa using hs, ?_⟩
  simpa using h.2.2.1

end Sys2Proof.Machine
end

