-- ==== Sys2Proof/Laws/Commands.lean ====
section
/-! SUPPORT. A ring command whose taking is next: what exec answers, from what the command's owner does. -/

namespace Sys2Proof.Machine

/-- A command about to be taken is the due one. -/
theorem State.dueCommand_aboutToTake (s : State) (i : Instr) (h : s.aboutToTake i) : s.dueCommand = some i := by
  obtain ⟨h1, h2, _⟩ := h
  simp [State.dueCommand, h1, h2]

/-- A command about to be taken has no entry read left to grant. -/
theorem State.finishReads_aboutToTake (s : State) (i : Instr) (h : s.aboutToTake i) : s.finishReads = s := by
  simp [State.finishReads, h.2.1]

/-- A command about to be taken, whose owner leaves no transaction held: what it does is its taking, and the counts of the
engines that do not wait return to 0 (R154, R159). -/
theorem State.command_aboutToTake (s : State) (i : Instr) (k : CmdKind) (owner : State → State × Result)
    (h : s.aboutToTake i) (hh : (s.take k owner).noneHeld) :
    s.command i k owner = (s.take k owner).normCounts := by
  rw [State.command, if_pos (s.dueCommand_aboutToTake i h), s.finishReads_aboutToTake i h, State.settle_noneHeld _ hh]

/-- What a taking makes of each part: the owner's, but for the marks it keeps and the command unit's phase (R168). -/
@[simp] theorem State.take_parts (s : State) (k : CmdKind) (owner : State → State × Result) :
    let x := owner (s.modRep ReportUnit.unmarked)
    (s.take k owner).bus = x.1.bus ∧ (s.take k owner).coder = x.1.coder ∧ (s.take k owner).tape = x.1.tape ∧
      (s.take k owner).dec = x.1.dec ∧ (s.take k owner).mon = x.1.mon ∧ (s.take k owner).edit = x.1.edit ∧
      (s.take k owner).copy = x.1.copy ∧ (s.take k owner).settings = x.1.settings ∧
      (s.take k owner).counters = x.1.counters ∧ (s.take k owner).mem = x.1.mem ∧
      (s.take k owner).pending = x.1.pending ∧
      (s.take k owner).rep = { x.1.rep with marks := x.1.rep.marks.union s.rep.marks } ∧
      (s.take k owner).cmd =
        { x.1.cmd with phase := if x.1.rep.touched s.rep then .waitPass k x.2 else .due k x.2 } :=
  ⟨rfl, rfl, rfl, rfl, rfl, rfl, rfl, rfl, rfl, rfl, rfl, rfl, rfl⟩

/-- An owner that has no effect but its result leaves its command's completion due at once (R160, R168). -/
theorem State.take_noEffect (s : State) (k : CmdKind) (r : Result) :
    s.take k (fun x => (x, r)) = s.modCmd fun c => c.takenQuiet k r := by
  obtain ⟨bus, coder, tape, dec, mon, edit, copy, settings, counters, cmd, rep, mem, pending⟩ := s
  cases rep
  simp [State.take, State.modRep, State.modCmd, ReportUnit.unmarked, ReportUnit.touched, Marks.any, Marks.clear,
    Marks.union, CommandUnit.takenQuiet]

end Sys2Proof.Machine
end

