-- ==== Sys2Proof/Laws/RateTest.lean ====
section
/-! SUPPORT. What a rate mismatch does to a MIX request, said once (R61, R62, R128). -/

namespace Sys2Proof.Machine

/-- A MONITOR request makes no rate test (R62). -/
@[simp] theorem Assembler.rateClash_none (t : Assembler) (f : Option Nat) : t.rateClash none f = false := by
  unfold Assembler.rateClash
  split <;> rfl

/-- Without a rate test the service looks at the next word where R68 calls for it. -/
@[simp] theorem Assembler.looksAhead_none (t : Assembler) (x : Ctx) (own : WordClass) (f : Option Nat) :
    t.looksAhead x own none f = x.examines own := by
  simp [Assembler.looksAhead]

/-- A word of a slot of another rate is UNRECOVERABLE (R61 step 2). -/
theorem Assembler.classify_rateClash {t : Assembler} {rate f : Option Nat} (h : t.rateClash rate f = true) (n c : Nat) :
    t.classify rate f n c = .lost := by
  unfold Assembler.rateClash at h
  unfold Assembler.classify
  split at h
  · cases h
  · exact if_pos h

/-- Such a word's next word is not looked at (R128). -/
theorem Assembler.classifyNext_rateClash {t : Assembler} {rate f : Option Nat} (h : t.rateClash rate f = true) (x : Ctx)
    (own : WordClass) (n c : Nat) : t.classifyNext x own rate f n c = .lost := by
  simp [Assembler.classifyNext, Assembler.looksAhead, h]

/-- A lost word with no next word to bridge to is held or decayed (R69, R70). -/
theorem Ctx.deliver_lost (x : Ctx) (limit : Nat) :
    (x.deliver limit none none).kind = .held ∨ (x.deliver limit none none).kind = .decayed := by
  unfold Ctx.deliver
  cases x.mode <;> simp only [true_or, or_true] <;> split <;> simp

/-- A held or decayed delivery leaves the source status as it stood (R128). -/
theorem sourceAfter_concealed {kind : DeliveryKind} (h : kind = .held ∨ kind = .decayed) (t : Assembler) (b : CopyStatus)
    (own next : WordClass) : sourceAfter t b kind own next = b := by
  rcases h with rfl | rfl <;> rfl

/-- A word that a rate mismatch makes unrecoverable is held or decayed, and keeps its source status (R128). -/
theorem State.rateClash_held {s : State} {rate f : Option Nat} (h : s.tape.rateClash rate f = true) (x : Ctx) (b : CopyStatus)
    (limit n c : Nat) :
    let own := s.tape.classify rate f n c
    let next := s.tape.classifyNext x own rate f n c
    let d := x.deliver limit (s.classValue own) (s.classValue next)
    (d.kind = .held ∨ d.kind = .decayed) ∧ sourceAfter s.tape b d.kind own next = b := by
  intro own next d
  have hd : d = x.deliver limit none none := by
    simp [d, next, own, Assembler.classify_rateClash h, Assembler.classifyNext_rateClash h, State.classValue]
  exact ⟨hd ▸ x.deliver_lost limit, sourceAfter_concealed (hd ▸ x.deliver_lost limit) _ _ _ _⟩

end Sys2Proof.Machine
end

