-- ==== Sys2Proof/Laws/ReturnTest.lean ====
section
/-! SUPPORT. The return test, the outcome records it leaves, and the arming of the head after it, said once (R104, R113). -/

namespace Sys2Proof.Machine

/-- Setting the outcome records of a list of handles to a state changes those records' states and nothing else (R95). -/
theorem EditEngine.finish_eq (hs : List (Fin 8)) (st : OutcomeState) (e : EditEngine) :
    e.finish hs st = { e with outcomes := Vector.ofFn fun h : Fin 8 =>
      if h ∈ hs then { e.outcomes[h] with state := st } else e.outcomes[h] } := by
  induction hs generalizing e with
  | nil => simp [EditEngine.finish]
  | cons k ks ih =>
    have h : e.finish (k :: ks) st = (e.setOutcome k st).finish ks st := rfl
    rw [h, ih]
    congr 1
    ext i hi
    simp only [EditEngine.setOutcome, vmod, vset, Vector.getElem_ofFn, List.mem_cons, Fin.getElem_fin, Vector.getElem_set]
    by_cases hk : k.val = i
    · subst hk; simp
    · have : (⟨i, hi⟩ : Fin 8) ≠ k := fun e => hk (by rw [← e])
      simp [hk, this]

/-- The return test leaves the list that R113 leaves, and misses the entries that it misses. -/
theorem returnTest_of_split (p : Option Nat) : ∀ l gone kept : List Entry, returnSplit p l gone kept →
    returnTest p l = (kept, gone.map Entry.handle)
  | _, [], kept, ⟨rfl, _, _, hk⟩ => by
    match kept with
    | [] => rfl
    | [x] =>
      have : x.passed p = false := by
        cases p with
        | none => rfl
        | some q => have := hk x q rfl rfl; simp [Entry.passed]; omega
      simp [returnTest, this]
    | x :: y :: r =>
      have : x.passed p = false := by
        cases p with
        | none => rfl
        | some q => have := hk x q rfl rfl; simp [Entry.passed]; omega
      simp [returnTest, this]
  | _, [x], kept, ⟨rfl, h2, h3, _⟩ => by
    obtain ⟨q, rfl, hq⟩ := h3 0 x rfl
    obtain rfl : kept = [] := by simpa using h2
    simp [returnTest, Entry.passed, hq]
  | _, x :: y :: gone, kept, ⟨rfl, h2, h3, h4⟩ => by
    obtain ⟨q, rfl, hq⟩ := h3 0 x rfl
    have ih := returnTest_of_split (some q) (gone ++ kept) gone kept
      ⟨rfl, h2.imp (fun h => by simp only [List.length_cons] at h; omega) id, fun n z hz => h3 (n + 1) z (by simpa [show 2 * (n + 1) = 2 * n + 1 + 1 by omega] using hz), h4⟩
    simp [returnTest, Entry.passed, hq, ih]

/-- The outcome records after the missed handles are finished are those of `missedRecords` (R113). -/
theorem EditEngine.finish_missed (gone : List Entry) (e : EditEngine) :
    e.finish (gone.map Entry.handle) .missed = { e with outcomes := missedRecords gone e.outcomes } := by
  rw [EditEngine.finish_eq, missedRecords]
  congr 2
  funext h
  simp

/-- Nothing is armed where a condition of R104 fails; a pending return test stays pending (R113). -/
theorem State.armHead_of_not (s : State) (h : s.edit.canArm = false) : s.armHead = s := by
  simp [State.armHead, h]

/-- With no return test pending the head is armed (R104). -/
theorem State.armHead_clear (s : State) (h : s.edit.canArm = true) (hr : s.edit.returnTest = false) :
    s.armHead = (s.modEdit EditEngine.armTop).markEdit := by
  simp [State.armHead, h, State.applyReturnTest, hr]

/-- With a return test pending the head that it leaves, if any, is armed, and MISSED is raised where it misses entries
(R104, R113). -/
theorem State.armHead_split (s : State) (gone kept : List Entry) (h : s.edit.canArm = true) (hr : s.edit.returnTest = true)
    (hs : returnSplit s.coder.position s.edit.list gone kept) :
    s.armHead = ((if gone = [] then s else s.markEdit.raise .missed).modEdit fun e =>
      EditEngine.armTop
        { e with list := kept, returnTest := false, outcomes := missedRecords gone e.outcomes }).markEdit := by
  simp only [State.armHead, h, if_true, State.applyReturnTest, hr, returnTest_of_split _ _ _ _ hs]
  by_cases hg : gone = []
  · subst hg
    simp [State.modEdit, State.markEdit, State.modRep, EditEngine.finish, missedRecords]
  · simp [hg, EditEngine.finish_missed, State.modEdit, State.markEdit, State.modRep, State.raise]

/-- The head of a list armed: its state and its outcome record ARMED, and the comparator its own (R104). -/
theorem EditEngine.armTop_cons (e : EditEngine) (x : Entry) (rest : List Entry) (h : e.list = x :: rest) :
    e.armTop = { e with
      list := { x with state := .armed } :: rest, owner := .waitL1, entry := some x.handle, deadline := none,
      prevTrig := none, outcomes := vset e.outcomes x.handle { e.outcomes[x.handle] with state := .armed } } := by
  simp only [EditEngine.armTop, h, EditEngine.setHead, EditEngine.setOutcome, EntryState.outcome]
  rfl

/-- Of an entry's outcome record, the return test changes at most the state (R113). -/
theorem missedRecords_withState (gone : List Entry) (o : Vector OutcomeRec 8) (h : Fin 8) (st : OutcomeState) :
    { (missedRecords gone o)[h] with state := st } = { o[h] with state := st } := by
  simp only [missedRecords, Fin.getElem_fin, Vector.getElem_ofFn]
  split <;> rfl

end Sys2Proof.Machine
end

