-- ==== Sys2Proof/Laws/Sound.lean ====
section
/-! SUPPORT. The laws of every state (`State.Sound`) under each operation. Each lemma has the law of the state before as its
hypothesis, which simp discharges, so that an operation's lemma follows from those of the operations it is made of. -/

namespace Sys2Proof.Machine

/-! ### What the laws depend on -/

theorem State.Sound.of_agree {s t : State} (h : s.Sound) (h1 : t.mem = s.mem) (h2 : t.cmd = s.cmd)
    (h3 : t.counters = s.counters) (h4 : t.settings = s.settings) (h5 : t.bus.counts = s.bus.counts)
    (h6 : t.mon.pattern = s.mon.pattern) : t.Sound :=
  ⟨h1 ▸ h.mem, h2 ▸ h.ring, h3 ▸ h.counters, h4 ▸ h.settings, h5 ▸ h.waits, h6 ▸ h.pattern⟩

@[simp] theorem State.sound_modBus {s : State} {f : BusPath → BusPath} (h : s.Sound)
    (hf : ∀ b, (f b).counts = b.counts) : (s.modBus f).Sound := h.of_agree rfl rfl rfl rfl (hf _) rfl
@[simp] theorem State.sound_modCoder {s : State} {f : RecordCoder → RecordCoder} (h : s.Sound) : (s.modCoder f).Sound :=
  h.of_agree rfl rfl rfl rfl rfl rfl
@[simp] theorem State.sound_modTape {s : State} {f : Assembler → Assembler} (h : s.Sound) : (s.modTape f).Sound :=
  h.of_agree rfl rfl rfl rfl rfl rfl
@[simp] theorem State.sound_modDec {s : State} {f : DecodeService → DecodeService} (h : s.Sound) : (s.modDec f).Sound :=
  h.of_agree rfl rfl rfl rfl rfl rfl
@[simp] theorem State.sound_modEdit {s : State} {f : EditEngine → EditEngine} (h : s.Sound) : (s.modEdit f).Sound :=
  h.of_agree rfl rfl rfl rfl rfl rfl
@[simp] theorem State.sound_modCopy {s : State} {f : CopyControl → CopyControl} (h : s.Sound) : (s.modCopy f).Sound :=
  h.of_agree rfl rfl rfl rfl rfl rfl
@[simp] theorem State.sound_modRep {s : State} {f : ReportUnit → ReportUnit} (h : s.Sound) : (s.modRep f).Sound :=
  h.of_agree rfl rfl rfl rfl rfl rfl
@[simp] theorem State.sound_modRecSlot {s : State} {k : Fin 4} {f : RecSlot → RecSlot} (h : s.Sound) :
    (s.modRecSlot k f).Sound := h.of_agree rfl rfl rfl rfl rfl rfl
@[simp] theorem State.sound_modTapeSlot {s : State} {k : Fin 4} {f : TapeSlot → TapeSlot} (h : s.Sound) :
    (s.modTapeSlot k f).Sound := h.of_agree rfl rfl rfl rfl rfl rfl
@[simp] theorem State.sound_modMon {s : State} {f : Monitor → Monitor} (h : s.Sound)
    (hf : ∀ m, (f m).pattern = m.pattern) : (s.modMon f).Sound := h.of_agree rfl rfl rfl rfl rfl (hf _)
@[simp] theorem State.sound_unbind {s : State} (h : s.Sound) : (s.modMon Monitor.unbind).Sound :=
  h.of_agree rfl rfl rfl rfl rfl rfl
@[simp] theorem State.sound_abandonReads {s : State} (h : s.Sound) : (s.modBus BusPath.abandonReads).Sound :=
  h.of_agree rfl rfl rfl rfl rfl rfl
theorem State.sound_setCounts {s : State} {f : BusPath → BusPath} (h : s.Sound) (hf : (f s.bus).counts.sound) :
    (s.modBus f).Sound := ⟨h.mem, h.ring, h.counters, h.settings, hf, h.pattern⟩
theorem State.sound_setPattern {s : State} {f : Monitor → Monitor} (h : s.Sound) (hf : (f s.mon).pattern ≠ 0) :
    (s.modMon f).Sound := ⟨h.mem, h.ring, h.counters, h.settings, h.waits, hf⟩
theorem State.sound_modCmd {s : State} {f : CommandUnit → CommandUnit} (h : s.Sound) (hf : (f s.cmd).sound) :
    (s.modCmd f).Sound := ⟨h.mem, hf, h.counters, h.settings, h.waits, h.pattern⟩

theorem State.sound_modMem {s : State} {f : Memory → Memory} (h : s.Sound) (hf : (f s.mem).wf = true) :
    (s.modMem f).Sound := ⟨hf, h.ring, h.counters, h.settings, h.waits, h.pattern⟩

/-- The end of INIT keeps the laws (R173). -/
theorem State.sound_endInit {s : State} (h : s.Sound) : s.endInit.Sound :=
  State.sound_modBus (State.sound_modMem h (Memory.wf_init h.mem)) (fun _ => rfl)

/-! ### The operations that change what the laws speak of -/

@[simp] theorem State.sound_poke {s : State} {a : Nat} {v : Word} (h : s.Sound) : (s.poke a v).Sound :=
  ⟨s.wf_poke h.mem a v, h.ring, h.counters, h.settings, h.waits, h.pattern⟩

theorem countersSound_of {v u : Vector Nat 17} (h : ∀ i : Fin 17, v[i] ≤ Config.counterMax → u[i] ≤ Config.counterMax)
    (hv : countersSound v) : countersSound u := fun c => h c.index (hv c)

@[simp] theorem State.sound_count {s : State} {c : Counter} {n : Nat} (h : s.Sound) : (s.count c n).Sound := by
  unfold State.count
  split
  · exact h
  · refine ⟨h.mem, h.ring, ?_, h.settings, h.waits, h.pattern⟩
    refine countersSound_of (fun i hi => ?_) h.counters
    simp only [State.markCounters, State.modRep_counters, State.modCounters_counters, vmod, vset, Fin.getElem_fin]
    rw [Vector.getElem_set]
    split
    · exact Nat.min_le_left _ _
    · exact hi

@[simp] theorem State.sound_zeroCounters {s : State} (h : s.Sound) : s.zeroCounters.Sound := by
  refine ⟨h.mem, h.ring, fun c => ?_, h.settings, h.waits, h.pattern⟩
  simp [State.zeroCounters, State.markCounters]

@[simp] theorem State.sound_normCounts {s : State} (h : s.Sound) : s.normCounts.Sound := by
  refine ⟨h.mem, h.ring, h.counters, h.settings, ?_, h.pattern⟩
  obtain ⟨h1, h2, h3⟩ := h.waits
  simp only [State.normCounts, State.modBus_bus, WaitCounts.sound]
  refine ⟨?_, ?_, ?_⟩ <;> split <;> omega

@[simp] theorem State.sound_countWaits {s b : State} (h : s.Sound) : (s.countWaits b).Sound := by
  refine ⟨h.mem, h.ring, h.counters, h.settings, ?_, h.pattern⟩
  obtain ⟨h1, h2, h3⟩ := h.waits
  simp only [State.countWaits, State.modBus_bus, WaitCounts.sound]
  refine ⟨?_, ?_, ?_⟩ <;> split <;> omega

@[simp] theorem WaitCounts.sound_put {w : WaitCounts} {e : Engine} (h : w.sound) : (w.put e 0).sound := by
  obtain ⟨h1, h2, h3⟩ := h
  cases e <;> simp_all [WaitCounts.put, WaitCounts.sound]

/-- A non-zero pattern register steps to a non-zero one (R92). -/
theorem patternNext_ne_zero : ∀ r : BitVec 15, r ≠ 0 → patternNext r ≠ 0 := by
  intro r hr h
  have hlt := r.isLt
  have h0 : r.toNat ≠ 0 := fun e => hr (BitVec.eq_of_toNat_eq e)
  have h1 := congrArg BitVec.toNat h
  simp only [patternNext, BitVec.toNat_ofNat] at h1
  change _ = 0 at h1
  split at h1
  · omega
  · next hx =>
    have h2 : r.toNat = 16384 := by omega
    exact hx (by simp only [BitVec.getLsbD, h2]; decide)

theorem settingValue_range (k : Fin 7) (now n : Nat) (h : (settingRange k).1 ≤ now ∧ now ≤ (settingRange k).2) :
    (settingRange k).1 ≤ settingValue k now n ∧ settingValue k now n ≤ (settingRange k).2 := by
  have hk := le_trans h.1 h.2
  unfold settingValue
  split
  · next ho => simpa [settingOk] using ho
  · split
    · exact h
    · omega

theorem Settings.get_put (x : Settings) (k j : Fin 7) (n : Nat) : (x.put k n).get j = if j = k then n else x.get j := by
  match k, j with
  | 0, 0 | 0, 1 | 0, 2 | 0, 3 | 0, 4 | 0, 5 | 0, 6 | 1, 0 | 1, 1 | 1, 2 | 1, 3 | 1, 4 | 1, 5 | 1, 6 | 2, 0 | 2, 1 | 2, 2
  | 2, 3 | 2, 4 | 2, 5 | 2, 6 | 3, 0 | 3, 1 | 3, 2 | 3, 3 | 3, 4 | 3, 5 | 3, 6 | 4, 0 | 4, 1 | 4, 2 | 4, 3 | 4, 4 | 4, 5
  | 4, 6 | 5, 0 | 5, 1 | 5, 2 | 5, 3 | 5, 4 | 5, 5 | 5, 6 | 6, 0 | 6, 1 | 6, 2 | 6, 3 | 6, 4 | 6, 5 | 6, 6 => rfl

theorem State.sound_putSetting {s : State} (h : s.Sound) (k : Fin 7) (n : Nat) :
    (s.modSettings fun x => x.put k (settingValue k (s.settings.get k) n)).Sound := by
  refine ⟨h.mem, h.ring, h.counters, fun j => ?_, h.waits, h.pattern⟩
  simp only [State.modSettings_settings, Settings.get_put]
  split
  · next e => subst e; exact settingValue_range _ _ _ (h.settings _)
  · exact h.settings j

/-! ### The ring -/

theorem CommandUnit.sound_phase {c : CommandUnit} (h : c.sound) (p : CmdPhase) (hb : c.busy = true) :
    CommandUnit.sound { c with phase := p } := ⟨h.1, fun _ => h.2 hb⟩

theorem CommandUnit.sound_wake {c : CommandUnit} (h : c.sound) : c.wake.sound := by
  unfold CommandUnit.wake
  split
  · next e => exact ⟨h.1, fun _ => e.2⟩
  · exact h

/-- A producer index that passes R158's test keeps the ring's law. -/
theorem CommandUnit.sound_admit {c : CommandUnit} {n : BitVec 8} (ha : c.admits n = true) :
    CommandUnit.sound { c with producer := n } := by
  simp only [CommandUnit.admits, Bool.and_eq_true, decide_eq_true_eq, Bool.or_eq_true, Bool.not_eq_true',
    bne_iff_ne] at ha
  refine ⟨ha.1, fun hb => ?_⟩
  have hd : n - c.consumer ≠ 0 := by
    rcases ha.2 with h | h
    · simp_all [CommandUnit.busy]
    · exact h
  intro e
  exact hd (by simp only at e; rw [e]; exact BitVec.sub_self _)

/-- The consumer index advanced over an outstanding command keeps the ring's law (R160). -/
theorem CommandUnit.sound_advance {c : CommandUnit} (h : c.sound) (hb : c.busy = true) (k : Option CmdKind) :
    CommandUnit.sound { c with consumer := c.consumer + 1, prev := k, phase := .idle } := by
  have h1 := h.1
  have h2 := h.2 hb
  refine ⟨?_, by simp [CommandUnit.busy]⟩
  simp only [CommandUnit.outstanding] at *
  bv_omega


@[simp] theorem State.sound_addAccesses {s : State} {n : Nat} (hs : s.Sound) : (s.addAccesses n).Sound := by
  simp (maxDischargeDepth := 20) [State.addAccesses, hs]

@[simp] theorem State.sound_upPoke {s : State} {a : Nat} {v : Word} (hs : s.Sound) : (s.upPoke a v).Sound := by
  simp (maxDischargeDepth := 20) [State.upPoke, hs]

@[simp] theorem State.sound_treat {s : State} {t : Treatment} (hs : s.Sound) : (s.treat t).Sound := by
  simp (maxDischargeDepth := 20) [State.treat, hs]

@[simp] theorem State.sound_answer {s : State} {t : Treatment} {v : Word} (hs : s.Sound) : (s.answer t v).Sound := by
  simp (maxDischargeDepth := 20) [State.answer, hs]

@[simp] theorem State.sound_raise {s : State} {c : Cause} (hs : s.Sound) : (s.raise c).Sound := by
  simp (maxDischargeDepth := 20) [State.raise, hs]

@[simp] theorem State.sound_raiseIf {s : State} {b : Bool} {c : Cause} (hs : s.Sound) : (s.raiseIf b c).Sound := by
  unfold State.raiseIf
  split <;> simp (maxDischargeDepth := 20) [hs]

@[simp] theorem State.sound_markRecord {s : State} (hs : s.Sound) : s.markRecord.Sound := by
  simp (maxDischargeDepth := 20) [State.markRecord, hs]

@[simp] theorem State.sound_markPlayback {s : State} (hs : s.Sound) : s.markPlayback.Sound := by
  simp (maxDischargeDepth := 20) [State.markPlayback, hs]

@[simp] theorem State.sound_markEdit {s : State} (hs : s.Sound) : s.markEdit.Sound := by
  simp (maxDischargeDepth := 20) [State.markEdit, hs]

@[simp] theorem State.sound_markRecordIf {s : State} {b : Bool} (hs : s.Sound) : (s.markRecordIf b).Sound := by
  unfold State.markRecordIf
  split <;> simp (maxDischargeDepth := 20) [hs]

@[simp] theorem State.sound_markPlaybackIf {s : State} {b : Bool} (hs : s.Sound) : (s.markPlaybackIf b).Sound := by
  unfold State.markPlaybackIf
  split <;> simp (maxDischargeDepth := 20) [hs]

@[simp] theorem State.sound_markEditIf {s : State} {b : Bool} (hs : s.Sound) : (s.markEditIf b).Sound := by
  unfold State.markEditIf
  split <;> simp (maxDischargeDepth := 20) [hs]

@[simp] theorem State.sound_markCopy {s : State} (hs : s.Sound) : s.markCopy.Sound := by
  simp (maxDischargeDepth := 20) [State.markCopy, hs]

@[simp] theorem State.sound_markCounters {s : State} (hs : s.Sound) : s.markCounters.Sound := by
  simp (maxDischargeDepth := 20) [State.markCounters, hs]

@[simp] theorem State.sound_bump {s : State} {c : Counter} (hs : s.Sound) : (s.bump c).Sound := by
  simp (maxDischargeDepth := 20) [State.bump, hs]

@[simp] theorem State.sound_judgeAlert {s : State} (hs : s.Sound) : s.judgeAlert.Sound := by
  simp (maxDischargeDepth := 20) [State.judgeAlert, hs]

@[simp] theorem State.sound_updateOutput {s : State} (hs : s.Sound) : s.updateOutput.Sound := by
  unfold State.updateOutput
  split <;> simp (maxDischargeDepth := 20) [hs]

@[simp] theorem State.sound_rederive {s : State} (hs : s.Sound) : s.rederive.Sound := by
  unfold State.rederive
  dsimp only
  repeat' split
  all_goals simp (maxDischargeDepth := 20) [hs]

@[simp] theorem State.sound_samplePermission {s : State} (hs : s.Sound) : s.samplePermission.Sound := by
  unfold State.samplePermission
  split <;> simp (maxDischargeDepth := 20) [hs]

@[simp] theorem State.sound_captureInput {s : State} {v : Word} (hs : s.Sound) : (s.captureInput v).Sound := by
  simp (maxDischargeDepth := 20) [State.captureInput, hs]

@[simp] theorem State.sound_refuse {s : State} {k : Fin 4} (hs : s.Sound) : (s.refuse k).Sound := by
  unfold State.refuse
  split <;> simp (maxDischargeDepth := 20) [hs]

@[simp] theorem State.sound_captureAnalog {s : State} {v : Word} (hs : s.Sound) : (s.captureAnalog v).Sound := by
  unfold State.captureAnalog
  repeat' split
  all_goals simp (maxDischargeDepth := 20) [hs]

@[simp] theorem State.sound_captureRange {s : State} {n : Fin 4} {j : Nat} {v : Word} (hs : s.Sound) :
    (s.captureRange n j v).Sound := by
  simp (maxDischargeDepth := 20) [State.captureRange, hs]

@[simp] theorem State.sound_capturePolicy {s : State} {k : Fin 21} {v : Word} (hs : s.Sound) :
    (s.capturePolicy k v).Sound := by
  unfold State.capturePolicy
  split <;> simp (maxDischargeDepth := 20) [hs]

@[simp] theorem State.sound_seal {s : State} (hs : s.Sound) : s.seal.Sound := by
  unfold State.seal
  split <;> simp (maxDischargeDepth := 20) [hs]

@[simp] theorem State.sound_rejudge {s : State} (hs : s.Sound) : s.rejudge.Sound := by
  unfold State.rejudge
  dsimp only
  repeat' split
  all_goals simp (maxDischargeDepth := 20) [hs]

@[simp] theorem State.sound_countDelivery {s : State} {kind : DeliveryKind} {own : WordClass} (hs : s.Sound) :
    (s.countDelivery kind own).Sound := by
  unfold State.countDelivery
  split <;> simp (maxDischargeDepth := 20) [hs]

@[simp] theorem State.sound_noteRate {s : State} {rate : Option Nat} {f : Option Nat} (hs : s.Sound) :
    (s.noteRate rate f).Sound := by
  unfold State.noteRate
  split <;> simp (maxDischargeDepth := 20) [hs]

@[simp] theorem State.sound_monitorRequest {s : State} {f : Option Nat} {n : Nat} {c : Fin 2} (hs : s.Sound) :
    (s.monitorRequest f n c).Sound := by
  simp (maxDischargeDepth := 20) [State.monitorRequest, hs]

@[simp] theorem State.sound_mixRequest {s : State} {f n : Nat} {c : Fin 2} (hs : s.Sound) :
    (s.mixRequest f n c).Sound := by
  unfold State.mixRequest
  dsimp only
  split <;> simp (maxDischargeDepth := 20) [hs]

@[simp] theorem State.sound_applyReturnTest {s : State} (hs : s.Sound) : s.applyReturnTest.Sound := by
  unfold State.applyReturnTest
  dsimp only
  repeat' split
  all_goals simp (maxDischargeDepth := 20) [hs]

@[simp] theorem State.sound_armHead {s : State} (hs : s.Sound) : s.armHead.Sound := by
  unfold State.armHead
  split <;> simp (maxDischargeDepth := 20) [hs]

@[simp] theorem State.sound_firePunch {s : State} {x : Entry} {q : Nat} {forced : Bool} (hs : s.Sound) :
    (s.firePunch x q forced).Sound := by
  simp (maxDischargeDepth := 20) [State.firePunch, hs]

@[simp] theorem State.sound_level2 {s : State} {x : Entry} {q : Nat} {old : Vector Word 2} (hs : s.Sound) :
    (s.level2 x q old).Sound := by
  unfold State.level2
  dsimp only
  repeat' split
  all_goals simp (maxDischargeDepth := 20) [hs]

@[simp] theorem State.sound_level1 {s : State} {x : Entry} {q : Nat} {old : Vector Word 2} (hs : s.Sound) :
    (s.level1 x q old).Sound := by
  unfold State.level1
  repeat' split
  all_goals simp (maxDischargeDepth := 20) [hs]

@[simp] theorem State.sound_comparator {s : State} (q : Nat) (old : Option (Vector Word 2)) (hs : s.Sound) :
    (s.comparator q old).Sound := by
  unfold State.comparator
  split <;> simp (maxDischargeDepth := 20) [hs]

@[simp] theorem State.sound_fadeWait {s : State} {q : Nat} (hs : s.Sound) : (s.fadeWait q).Sound := by
  unfold State.fadeWait
  split <;> simp (maxDischargeDepth := 20) [hs]

@[simp] theorem State.sound_pairEvent {s : State} (q : Nat) (old : Option (Vector Word 2)) (hs : s.Sound) :
    (s.pairEvent q old).Sound := by
  simp (maxDischargeDepth := 20) [State.pairEvent, hs]

@[simp] theorem State.sound_endLocate {s : State} (hs : s.Sound) : s.endLocate.Sound := by
  simp (maxDischargeDepth := 20) [State.endLocate, hs]

@[simp] theorem State.sound_locateTest {s : State} {a : Nat} (hs : s.Sound) : (s.locateTest a).Sound := by
  unfold State.locateTest
  split <;> simp (maxDischargeDepth := 20) [hs]

@[simp] theorem State.sound_dropParam {s : State} (hs : s.Sound) : s.dropParam.Sound := by
  simp (maxDischargeDepth := 20) [State.dropParam, hs]

@[simp] theorem State.sound_takeLoad {s : State} {x : Entry} (hs : s.Sound) : (s.takeLoad x).Sound := by
  unfold State.takeLoad
  split <;> simp (maxDischargeDepth := 20) [hs]

@[simp] theorem State.sound_editLoad {s : State} {handle : BitVec 4} {kind : BitVec 2} {hi : BitVec 5} {lo pair : Word} (hs : s.Sound) :
    (s.editLoad handle kind hi lo pair).1.Sound := by
  unfold State.editLoad
  dsimp only
  repeat' split
  all_goals simp (maxDischargeDepth := 20) [hs]

@[simp] theorem State.sound_editParam {s : State} {cond : BitVec 2} {chan : BitVec 1} {expo : BitVec 4} {shape : BitVec 2} {threshold span : Word} (hs : s.Sound) :
    (s.editParam cond chan expo shape threshold span).1.Sound := by
  unfold State.editParam
  repeat' split
  all_goals simp (maxDischargeDepth := 20) [hs]

@[simp] theorem State.sound_editCancel {s : State} {handle : BitVec 4} (hs : s.Sound) :
    (s.editCancel handle).1.Sound := by
  unfold State.editCancel
  repeat' split
  all_goals simp (maxDischargeDepth := 20) [hs]

@[simp] theorem State.sound_editArm {s : State} (hs : s.Sound) : s.editArm.1.Sound := by
  unfold State.editArm
  repeat' split
  all_goals simp (maxDischargeDepth := 20) [hs]

@[simp] theorem State.sound_editDisarm {s : State} (hs : s.Sound) : s.editDisarm.1.Sound := by
  unfold State.editDisarm
  split <;> simp (maxDischargeDepth := 20) [hs]

@[simp] theorem State.sound_locate {s : State} {hi lo : Word} (hs : s.Sound) : (s.locate hi lo).1.Sound := by
  unfold State.locate
  split <;> simp (maxDischargeDepth := 20) [hs]

@[simp] theorem State.sound_locateCancel {s : State} (hs : s.Sound) : s.locateCancel.1.Sound := by
  unfold State.locateCancel
  split <;> simp (maxDischargeDepth := 20) [hs]

@[simp] theorem State.sound_releaseSlot {s : State} {k : Fin 4} (hs : s.Sound) : (s.releaseSlot k).Sound := by
  unfold State.releaseSlot
  split <;> simp (maxDischargeDepth := 20) [hs]

@[simp] theorem State.sound_retestHolds {s : State} (hs : s.Sound) : s.retestHolds.Sound := by
  simp (maxDischargeDepth := 20) [State.retestHolds, slotNumbers, hs]

@[simp] theorem State.sound_sendToEvaluation {s : State} {k : Fin 4} (hs : s.Sound) :
    (s.sendToEvaluation k).Sound := by
  unfold State.sendToEvaluation
  split <;> simp (maxDischargeDepth := 20) [hs]

@[simp] theorem State.sound_beginFill {s : State} {k : Fin 4} (hs : s.Sound) : (s.beginFill k).Sound := by
  simp (maxDischargeDepth := 20) [State.beginFill, hs]

@[simp] theorem State.sound_takeTapeWord {s : State} {k : Fin 4} {b j : Nat} {v : Word} (hs : s.Sound) :
    (s.takeTapeWord k b j v).Sound := by
  unfold State.takeTapeWord
  dsimp only
  repeat' split
  all_goals simp (maxDischargeDepth := 20) [hs]

@[simp] theorem State.sound_raiseOpt {s : State} {c : Option Cause} (hs : s.Sound) : (s.raiseOpt c).Sound := by
  unfold State.raiseOpt
  split <;> simp (maxDischargeDepth := 20) [hs]

@[simp] theorem State.sound_lockStep {s : State} {g : Nat} {a : Option Nat} (hs : s.Sound) :
    (s.lockStep g a).Sound := by
  simp (maxDischargeDepth := 20) [State.lockStep, hs]

@[simp] theorem State.sound_rateTest {s : State} (hs : s.Sound) : s.rateTest.Sound := by
  unfold State.rateTest
  repeat' split
  all_goals simp (maxDischargeDepth := 20) [hs]

@[simp] theorem State.sound_pushDamage {s : State} {d : Nat} (hs : s.Sound) : (s.pushDamage d).Sound := by
  simp (maxDischargeDepth := 20) [State.pushDamage, hs]

@[simp] theorem State.sound_gapSteps {s : State} {n : Nat} (hs : s.Sound) : (s.gapSteps n).Sound := by
  induction n generalizing s with
  | zero => exact hs
  | succ n ih => exact ih (by simp (maxDischargeDepth := 20) [hs])

@[simp] theorem State.sound_gapPushes {s : State} {n : Nat} (hs : s.Sound) : (s.gapPushes n).Sound := by
  induction n generalizing s with
  | zero => exact hs
  | succ n ih => exact ih (by simp (maxDischargeDepth := 20) [hs])

@[simp] theorem State.sound_advanceFill {s : State} {b j : Nat} {v : Word} (hs : s.Sound) :
    (s.advanceFill b j v).Sound := by
  simp (maxDischargeDepth := 20) [State.advanceFill, hs]

@[simp] theorem State.sound_beginOverrun {s : State} (hs : s.Sound) : s.beginOverrun.Sound := by
  simp (maxDischargeDepth := 20) [State.beginOverrun, hs]

@[simp] theorem State.sound_strayWrite {s : State} (hs : s.Sound) : s.strayWrite.Sound := by
  simp (maxDischargeDepth := 20) [State.strayWrite, hs]

@[simp] theorem State.sound_waitWrite {s : State} {gap : Nat} {k b j : Nat} {v : Word} (hs : s.Sound) :
    (s.waitWrite gap k b j v).Sound := by
  unfold State.waitWrite
  dsimp only
  repeat' split
  all_goals simp (maxDischargeDepth := 20) [hs]

@[simp] theorem State.sound_fillWrite {s : State} {k b j : Nat} {v : Word} (hs : s.Sound) :
    (s.fillWrite k b j v).Sound := by
  unfold State.fillWrite
  dsimp only
  repeat' split
  all_goals simp (maxDischargeDepth := 20) [hs]

@[simp] theorem State.sound_formatterWrite {s : State} {y : Nat} {v : Word} (hs : s.Sound) :
    (s.formatterWrite y v).Sound := by
  unfold State.formatterWrite
  split <;> simp (maxDischargeDepth := 20) [hs]

@[simp] theorem State.sound_takeEvaluation {s : State} (k : Fin 4) (rest : List (Fin 4)) (hs : s.Sound) :
    (s.takeEvaluation k rest).Sound := by
  simp (maxDischargeDepth := 20) [State.takeEvaluation, hs]

@[simp] theorem State.sound_loseFrame {s : State} {k : Fin 4} (hs : s.Sound) : (s.loseFrame k).Sound := by
  simp (maxDischargeDepth := 20) [State.loseFrame, hs]

@[simp] theorem State.sound_acceptFrame {s : State} {k : Fin 4} (hs : s.Sound) : (s.acceptFrame k).Sound := by
  unfold State.acceptFrame
  dsimp only
  split <;> simp (maxDischargeDepth := 20) [hs]

@[simp] theorem State.sound_settleFrame {s : State} {j : EvalJob} (hs : s.Sound) : (s.settleFrame j).Sound := by
  unfold State.settleFrame
  split <;> simp (maxDischargeDepth := 20) [hs]

@[simp] theorem State.sound_finishEvaluation {s : State} {j : EvalJob} (hs : s.Sound) :
    (s.finishEvaluation j).Sound := by
  unfold State.finishEvaluation
  split <;> simp (maxDischargeDepth := 20) [hs]

@[simp] theorem State.sound_playStart {s : State} (hs : s.Sound) : s.playStart.1.Sound := by
  unfold State.playStart
  split <;> simp (maxDischargeDepth := 20) [hs]

@[simp] theorem State.sound_playStop {s : State} (hs : s.Sound) : s.playStop.1.Sound := by
  unfold State.playStop
  split <;> simp (maxDischargeDepth := 20) [hs]

@[simp] theorem State.sound_resetPlayback {s : State} (hs : s.Sound) : s.resetPlayback.Sound := by
  simp (maxDischargeDepth := 20) [State.resetPlayback, hs]

@[simp] theorem State.sound_startClose {s : State} {k : Fin 4} (hs : s.Sound) : (s.startClose k).Sound := by
  simp (maxDischargeDepth := 20) [State.startClose, hs]

@[simp] theorem State.sound_beginClose {s : State} {k : Fin 4} (hs : s.Sound) : (s.beginClose k).Sound := by
  unfold State.beginClose
  split <;> simp (maxDischargeDepth := 20) [hs]

@[simp] theorem State.sound_leaveHalf {s : State} (hs : s.Sound) : s.leaveHalf.Sound := by
  unfold State.leaveHalf
  split <;> simp (maxDischargeDepth := 20) [hs]

@[simp] theorem State.sound_restJob {s : State} (hs : s.Sound) : s.restJob.Sound := by
  unfold State.restJob
  split <;> simp (maxDischargeDepth := 20) [hs]

@[simp] theorem State.sound_stopJob {s : State} (hs : s.Sound) : s.stopJob.Sound := by
  simp (maxDischargeDepth := 20) [State.stopJob, hs]

@[simp] theorem State.sound_openFrame {s : State} (hs : s.Sound) : s.openFrame.Sound := by
  simp (maxDischargeDepth := 20) [State.openFrame, hs]

@[simp] theorem State.sound_bindHalf {s : State} {h : Fin 2} {b : Binding} (hs : s.Sound) :
    (s.bindHalf h b).Sound := by
  simp (maxDischargeDepth := 20) [State.bindHalf, hs]

@[simp] theorem State.sound_recordOverrun {s : State} (hs : s.Sound) : s.recordOverrun.Sound := by
  simp (maxDischargeDepth := 20) [State.recordOverrun, hs]

@[simp] theorem State.sound_beginFrame {s : State} {h : Fin 2} (hs : s.Sound) : (s.beginFrame h).Sound := by
  unfold State.beginFrame
  dsimp only
  repeat' split
  all_goals simp (maxDischargeDepth := 20) [hs]

@[simp] theorem State.sound_fetchOld {s : State} {n : Nat} (hs : s.Sound) : (s.fetchOld n).Sound := by
  simp (maxDischargeDepth := 20) [State.fetchOld, hs]

@[simp] theorem State.sound_storeWord {s : State} {k : Fin 4} {b p : Nat} {x : Word} (hs : s.Sound) :
    (s.storeWord k b p x).Sound := by
  simp (maxDischargeDepth := 20) [State.storeWord, hs]

@[simp] theorem State.sound_settleAndStore {s : State} {k : Fin 4} {n : Nat} {c : Fin 2} {v : Word} (hs : s.Sound) :
    (s.settleAndStore k n c v).Sound := by
  unfold State.settleAndStore
  dsimp only
  repeat' split
  all_goals simp (maxDischargeDepth := 20) [hs]

@[simp] theorem State.sound_wordWrite {s : State} {k : Fin 4} {n : Nat} {c : Fin 2} {v : Word} (hs : s.Sound) :
    (s.wordWrite k n c v).Sound := by
  unfold State.wordWrite
  dsimp only
  repeat' split
  all_goals simp (maxDischargeDepth := 20) [hs]

@[simp] theorem State.sound_echoIn {s : State} {c : Fin 2} {v : Word} (hs : s.Sound) : (s.echoIn c v).Sound := by
  simp (maxDischargeDepth := 20) [State.echoIn, hs]

@[simp] theorem State.sound_hold {s : State} {t : Txn} {k : HoldKind} (hs : s.Sound) : (s.hold t k).Sound := by
  simp (maxDischargeDepth := 20) [State.hold, hs]

@[simp] theorem State.sound_landWrite {s : State} {t : Txn} {h : Fin 2} {n : Nat} {c : Fin 2} {v : Word} (hs : s.Sound) :
    (s.landWrite t h n c v).Sound := by
  unfold State.landWrite
  repeat' split
  all_goals simp (maxDischargeDepth := 20) [hs]

@[simp] theorem State.sound_rangeEnd {s : State} {c : Fin 2} {v : Word} (hs : s.Sound) : (s.rangeEnd c v).Sound := by
  simp (maxDischargeDepth := 20) [State.rangeEnd, hs]

@[simp] theorem State.sound_turnover {s : State} {t : Txn} {h : Fin 2} {n : Nat} {c : Fin 2} {v : Word} (hs : s.Sound) :
    (s.turnover t h n c v).Sound := by
  unfold State.turnover
  split <;> simp (maxDischargeDepth := 20) [hs]

@[simp] theorem State.sound_idleWrite {s : State} {c : Fin 2} {v : Word} (hs : s.Sound) : (s.idleWrite c v).Sound := by
  simp (maxDischargeDepth := 20) [State.idleWrite, hs]

@[simp] theorem State.sound_recordWrite {s : State} {t : Txn} {o : Nat} {v : Word} (hs : s.Sound) :
    (s.recordWrite t o v).Sound := by
  unfold State.recordWrite
  dsimp only
  repeat' split
  all_goals simp (maxDischargeDepth := 20) [hs]

@[simp] theorem State.sound_recordRead {s : State} {o : Nat} (hs : s.Sound) : (s.recordRead o).Sound := by
  simp (maxDischargeDepth := 20) [State.recordRead, hs]

@[simp] theorem State.sound_releaseRecord {s : State} {k : Fin 4} (hs : s.Sound) : (s.releaseRecord k).Sound := by
  simp (maxDischargeDepth := 20) [State.releaseRecord, hs]

@[simp] theorem State.sound_watchRelease {s : State} {y : Nat} (hs : s.Sound) : (s.watchRelease y).Sound := by
  unfold State.watchRelease
  repeat' split
  all_goals simp (maxDischargeDepth := 20) [hs]

@[simp] theorem State.sound_setClose {s : State} {j : CloseJob} (hs : s.Sound) : (s.setClose j).Sound := by
  simp (maxDischargeDepth := 20) [State.setClose, hs]

@[simp] theorem State.sound_closeStages {s : State} {j : CloseJob} (hs : s.Sound) : (s.closeStages j).Sound := by
  unfold State.closeStages
  repeat' split
  all_goals simp (maxDischargeDepth := 20) [hs]

@[simp] theorem State.sound_closeHead {s : State} {j : CloseJob} {st : CopyStatus} (hs : s.Sound) :
    (s.closeHead j st).Sound := by
  unfold State.closeHead
  dsimp only
  repeat' split
  all_goals simp (maxDischargeDepth := 20) [hs]

@[simp] theorem State.sound_closeAccess {s : State} {j : CloseJob} (hs : s.Sound) : (s.closeAccess j).Sound := by
  unfold State.closeAccess
  split <;> simp (maxDischargeDepth := 20) [hs]

@[simp] theorem State.sound_finishClose {s : State} {j : CloseJob} (hs : s.Sound) : (s.finishClose j).Sound := by
  unfold State.finishClose
  dsimp only
  split <;> simp (maxDischargeDepth := 20) [hs]

@[simp] theorem State.sound_startRecording {s : State} {mode : RecMode} {a : Nat} (hs : s.Sound) :
    (s.startRecording mode a).Sound := by
  simp (maxDischargeDepth := 20) [State.startRecording, hs]

@[simp] theorem State.sound_recordStart {s : State} {mode : BitVec 2} {hi lo : Word} (hs : s.Sound) :
    (s.recordStart mode hi lo).1.Sound := by
  unfold State.recordStart
  repeat' split
  all_goals simp (maxDischargeDepth := 20) [hs]

@[simp] theorem State.sound_recordStop {s : State} (hs : s.Sound) : s.recordStop.1.Sound := by
  unfold State.recordStop
  split <;> simp (maxDischargeDepth := 20) [hs]

@[simp] theorem State.sound_resetRecord {s : State} (hs : s.Sound) : s.resetRecord.Sound := by
  simp (maxDischargeDepth := 20) [State.resetRecord, hs]

@[simp] theorem State.sound_passWrite {s : State} {w : RepWrite} (hs : s.Sound) : (s.passWrite w).Sound := by
  unfold State.passWrite
  split <;> simp (maxDischargeDepth := 20) [hs]

@[simp] theorem State.sound_passAccess {s : State} (hs : s.Sound) : s.passAccess.Sound := by
  unfold State.passAccess
  split <;> simp (maxDischargeDepth := 20) [hs]

@[simp] theorem State.sound_beginPass {s : State} (hs : s.Sound) : s.beginPass.Sound := by
  simp (maxDischargeDepth := 20) [State.beginPass, hs]

@[simp] theorem State.sound_endPass {s : State} (hs : s.Sound) : s.endPass.Sound := by
  simp (maxDischargeDepth := 20) [State.endPass, hs]

@[simp] theorem State.sound_clearCauses {s : State} {g : Fin 6} {v : Word} (hs : s.Sound) :
    (s.clearCauses g v).Sound := by
  simp (maxDischargeDepth := 20) [State.clearCauses, hs]

@[simp] theorem State.sound_evalAccess {s : State} {j : EvalJob} (hs : s.Sound) : (s.evalAccess j).Sound := by
  simp (maxDischargeDepth := 20) [State.evalAccess, hs]

@[simp] theorem State.sound_clearSticky {s : State} (hs : s.Sound) : s.clearSticky.Sound := by
  simp (maxDischargeDepth := 20) [State.clearSticky, hs]

@[simp] theorem State.sound_monitorSelect {s : State} {source override : Word} (hs : s.Sound) :
    (s.monitorSelect source override).1.Sound := by
  unfold State.monitorSelect
  repeat' split
  all_goals simp (maxDischargeDepth := 20) [hs]

@[simp] theorem State.sound_settingEffect {s : State} {k : Fin 7} (hs : s.Sound) : (s.settingEffect k).Sound := by
  unfold State.settingEffect
  repeat' split
  all_goals simp (maxDischargeDepth := 20) [hs]

@[simp] theorem State.sound_captureSetting {s : State} {k : Fin 7} {v : Word} (hs : s.Sound) :
    (s.captureSetting k v).Sound := by
  have hp := State.sound_putSetting hs k v.toNat
  unfold State.captureSetting
  dsimp only
  repeat' split
  all_goals simp (maxDischargeDepth := 20) [hs, hp]

@[simp] theorem State.sound_captureMask {s : State} {g : Fin 6} {v : Word} (hs : s.Sound) :
    (s.captureMask g v).Sound := by
  simp (maxDischargeDepth := 20) [State.captureMask, hs]

@[simp] theorem State.sound_passRead {s : State} {a : BusAddr} (hs : s.Sound) : (s.passRead a).Sound := by
  simp (maxDischargeDepth := 20) [State.passRead, hs]

@[simp] theorem State.sound_passWord {s : State} {a : BusAddr} {v : Word} (hs : s.Sound) : (s.passWord a v).Sound := by
  simp (maxDischargeDepth := 20) [State.passWord, hs]

@[simp] theorem State.sound_dropWith {s : State} {c : Cause} (hs : s.Sound) : (s.dropWith c).Sound := by
  simp (maxDischargeDepth := 20) [State.dropWith, hs]

@[simp] theorem State.sound_captureTable {s : State} {k : Fin 4} {v : Word} (hs : s.Sound) :
    (s.captureTable k v).Sound := by
  unfold State.captureTable
  dsimp only
  repeat' split
  all_goals simp (maxDischargeDepth := 20) [hs]

@[simp] theorem State.sound_tableWrite {s : State} {a : BusAddr} {k : Fin 4} {v : Word} (hs : s.Sound) :
    (s.tableWrite a k v).Sound := by
  unfold State.tableWrite
  split <;> simp (maxDischargeDepth := 20) [hs]

@[simp] theorem State.sound_policyWrite {s : State} {a : BusAddr} {k : Fin 21} {v : Word} (hs : s.Sound) :
    (s.policyWrite a k v).Sound := by
  unfold State.policyWrite
  split <;> simp (maxDischargeDepth := 20) [hs]

@[simp] theorem State.sound_producerWrite {s : State} {a : BusAddr} {v : Word} (hs : s.Sound) :
    (s.producerWrite a v).Sound := by
  unfold State.producerWrite
  dsimp only
  split
  · next ha =>
    exact State.sound_modCmd (by simp (maxDischargeDepth := 20) [hs]) (by simpa using CommandUnit.sound_wake (CommandUnit.sound_admit ha))
  · simp (maxDischargeDepth := 20) [hs]

@[simp] theorem State.sound_controlWrite {s : State} {a : BusAddr} {v : Word} (hs : s.Sound) :
    (s.controlWrite a v).Sound := by
  unfold State.controlWrite
  cases controlWord (ctlOffset a) <;> simp (maxDischargeDepth := 20) [hs]

@[simp] theorem State.sound_controlRead {s : State} {a : BusAddr} (hs : s.Sound) : (s.controlRead a).Sound := by
  unfold State.controlRead
  cases controlWord (ctlOffset a) <;> simp (maxDischargeDepth := 20) [hs]

@[simp] theorem State.sound_decodeAnswer {s : State} {f : Option Nat} {n : Nat} {c : Fin 2} (hs : s.Sound) :
    (s.decodeAnswer f n c).Sound := by
  simp (maxDischargeDepth := 20) [State.decodeAnswer, hs]

@[simp] theorem State.sound_deliver {s : State} {t : Txn} {h : Fin 2} {n : Nat} {c : Fin 2} (hs : s.Sound) :
    (s.deliver t h n c).Sound := by
  unfold State.deliver
  split
  · split <;> simp (maxDischargeDepth := 20) [hs]
  · simp [State.answer, hs]
  · exact State.sound_setPattern (by simp [State.answer, hs]) (patternNext_ne_zero _ hs.pattern)
  · simp [State.answer, hs]

@[simp] theorem State.sound_releaseHalf {s : State} {h : Fin 2} (hs : s.Sound) : (s.releaseHalf h).Sound := by
  unfold State.releaseHalf
  split <;> simp (maxDischargeDepth := 20) [hs]

@[simp] theorem State.sound_bindTurnover {s : State} {h : Fin 2} (hs : s.Sound) : (s.bindTurnover h).Sound := by
  unfold State.bindTurnover
  repeat' split
  all_goals simp (maxDischargeDepth := 20) [hs]

@[simp] theorem State.sound_playbackRead {s : State} {t : Txn} {o : Nat} (hs : s.Sound) :
    (s.playbackRead t o).Sound := by
  unfold State.playbackRead
  dsimp only
  repeat' split
  all_goals simp (maxDischargeDepth := 20) [hs]

@[simp] theorem State.sound_serveWrite {s : State} {t : Txn} (hs : s.Sound) : (s.serveWrite t).Sound := by
  unfold State.serveWrite
  repeat' split
  all_goals simp (maxDischargeDepth := 20) [hs]

@[simp] theorem State.sound_serveRead {s : State} {t : Txn} (hs : s.Sound) : (s.serveRead t).Sound := by
  unfold State.serveRead
  split <;> simp (maxDischargeDepth := 20) [hs]

@[simp] theorem State.sound_serve {s : State} {t : Txn} (hs : s.Sound) : (s.serve t).Sound := by
  unfold State.serve
  split <;> simp (maxDischargeDepth := 20) [hs]

@[simp] theorem State.sound_freshAccesses {s : State} (hs : s.Sound) : s.freshAccesses.Sound := by
  simp (maxDischargeDepth := 20) [State.freshAccesses, hs]

@[simp] theorem State.sound_tookPort {s : State} {before : State} (hs : s.Sound) : (s.tookPort before).Sound := by
  unfold State.tookPort
  split <;> simp (maxDischargeDepth := 20) [hs]

@[simp] theorem State.sound_service {s : State} {t : Txn} (hs : s.Sound) : (s.service t).Sound := by
  simp (maxDischargeDepth := 20) [State.service, hs]

@[simp] theorem State.sound_arrive {s : State} {t : Txn} (hs : s.Sound) : (s.arrive t).Sound := by
  unfold State.arrive
  repeat' split
  all_goals simp (maxDischargeDepth := 20) [hs]

@[simp] theorem State.sound_resume {s : State} {h : Held} (hs : s.Sound) : (s.resume h).Sound := by
  unfold State.resume
  split <;> simp (maxDischargeDepth := 20) [hs]

/-! ### The command unit's and the engines' accesses, and what follows an event -/

theorem State.sound_completeCommand {s : State} {k : CmdKind} {r : Result} (hs : s.Sound) (hb : s.cmd.busy = true) :
    (s.completeCommand k r).Sound := by
  have h1 : (s.modCmd fun c =>
      ({ c with consumer := c.consumer + 1, prev := some k, phase := .idle } : CommandUnit).wake).Sound :=
    State.sound_modCmd hs (CommandUnit.sound_wake (CommandUnit.sound_advance hs.ring hb _))
  exact State.sound_raiseIf (State.sound_raise h1)

theorem State.sound_writeResult {s : State} {k : CmdKind} {r : Result} (hs : s.Sound) (hb : s.cmd.busy = true) :
    (s.writeResult k r).Sound :=
  State.sound_modCmd (State.sound_poke hs) (CommandUnit.sound_phase hs.ring _ hb)

theorem State.sound_writeConsumer {s : State} {k : CmdKind} {r : Result} (hs : s.Sound) (hb : s.cmd.busy = true) :
    (s.writeConsumer k r).Sound :=
  State.sound_completeCommand (State.sound_poke hs) hb

@[simp] theorem State.sound_commandAccess {s : State} (hs : s.Sound) : s.commandAccess.Sound := by
  unfold State.commandAccess
  split
  · next h => exact State.sound_modCmd hs (CommandUnit.sound_phase hs.ring _ (by simp [CommandUnit.busy, h]))
  · next h => exact State.sound_writeResult hs (by simp [CommandUnit.busy, h])
  · next h => exact State.sound_writeConsumer hs (by simp [CommandUnit.busy, h])
  · exact hs

@[simp] theorem State.sound_engineAccess {s : State} {e : Engine} (hs : s.Sound) : (s.engineAccess e).Sound := by
  unfold State.engineAccess
  repeat' split
  all_goals simp [hs]

@[simp] theorem State.sound_grant {s : State} {e : Engine} (hs : s.Sound) : (s.grant e).Sound := by
  have h := State.sound_engineAccess (e := e) hs
  exact State.sound_setCounts h (WaitCounts.sound_put h.waits)

@[simp] theorem State.sound_finishReads {s : State} (hs : s.Sound) : s.finishReads.Sound := by
  unfold State.finishReads
  split
  · exact State.sound_setCounts hs (WaitCounts.sound_put hs.waits)
  · exact hs

/-- The result and the consumer index of a busy command unit's command written (R160). -/
theorem State.sound_complete {s : State} {k : CmdKind} {r : Result} {w : Bool} (hs : s.Sound) (hb : s.cmd.busy = true) :
    (s.complete k r w).Sound := by
  have h : ((if w then s else s.writeResult k r).writeConsumer k r).Sound := by
    split
    · exact State.sound_writeConsumer hs hb
    · exact State.sound_writeConsumer (State.sound_writeResult hs hb) rfl
  unfold State.complete
  exact State.sound_setCounts h (WaitCounts.sound_put h.waits)

/-- A command taken by an owner that keeps the laws and leaves the command unit (R159). -/
theorem State.sound_take {s : State} {k : CmdKind} {o : State → State × Result} (hs : s.Sound) (hb : s.cmd.busy = true)
    (ho : ∀ x : State, x.Sound → (o x).1.Sound) (hc : ∀ x : State, (o x).1.cmd = x.cmd) : (s.take k o).Sound := by
  have h1 := ho (s.modRep ReportUnit.unmarked) (by simp [hs])
  have h2 : (o (s.modRep ReportUnit.unmarked)).1.cmd = s.cmd := hc _
  unfold State.take
  refine State.sound_modCmd (State.sound_modRep h1) (CommandUnit.sound_phase ?_ _ ?_)
  · simpa using h1.ring
  · simpa [h2] using hb

@[simp] theorem State.sound_release {s : State} (hs : s.Sound) : s.release.Sound := by
  unfold State.release
  repeat' split
  all_goals simp (maxDischargeDepth := 20) [hs]

@[simp] theorem State.sound_drain {s : State} {l : List Txn} (hs : s.Sound) : (s.drain l).Sound := by
  induction l generalizing s with
  | nil => simp [State.drain, hs]
  | cons t rest ih =>
    unfold State.drain
    split
    · simp [hs]
    · exact ih (by simp (maxDischargeDepth := 20) [hs])

/-- What follows every event keeps the laws (R152, R154). -/
@[simp] theorem State.sound_settle {s : State} (hs : s.Sound) : s.settle.Sound := by
  unfold State.settle
  dsimp only
  split <;> simp (maxDischargeDepth := 20) [hs]

/-- A command unit with a due command is busy (R157, R159). -/
theorem State.busy_of_due {s : State} {i : Instr} (h : s.dueCommand = some i) : s.cmd.busy = true := by
  unfold State.dueCommand at h
  split at h <;> simp_all [CommandUnit.busy]

/-- A ring command's row keeps the laws where its owner does (R159). -/
theorem State.sound_command {s : State} {i : Instr} {k : CmdKind} {o : State → State × Result} (hs : s.Sound)
    (ho : ∀ x : State, x.Sound → (o x).1.Sound) (hc : ∀ x : State, (o x).1.cmd = x.cmd) : (s.command i k o).Sound := by
  unfold State.command
  split
  · next h =>
    exact State.sound_settle (State.sound_take (State.sound_finishReads hs) (by simpa using State.busy_of_due h) ho hc)
  · exact hs

end Sys2Proof.Machine
end

