-- ==== Sys2Proof/Laws/Stop.lean ====
section
/-! SUPPORT. What the operations of a record job's stop do, said once: the edit engine's part, the re-judgement of the effective
source with the output status, and the off-tape slots that are freed (R58, R89, R110, R137, R138). -/

namespace Sys2Proof.Machine

/-- A stop leaves the edit engine as `editStopped` says (R110). -/
theorem State.editStopped_stop (s : State) : s.editStopped (s.modEdit EditEngine.stop) := by
  obtain ⟨_, _, _, _, _, ⟨list, outcomes, _, owner, _, _, _, _, _, _, _, punch, _⟩, _, _, _, _, _, _, _⟩ := s
  cases owner <;> cases punch <;> rcases list with _ | ⟨x, rest⟩
  all_goals try cases hk : x.kind
  all_goals
    simp [State.editStopped, EditEngine.stop, EditEngine.returnEntry, EditEngine.waiting, EditEngine.cancelOpenPunch,
      EditEngine.setHead, EditEngine.release, EditEngine.setOutcome, EntryState.outcome, vmod, vset, *]

/-- The effective source is judged by the record job, the edit engine, the lock state and the selection alone (R87, R88). -/
theorem State.effectiveOf_congr {s t : State} (hc : t.coder = s.coder) (he : t.edit = s.edit) (hl : t.tape.lock = s.tape.lock)
    (hm : t.mon.selected = s.mon.selected) (ho : t.mon.override = s.mon.override) : t.effectiveOf = s.effectiveOf := by
  simp [State.effectiveOf, State.named, State.autoSource, State.autoRecording, State.bylock, State.fadeInProgress, *]

@[simp] theorem State.rejudge_effectiveOf (s : State) : s.rejudge.effectiveOf = s.effectiveOf := by
  apply State.effectiveOf_congr <;> simp [State.rejudge] <;> split <;> (try split) <;> simp

/-- Setting the output status again leaves it as `outputSet` says (R137, R138). -/
theorem State.outputSet_updateOutput (s : State) : s.outputSet s.updateOutput := by
  unfold State.updateOutput
  split
  · rename_i h
    refine ⟨fun e => ⟨fun hh hl => ⟨fun k hk => ?_, fun hn => rfl⟩, fun _ => rfl⟩, fun e => ?_, fun e => ?_, rfl, by simp⟩
    · rw [← h]; simp [State.outputTarget, e, Monitor.currentSlot, hl] at hk ⊢; simp [hk]
    · rw [← h]; simp [State.outputTarget, e]
    · rw [← h]; rcases e with e | e <;> simp [State.outputTarget, e]
  · rename_i h
    refine ⟨fun e => ⟨fun hh hl => ⟨fun k hk => ?_, fun hn => ?_⟩, fun hl => ?_⟩, fun e => ?_, fun e => ?_, rfl, ?_⟩
    all_goals simp only [State.markCopy, State.modRep_mon, State.modRep_copy, State.modRep_tape, State.modRep_rep,
      State.modCopy_mon, State.modCopy_copy, State.modCopy_tape, State.modCopy_rep] at *
    · simp [State.outputTarget, Monitor.currentSlot, *]
    · simp [State.outputTarget, Monitor.currentSlot, *]
    · simp [State.outputTarget, Monitor.currentSlot, *]
    · simp [State.outputTarget, e]
    · rcases e with e | e <;> simp [State.outputTarget, e]
    · simp [h]

/-- What `outputSet` says depends on copy control and its mark before, and on the monitor, the off-tape slots, copy control
and its mark after. -/
theorem State.outputSet_congr {s s' t t' : State} (h : s.outputSet t) (hc : s'.copy = s.copy)
    (hr : s'.rep.marks.copy = s.rep.marks.copy) (hm : t'.mon = t.mon) (ht : t'.tape = t.tape) (hc' : t'.copy = t.copy)
    (hr' : t'.rep.marks.copy = t.rep.marks.copy) : s'.outputSet t' := by
  simpa only [State.outputSet, hc, hr, hm, ht, hc', hr'] using h

/-- A re-judgement leaves the effective source, the output status and the MONITOR contexts as `sourceJudged` says (R89). -/
theorem State.sourceJudged_rejudge (s : State) : s.sourceJudged s.rejudge := by
  simp only [State.sourceJudged, State.rejudge_effectiveOf]
  by_cases h : s.effectiveOf = s.mon.effective
  · have e : s.rejudge = s := by simp [State.rejudge, h]
    rw [e, h]
    exact ⟨rfl, fun _ => rfl, fun n => absurd rfl n, fun h1 h2 => absurd h1 h2, fun _ => rfl⟩
  · simp only [State.rejudge, h, if_false]
    split
    · rename_i hd
      refine ⟨by simp [hd], by simp, fun _ => ⟨?_, rfl⟩, by simp, fun h' => ?_⟩
      · exact State.outputSet_congr (State.outputSet_updateOutput (State.modDec (State.modMon s _) _)) rfl rfl rfl rfl rfl rfl
      · rcases h' with h' | h'
        · exact absurd hd h'
        · exact absurd (hd.trans h'.symm) h
    · rename_i hd
      exact ⟨by simp, by simp, fun _ => ⟨State.outputSet_congr (State.outputSet_updateOutput (State.modMon s _)) rfl rfl rfl rfl rfl rfl, rfl⟩,
        fun h' => absurd h' hd, by simp⟩

/-- Where the job is not RECORDING, the holds tested on a list of slots: those of the list that are COMPLETE and neither queued
nor bound go FREE (R58). -/
theorem State.releaseSlots_tape (s : State) (h : s.coder.job ≠ .recording) (l : List (Fin 4)) :
    (l.foldl State.releaseSlot s).tape = { s.tape with slots := Vector.ofFn fun k : Fin 4 =>
      if k ∈ l ∧ s.tape.slots[k].state = .complete ∧ k ∉ s.mon.queue ∧ ∀ h : Fin 2, s.mon.halves[h] ≠ some k then
        { s.tape.slots[k] with state := .free }
      else s.tape.slots[k] } := by
  induction l generalizing s with
  | nil => simp
  | cons j l ih =>
    have hr : s.releaseSlot j =
        if s.tape.slots[j].state = .complete ∧ j ∉ s.mon.queue ∧ ∀ h : Fin 2, s.mon.halves[h] ≠ some j then
          (s.modTapeSlot j fun x => { x with state := .free }).markPlayback else s := by
      simp only [State.releaseSlot]
      congr 1
      simp [State.isHeld, RecordCoder.mixHolds, h, Fin.forall_fin_two]
      tauto
    rw [List.foldl_cons, ih _ (by simpa using h), hr]
    split
    · rename_i hj
      simp only [State.markPlayback, State.modRep_tape, State.modRep_mon, State.modTapeSlot, State.modTape_tape,
        State.modTape_mon, Assembler.mk.injEq, true_and, and_true]
      ext1 i hi
      by_cases hji : j.val = i
      · subst hji
        have : (⟨j.val, hi⟩ : Fin 4) = j := rfl
        simp only [Vector.getElem_ofFn, this, hj, Fin.getElem_fin, vmod, vset, Vector.getElem_set_self]
        simp
        exact fun h' => absurd (h' hj.1 (hj.2.2 0)) (hj.2.2 1)
      · have hn : (⟨i, hi⟩ : Fin 4) ≠ j := fun e => hji (by rw [← e])
        simp [vmod, vset, Vector.getElem_set, hji, hn]
    · rename_i hj
      simp only [Assembler.mk.injEq, true_and, and_true]
      ext1 i hi
      by_cases hji : (⟨i, hi⟩ : Fin 4) = j
      · simp only [Vector.getElem_ofFn, hji, hj, and_false, if_false]
      · simp [hji]

/-- A playback mark that is set stays set while holds are tested. -/
theorem State.releaseSlots_marked (l : List (Fin 4)) (s : State) (h : s.rep.marks.playback = true) :
    (l.foldl State.releaseSlot s).rep.marks.playback = true := by
  induction l generalizing s with
  | nil => exact h
  | cons k l ih =>
    refine ih _ ?_
    unfold State.releaseSlot
    split <;> simp [h, State.markPlayback]

/-- Testing the holds of a list of slots frees one, which is reported, or changes nothing (R58). -/
theorem State.releaseSlots_reported (l : List (Fin 4)) (s : State) :
    (l.foldl State.releaseSlot s).rep.marks.playback = true ∨ l.foldl State.releaseSlot s = s := by
  induction l generalizing s with
  | nil => exact .inr rfl
  | cons k l ih =>
    by_cases hk : s.tape.slots[k].state = .complete ∧ s.isHeld k = false
    · left
      rw [List.foldl_cons, State.releaseSlot, if_pos hk]
      exact State.releaseSlots_marked _ _ rfl
    · rw [List.foldl_cons, State.releaseSlot, if_neg hk]
      exact ih s

/-- Where the job is not RECORDING a re-test of the holds frees the slots that `mixHoldsLapsed` says (R58). -/
theorem State.mixHoldsLapsed_retestHolds (s : State) (h : s.coder.job ≠ .recording) : s.mixHoldsLapsed s.retestHolds := by
  have hs : ∀ k : Fin 4, k ∈ slotNumbers := by decide
  have ht := s.releaseSlots_tape h slotNumbers
  unfold State.retestHolds
  refine ⟨by rw [ht], fun k => ?_, fun hne => ?_⟩
  · rw [ht]
    simp only [Fin.getElem_fin, Vector.getElem_ofFn, hs, true_and]
  · exact (s.releaseSlots_reported slotNumbers).resolve_right fun e => hne (congrArg State.tape e)

end Sys2Proof.Machine
end

