-- ==== Sys2Proof/Tests/Slice0.lean ====
section
/-! SUPPORT. Tests: ill-formed commands refused, ring words written out from R176, a state and operands that meet the
hypotheses of each statement, clause by clause, and single steps whose results are read or calculated by hand from the
rules. -/

section

open Sys2Proof Sys2Proof.Machine

/-! ### Small states -/

namespace Sys2Proof.Tests

/-- After the RESET input, with the bus path RUNNING. -/
def run : State := State.reset.modBus fun b => { b with op := .running }

/-- Command `i` about to be taken. -/
def due (i : Instr) (s : State) : State := s.modCmd fun c => { c with producer := 1, phase := .fetched i }

/-- Recording frame 5 in slot 0, which half 0 is bound to. -/
def recording (m : RecMode) : State :=
  run.modCoder fun c =>
    { c with
      job := .recording, mode := m, r := 5, ringPtr := 1, curHalf := some 0, halves := vset c.halves 0 (.slot 0 5),
      slots := vset c.slots 0 { RecSlot.reset with state := .opened, frame := 5 } }

/-- An old-audio latch at pair 2 of frame 5. -/
def latched : State :=
  (recording .insert).modCoder fun c =>
    { c with
      latch := some { frame := 5, pair := 2, old := #v[100, 200], source := #v[.free, .once] }
      slots := vmod c.slots 0 fun x => { x with written := setEntry x.written (blockOf 2 0) (posOf 2) } }

/-- Playback RUNNING with off-tape slot 0 FILLING. -/
def filling : State :=
  run.modTape fun t =>
    { t with run := .running, slots := vset t.slots 0 { TapeSlot.reset with state := .filling } }

/-- Off-tape slot 0, every block GOOD but `bad`, COMPLETE at frame 7. -/
def heldSlot (bad : Fin 14) : TapeSlot :=
  { TapeSlot.reset with
    state := .complete, frame := 7, good := 13, corrA := .correctable, corrB := .clean
    blocks := vset (Vector.replicate 14 { BlockRec.reset with status := .good }) bad { BlockRec.reset with status := .bad } }

/-- Playback RUNNING and LOCKED with slot 0 COMPLETE and bound to half 0, the last half read. -/
def playing : State :=
  (run.modTape fun t =>
    { t with run := .running, lock := { t.lock with state := .locked }, slots := vset t.slots 0 (heldSlot 2) }).modMon fun m =>
      { m with lastHalf := some 0, halves := vset m.halves 0 (some 0), effective := .decoded }

/-- An edit entry of handle `h` at location `q`. -/
def entry (h : Fin 8) (k : PunchKind) (q : Nat) : Entry :=
  { handle := h, kind := k, loc := q, cond := .always, chan := none, threshold := none, span := none, expo := 0,
    shape := .linear, state := .pending }

/-- The outcome record of a PENDING entry. -/
def pendingRec (k : PunchKind) (q : Nat) : OutcomeRec :=
  { state := .pending, kind := some k, loc := some q, fire := none, forced := none }

/-- A PUNCH_IN at (5, 10) and a PUNCH_OUT at (6, 0) loaded as handles 0 and 1. -/
def loaded : State :=
  run.modEdit fun e =>
    { e with
      list := [entry 0 .punchIn 3850, entry 1 .punchOut 4608]
      outcomes := vset (vset e.outcomes 0 (pendingRec .punchIn 3850)) 1 (pendingRec .punchOut 4608), param := some 1 }

/-- The same list ARMED, its head holding the comparator. -/
def armed : State :=
  loaded.modEdit fun e =>
    { e with
      arm := .armed, owner := .waitL1, entry := some 0
      list := [{ entry 0 .punchIn 3850 with state := .armed }, entry 1 .punchOut 4608] }

/-- A state after a command. -/
def after (i : Instr) (s : State) : State :=
  match exec i s with
  | .next t => t
  | .fault _ => s
  | .refused _ => s

/-- A command answers a next state. -/
def goes (i : Instr) (s : State) : Bool :=
  match exec i s with
  | .next _ => true
  | .fault _ => false
  | .refused _ => false

/-- An evaluation of slot 0, not discarded, whose words are written. -/
def judged : EvalJob := { slot := 0, discard := false, damage := 1, done := 21 }

/-- Playback RUNNING, the evaluation of slot 0 about to end. -/
def ending : State :=
  run.modTape fun t =>
    { t with run := .running, eval := some judged, slots := vset t.slots 0 { heldSlot 2 with state := .evaluating } }

/-- Transaction `x` held, with kind `k`. -/
def holding (x : Txn) (k : HoldKind) (s : State) : State := s.modBus fun b => { b with held := some { txn := x, kind := k } }

end Sys2Proof.Tests

open Sys2Proof.Tests

/-! ### Ill-formed commands -/

theorem test_illFormed_windows_at_control_area :
    WellFormed (.recordWindowWrite 0x7F000 0) = false ∧ WellFormed (.recordWindowRead 0x7F000) = false ∧
    WellFormed (.playbackWindowRead 0x7F000) = false ∧ WellFormed (.playbackWindowWrite 0x7FFFF 0) = false ∧
    WellFormed (.recordImageRead 0x7F000) = false ∧ WellFormed (.recordImageWrite 0x7F000 0) = false ∧
    WellFormed (.offTapeImageWrite 0x7F000 0) = false ∧ WellFormed (.offTapeImageWrite 0x7EFFF 0) = true := by decide

theorem test_illFormed_captured_offsets :
    WellFormed (.controlAreaWrite 0x010 0) = false ∧ WellFormed (.controlAreaWrite 0x016 0) = false ∧
    WellFormed (.controlAreaWrite 0x018 0) = false ∧ WellFormed (.controlAreaWrite 0x01D 0) = false ∧
    WellFormed (.controlAreaWrite 0x020 0) = false ∧ WellFormed (.controlAreaWrite 0x023 0) = false ∧
    WellFormed (.controlAreaWrite 0x028 0) = false ∧ WellFormed (.controlAreaWrite 0x030 0) = false ∧
    WellFormed (.controlAreaWrite 0x044 0) = false ∧ WellFormed (.controlAreaWrite 0x050 0) = false ∧
    WellFormed (.controlAreaWrite 0x017 0) = true ∧ WellFormed (.controlAreaWrite 0x060 0) = true := by decide

theorem test_illFormed_unknown_command_that_names_a_row :
    WellFormed (.unknownCommand 0x0000) = false ∧ WellFormed (.unknownCommand 0x002E) = false ∧
    WellFormed (.unknownCommand 0x006F) = false ∧ WellFormed (.unknownCommand 0x0010) = true ∧
    WellFormed (.unknownCommand 0x004E) = true ∧ WellFormed (.unknownCommand 0x008F) = true := by decide

/-! ### Ring words of R176 -/

theorem test_ring_words_without_operands :
    decodeEntry 0x0000 0x1234 0x5678 = .nop ∧ decodeEntry 0x0002 0 0 = .recordStop ∧ decodeEntry 0x0003 0 0 = .playStart ∧
    decodeEntry 0x0004 0 0 = .playStop ∧ decodeEntry 0x0009 0 0 = .editArm ∧ decodeEntry 0x000A 0 0 = .editDisarm ∧
    decodeEntry 0x000C 0 0 = .locateCancel ∧ decodeEntry 0x000D 0 0 = .policySeal := by decide

theorem test_ring_words_with_operands :
    decodeEntry 0x0021 0x0003 0xABCD = .recordStart 1 0x0003 0xABCD ∧
    decodeEntry 0x0005 0x0002 0x0001 = .monitorSelect 2 1 ∧
    decodeEntry 0x7AE6 0x1111 0x02FF = .editLoad 7 1 15 0x1111 0x02FF ∧
    decodeEntry 0x1BC7 0x4000 0x0FFF = .editParam 2 1 11 1 0x4000 0x0FFF ∧
    decodeEntry 0x0068 0 0 = .editCancel 3 ∧ decodeEntry 0x000B 0x000F 0xFFFF = .locate 0x000F 0xFFFF := by decide

theorem test_ring_words_of_clear_and_softReset :
    decodeEntry 0x000E 0 0 = .clearCounters ∧ decodeEntry 0x002E 0 0 = .clearSticky ∧
    decodeEntry 0x004E 0 0 = .unknownCommand 0x004E ∧ decodeEntry 0x000F 0 0 = .softResetRecord ∧
    decodeEntry 0x002F 0 0 = .softResetPlayback ∧ decodeEntry 0x004F 0 0 = .softResetEdit ∧
    decodeEntry 0x006F 0 0 = .softResetCounters ∧ decodeEntry 0x008F 0 0 = .unknownCommand 0x008F ∧
    decodeEntry 0x0010 0 0 = .unknownCommand 0x0010 := by decide


/-! ### Witnesses: states and operands that meet each statement's hypotheses -/

theorem test_witness_StepRunsFrontCommand : State.reset.pending = [] := by decide

theorem test_witness_StepKeepsSound :
    State.Sound { State.reset with pending := [.resetReleased] } ∧
    ∃ t, step { State.reset with pending := [.resetReleased] } = .next t ∧ t.bus.op = .init :=
  ⟨⟨by decide, by unfold CommandUnit.sound; decide, fun c => by cases c <;> decide, fun k => by revert k; decide,
    ⟨by decide, by decide, by decide⟩, by decide⟩, _, rfl, by decide⟩

theorem test_witness_ResetAndInit :
    State.reset.bus.op = .reset ∧
    (let s := State.reset.modBus fun b => { b with op := .init }
     s.bus.op = .init ∧ s.noneHeld ∧ s.mem.wf = true ∧ 4095 < 4096 ∧ 0x7EFFF < Config.controlBase) := by decide

theorem test_witness_InterleaveIsOneToOne :
    767 < 768 ∧ 1 < 2 ∧ 11 < 12 ∧ 127 < 128 ∧ blockOf 767 1 = 10 ∧ posOf 767 = 127 := by decide

theorem test_witness_SumsUpdateByResidue :
    129 < 130 ∧ ({ s1 := 65534, s2 := 0 } : Sums).s1 < 65535 ∧ ({ s1 := 65534, s2 := 0 } : Sums).s2 < 65535 := by decide

theorem test_witness_SumsFollowTheBlock : 1 < ([0xFFFF, 3] : List Word).length := by decide

theorem test_witness_HeadersReadBack : 13 < 14 ∧ 2 < 3 ∧ 1048575 ≤ Config.maxFrame := by decide

theorem test_witness_StoreKeepsParity : State.reset.mem.wf = true ∧ 11 < 12 ∧ 127 < 128 ∧ State.reset.parityHolds 3 := by
  refine ⟨by decide, by decide, by decide, ?_⟩
  intro g p hg hp
  have h1 : ∀ b, vget (Vector.replicate 12 (0 : BitVec 128)) b 0 = 0 := by intro b; by_cases h : b < 12 <;> simp [vget, h]
  have h2 : ∀ b, vget (Vector.replicate 2 (0 : BitVec 128)) b 0 = 0 := by intro b; by_cases h : b < 2 <;> simp [vget, h]
  have e1 : ∀ b, State.reset.dataValue 3 b p = 0 := by
    intro b
    change (if (vget (Vector.replicate 12 (0 : BitVec 128)) b 0).getLsbD p then _ else (0 : Word)) = 0
    rw [h1]; simp
  have e2 : State.reset.parityValue 3 g p = 0 := by
    change (if (vget (Vector.replicate 2 (0 : BitVec 128)) g 0).getLsbD p then _ else (0 : Word)) = 0
    rw [h2]; simp
  rw [e2]
  simp [e1, List.range_succ]

theorem test_witness_RingEntriesRoundTrip :
    WellFormed (.editParam 3 1 15 3 0xFFFF 0xFFFF) = true ∧
    ringEntry (.editParam 3 1 15 3 0xFFFF 0xFFFF) = some (0x3FE7, 0xFFFF, 0xFFFF) := by decide

theorem test_witness_RecordStartJudgedAndTaken :
    (let s := due (.recordStart 1 0 5) (recording .insert)
     s.aboutToTake (.recordStart 1 0 5) ∧ s.coder.job ≠ .idle) ∧
    (let s := due (.recordStart 1 0 5) (run.modBus fun b => { b with valid := false })
     s.aboutToTake (.recordStart 1 0 5) ∧ s.coder.job = .idle ∧ s.bus.valid = false) ∧
    (let s := due (.recordStart 2 16 0) run
     s.aboutToTake (.recordStart 2 16 0) ∧ s.coder.job = .idle ∧ s.bus.valid = true ∧
       2 ≤ (2 : BitVec 2).toNat ∧ 1048575 < 65536 * (16 : Word).toNat + (0 : Word).toNat) ∧
    (let s := due (.recordStart 0 0 5)
       (run.modCopy fun c => { c with ranges := vset c.ranges 0 { start := 5, stop := 5, enable := true, active := true } })
     s.aboutToTake (.recordStart 0 0 5) ∧ s.coder.job = .idle ∧ s.bus.valid = true ∧ s.copy.isProtected 5 = true) ∧
    (let s := due (.recordStart 0 15 0xFFFF) run
     s.aboutToTake (.recordStart 0 15 0xFFFF) ∧ s.coder.job = .idle ∧ s.bus.valid = true ∧ (0 : BitVec 2).toNat < 2 ∧
       65536 * (15 : Word).toNat + (0xFFFF : Word).toNat ≤ 1048575 ∧ s.copy.isProtected 1048575 = false) := by decide

theorem test_witness_RecordStopStops :
    (let s := due .recordStop run
     s.aboutToTake .recordStop ∧ s.coder.job ≠ .recording) ∧
    (let s := due .recordStop (recording .assemble)
     s.aboutToTake .recordStop ∧ s.coder.job = .recording ∧ s.coder.currentOpen = some 0 ∧ s.coder.close = none) ∧
    (let s := due .recordStop ((recording .assemble).modCoder fun c =>
       { c with close := some { slot := 3, fill := [], underrun := false, status := none, done := 0 } })
     s.aboutToTake .recordStop ∧ s.coder.job = .recording ∧ s.coder.currentOpen = some 0 ∧ s.coder.close ≠ none) := by
  decide

theorem test_witness_SoftResetRecordRests :
    (let s := due .softResetRecord ((recording .insert).modCoder fun c =>
       { c with
         halves := #v[.slot 0 5, .slot 3 4]
         slots := vset c.slots 3 { RecSlot.reset with state := .ready, frame := 4 } })
     s.aboutToTake .softResetRecord ∧ s.coder.halves[(1 : Fin 2)] = .slot 3 4 ∧
       s.coder.slots[(3 : Fin 4)].state = .ready ∧ s.coder.slots[(0 : Fin 4)].state = .opened) ∧
    (let s := due .softResetRecord ((recording .insert).modCoder fun c => { c with halves := vset c.halves 0 (.absorbed 5) })
     s.aboutToTake .softResetRecord ∧ s.coder.halves[(0 : Fin 2)] = .absorbed 5) := by decide

theorem test_witness_RecordWindowWriteStores :
    let s := (recording .assemble).modCopy fun c => { c with recording := .none }
    let a : BusAddr := 0x705FF
    s.mem.wf = true ∧ s.portFree ∧ s.bus.regionOf a.toNat = .recordWindow ∧ s.coder.job = .recording ∧
    s.coder.mode = .assemble ∧ s.coder.curHalf = some (halfOf (s.bus.offset 0 a.toNat)) ∧
    s.coder.halves[halfOf (s.bus.offset 0 a.toNat)] = .slot 0 5 ∧ s.coder.slots[(0 : Fin 4)].state = .opened ∧
    s.copy.recording = .none ∧ s.coder.slots[(0 : Fin 4)].oldOnly = false ∧
    s.copy.contrib[(0 : Fin 4)].refused = false ∧ pairIn (s.bus.offset 0 a.toNat) = 767 := by decide

theorem test_witness_InsertWriteStoresTheMix :
    let s := latched
    let a : BusAddr := 0x70005
    s.mem.wf = true ∧ s.portFree ∧ s.bus.regionOf a.toNat = .recordWindow ∧ s.coder.job = .recording ∧
    s.coder.mode = .insert ∧ s.coder.curHalf = some (halfOf (s.bus.offset 0 a.toNat)) ∧
    s.coder.halves[halfOf (s.bus.offset 0 a.toNat)] = .slot 0 5 ∧ s.coder.slots[(0 : Fin 4)].state = .opened ∧
    s.coder.latch = some { frame := 5, pair := 2, old := #v[100, 200], source := #v[.free, .once] } ∧ 5 = s.coder.r ∧
    2 = pairIn (s.bus.offset 0 a.toNat) ∧
    s.coder.slots[(0 : Fin 4)].firstWrite (pairIn (s.bus.offset 0 a.toNat)) = false := by decide

theorem test_witness_TurnoverOpensNextFrame :
    let s := recording .assemble
    let a : BusAddr := 0x70600
    s.mem.wf = true ∧ s.portFree ∧ s.bus.regionOf a.toNat = .recordWindow ∧ s.coder.job = .recording ∧
    s.coder.mode = .assemble ∧ s.coder.curHalf = some 0 ∧ halfOf (s.bus.offset 0 a.toNat) ≠ 0 ∧
    s.coder.currentOpen = some 0 ∧ s.coder.close = none ∧
    s.coder.halfClosing (halfOf (s.bus.offset 0 a.toNat)) = false ∧ s.coder.r < 1048575 ∧
    s.copy.isProtected (s.coder.r + 1) = false ∧ s.coder.slots[s.coder.ringPtr].state = .free := by decide

theorem test_witness_OverrunAndRangeEnd :
    (let s := run.modCoder fun c =>
       { c with job := .recording, slots := vset c.slots 0 { RecSlot.reset with state := .ready } }
     let a : BusAddr := 0x70000
     s.portFree ∧ s.bus.regionOf a.toNat = .recordWindow ∧ s.coder.job = .recording ∧ s.coder.curHalf = none ∧
       s.copy.isProtected s.coder.r = false ∧ s.coder.slots[s.coder.ringPtr].state ≠ .free) ∧
    (let s := (recording .assemble).modCoder fun c => { c with r := 1048575 }
     let a : BusAddr := 0x70BFF
     s.portFree ∧ s.bus.regionOf a.toNat = .recordWindow ∧ s.coder.job = .recording ∧ s.coder.curHalf = some 0 ∧
       halfOf (s.bus.offset 0 a.toNat) ≠ 0 ∧ s.coder.halfClosing (halfOf (s.bus.offset 0 a.toNat)) = false ∧
       s.coder.r = 1048575 ∧ s.coder.currentOpen = some 0 ∧ s.coder.close = none) := by decide

theorem test_witness_TransactionsAreHeld :
    (State.reset.bus.op ≠ .running ∧ State.reset.noneHeld) ∧
    (let s := (recording .assemble).modCoder fun c =>
       { c with close := some { slot := 3, fill := [], underrun := false, status := none, done := 0 } }
     let u := s.modBus fun b => { b with counts := { close := 16, eval := 0, report := 0 } }
     u.bus.op = .running ∧ u.noneHeld ∧ u.bus.counts.guarded = true ∧ u.normCounts.bus.counts.guarded = true) ∧
    (let s := (recording .assemble).modCoder fun c =>
       { c with halves := vset c.halves 1 (.slot 3 4), slots := vset c.slots 3 { RecSlot.reset with state := .closing } }
     let a : BusAddr := 0x70600
     s.portFree ∧ s.bus.regionOf a.toNat = .recordWindow ∧ s.coder.job = .recording ∧ s.coder.curHalf = some 0 ∧
       halfOf (s.bus.offset 0 a.toNat) ≠ 0 ∧ s.coder.halfClosing (halfOf (s.bus.offset 0 a.toNat)) = true) ∧
    (let x : Held := { txn := { write := true, addr := 0x70000, data := 1 }, kind := .init }
     let s := State.reset.modBus fun b => { b with held := some x }
     s.bus.held = some x ∧ s.normCounts.ready x = false) := by decide

theorem test_witness_IdleWriteIsDropped :
    run.portFree ∧ run.bus.regionOf (0x70000 : BusAddr).toNat = .recordWindow ∧
    (run.coder.job = .idle ∨ run.coder.job = .stopping) := by decide

theorem test_witness_RecordWindowReadReturnsStored :
    latched.portFree ∧ latched.bus.regionOf (0x70004 : BusAddr).toNat = .recordWindow ∧
    latched.coder.halves[halfOf 4] = .slot 0 5 ∧ latched.coder.slots[(0 : Fin 4)].isWritten 2 0 = true ∧
    latched.coder.halves[halfOf 1536] = .unbound ∧ latched.coder.slots[(0 : Fin 4)].isWritten 3 1 = false := by decide

theorem test_witness_ImageWritesAreDropped :
    run.portFree ∧ run.bus.regionOf (0x73CDF : BusAddr).toNat = .recordImage ∧
    run.bus.regionOf (0x71BFF : BusAddr).toNat = .playbackWindow := by decide

theorem test_witness_FinalWordReadReleases :
    (let s := run.modCoder fun c => { c with slots := vset c.slots 3 { RecSlot.reset with state := .ready } }
     s.portFree ∧ s.bus.regionOf (0x73CDF : BusAddr).toNat = .recordImage ∧
       s.bus.offset 2 (0x73CDF : BusAddr).toNat = 1848 * (3 : Fin 4).val + 1847 ∧
       s.coder.slots[(3 : Fin 4)].state = .ready) ∧
    (run.bus.regionOf (0x72000 : BusAddr).toNat = .recordImage ∧
      ∀ k : Fin 4, run.bus.offset 2 (0x72000 : BusAddr).toNat = 1848 * k.val + 1847 →
        run.coder.slots[k].state ≠ .ready) := by decide

theorem test_witness_CloseEngineWrites :
    let job (fill : List Nat) (st : Option CopyStatus) (done : Nat) : CloseJob :=
      { slot := 3, fill := fill, underrun := true, status := st, done := done }
    let s (j : CloseJob) : State := (recording .assemble).modCoder fun c => { c with close := some j }
    (∀ j ∈ [job [1849] none 0, job [] none 0, job [] (some .free) 27, job [] (some .free) 28, job [] (some .free) 55],
      (s j).mem.wf = true ∧ (s j).bus.op = .running ∧ (s j).noneHeld ∧ (s j).coder.close = some j) ∧
    28 = 28 + 2 * (0 : Fin 14).val ∧ 55 = 29 + 2 * (13 : Fin 14).val := by decide

theorem test_witness_CloseEndMarksReady :
    let j : CloseJob := { slot := 3, fill := [], underrun := false, status := some .free, done := 56 }
    (let s := (recording .assemble).modCoder fun c =>
       { c with
         job := .stopping, close := some j
         slots := vset (vmod c.slots 0 fun x => { x with closePending := true }) 3 { RecSlot.reset with state := .closing } }
     s.bus.op = .running ∧ s.noneHeld ∧ s.coder.close = some j ∧ s.coder.pendingClose = some 0 ∧ (0 : Fin 4) ≠ j.slot ∧
       s.coder.job = .stopping) ∧
    (let s := (recording .assemble).modCoder fun c =>
       { c with close := some j, slots := vset c.slots 3 { RecSlot.reset with state := .closing } }
     s.bus.op = .running ∧ s.noneHeld ∧ s.coder.close = some j ∧ s.coder.pendingClose = none ∧
       s.coder.slots[j.slot].state = .closing ∧ s.coder.job ≠ .stopping) := by decide

theorem test_witness_PlayStartAndStop :
    (let s := due .playStart filling
     s.aboutToTake .playStart ∧ s.tape.run = .running) ∧
    (let s := due .playStart run
     s.aboutToTake .playStart ∧ s.tape.run = .stopped ∧ s.bus.valid = true) ∧
    (let s := due .playStop run
     s.aboutToTake .playStop ∧ s.tape.run = .stopped) ∧
    (let s := due .playStop filling
     s.aboutToTake .playStop ∧ s.tape.run = .running ∧ ¬(s.coder.job = .recording ∧ s.coder.mode = .insert)) := by decide

theorem test_witness_SoftResetPlaybackClears :
    let s := due .softResetPlayback playing
    s.aboutToTake .softResetPlayback ∧ s.mon.effective = .decoded := by decide

theorem test_witness_PassedWritesReachMemoryOnly :
    run.mem.wf = true ∧ run.portFree ∧ run.bus.regionOf (0x75CDF : BusAddr).toNat = .offTapeImage ∧
    run.tape.run = .stopped ∧ WellFormed (.controlAreaWrite 0xFFF 1) = true := by decide

theorem test_witness_FormatterWriteTakesAWord :
    let a : BusAddr := 0x74084
    filling.mem.wf = true ∧ filling.portFree ∧ filling.bus.regionOf a.toNat = .offTapeImage ∧
    filling.tape.run = .running ∧ filling.tape.wait = none ∧ filling.tape.fillPtr = 0 ∧
    filling.tape.slots[(0 : Fin 4)].state = .filling ∧ filling.bus.offset 3 a.toNat / 1848 = (0 : Fin 4).val ∧
    filling.bus.offset 3 a.toNat % 132 = 0 ∧ filling.bus.offset 3 a.toNat % 1848 / 132 = (1 : Fin 14).val := by decide

theorem test_witness_FormatterWriteMovesTheFillPointer :
    (let a : BusAddr := 0x74738
     filling.mem.wf = true ∧ filling.portFree ∧ filling.bus.regionOf a.toNat = .offTapeImage ∧
       filling.tape.run = .running ∧ filling.tape.wait = none ∧
       filling.tape.slots[filling.tape.fillPtr].state = .filling ∧
       filling.bus.offset 3 a.toNat / 1848 = (1 : Fin 4).val ∧ (1 : Fin 4) ≠ filling.tape.fillPtr ∧
       (1 : Fin 4) = filling.tape.fillPtr + 1 ∧ filling.tape.slots[(1 : Fin 4)].state = .free ∧
       filling.bus.offset 3 a.toNat % 132 = 0) ∧
    (let s := filling.modTape fun t => { t with slots := vset t.slots 1 (heldSlot 2) }
     s.portFree ∧ (1 : Fin 4) = s.tape.fillPtr + 1 ∧ s.tape.slots[(1 : Fin 4)].state ≠ .free) ∧
    (filling.bus.regionOf (0x75CDF : BusAddr).toNat = .offTapeImage ∧
      filling.bus.offset 3 (0x75CDF : BusAddr).toNat / 1848 = (3 : Fin 4).val ∧ (3 : Fin 4) ≠ filling.tape.fillPtr ∧
      (3 : Fin 4) ≠ filling.tape.fillPtr + 1) := by decide

theorem test_witness_LockAndFlywheel :
    Lock.reset.state = .search ∧ 7 ≤ 14 ∧ 1048573 + 2 ≤ Config.maxFrame ∧
    (let x : Lock := { Lock.reset with state := .locked, expected := 1048570 }
     x.state = .locked ∧ 1 ≤ 4 ∧ 4 ≤ 4 ∧ x.expected + 4 < Config.maxFrame) := by decide

theorem test_witness_EvaluationTakeJudges :
    let s := filling.modTape fun t =>
      { t with slots := vmod t.slots 0 fun x => { x with state := .evaluating }, evalQueue := [0] }
    s.bus.op = .running ∧ s.noneHeld ∧ s.tape.eval = none ∧ s.tape.evalQueue = [0] ∧ countersSound s.counters := by
  refine ⟨by decide, by decide, by decide, by decide, ?_⟩
  intro c
  cases c <;> decide

theorem test_witness_EvaluationEndSettles :
    (let j : EvalJob := { slot := 0, discard := false, damage := 1, done := 21 }
     let s := run.modTape fun t =>
       { t with run := .running, eval := some j, slots := vset t.slots 0 { heldSlot 2 with state := .evaluating } }
     s.bus.op = .running ∧ s.noneHeld ∧ s.tape.eval = some j ∧ 21 ≤ j.done ∧ j.discard = false ∧
       s.tape.slots[j.slot].state = .evaluating ∧
       (∀ k : Fin 4, k ≠ j.slot → s.tape.slots[k].state = .complete →
         s.tape.slots[k].frame ≠ s.tape.slots[j.slot].frame) ∧ 1 ≤ s.tape.slots[j.slot].good) ∧
    (let j : EvalJob := { slot := 0, discard := false, damage := 1, done := 21 }
     let s := playing.modTape fun t =>
       { t with eval := some j, slots := #v[{ heldSlot 2 with state := .evaluating }, heldSlot 3, TapeSlot.reset, TapeSlot.reset] }
     s.bus.op = .running ∧ s.noneHeld ∧ s.tape.eval = some j ∧
       ∃ k : Fin 4, k ≠ j.slot ∧ s.tape.slots[k].state = .complete ∧ s.tape.slots[k].frame = s.tape.slots[j.slot].frame) ∧
    (let j : EvalJob := { slot := 3, discard := true, damage := 14, done := 21 }
     let s := run.modTape fun t => { t with run := .running, eval := some j }
     s.bus.op = .running ∧ s.noneHeld ∧ s.tape.eval = some j ∧ 21 ≤ j.done ∧ j.discard = true) := by decide

theorem test_witness_CompleteFramesStayDistinct :
    let s := { playing with pending := [.evaluationTake] }
    s.tape.distinct ∧ s.tape.evalSound ∧ ∃ t, step s = .next t ∧ t.tape.slots[(0 : Fin 4)].state = .complete :=
  ⟨by unfold Assembler.distinct; decide,
    ⟨by decide, by decide, fun j h => by cases (show (none : Option EvalJob) = some j from h)⟩, _, rfl, by decide⟩

theorem test_witness_ConcealmentDecaysAndRamps :
    (let x : Ctx := { last := 0x8000, mode := .muting, hold := 8, step := 0 }
     (x.deliver 8 none none).kind = .decayed ∧ x.mode = .muting) ∧
    (({ Ctx.reset with last := 5 } : Ctx).deliver 8 none none).kind = .held := by decide

theorem test_witness_ClassesReadAndRebuild :
    playing.tape.completeAt 7 = some 0 ∧ playing.tape.slots[(0 : Fin 4)].isGood (blockOf 0 0) = true ∧
    playing.tape.slots[(0 : Fin 4)].isGood (blockOf 2 0) = false ∧
    playing.tape.slots[(0 : Fin 4)].corrOf (blockOf 2 0) = .correctable ∧
    (let s := playing.modTape fun t => { t with slots := vmod t.slots 0 fun x => { x with corrA := .uncorrectable } }
     s.tape.completeAt 7 = some 0 ∧ s.tape.slots[(0 : Fin 4)].isGood (blockOf 2 0) = false ∧
       s.tape.slots[(0 : Fin 4)].corrOf (blockOf 2 0) ≠ .correctable) := by decide

theorem test_witness_PlaybackReadAnswers :
    (∀ e ∈ [Effective.input, .mute, .pattern],
      let s := playing.modMon fun m => { m with effective := e }
      s.portFree ∧ s.bus.regionOf (0x715FF : BusAddr).toNat = .playbackWindow ∧
        s.mon.lastHalf = some (halfOf (s.bus.offset 1 (0x715FF : BusAddr).toNat)) ∧ s.mon.effective = e) ∧
    (let s := playing
     let a : BusAddr := 0x71000
     s.portFree ∧ s.bus.regionOf a.toNat = .playbackWindow ∧
       s.mon.lastHalf = some (halfOf (s.bus.offset 1 a.toNat)) ∧ s.mon.effective = .decoded ∧ s.tape.evaluating = false ∧
       s.mon.halves[halfOf (s.bus.offset 1 a.toNat)] = some 0 ∧
       s.tape.completeAt s.tape.slots[(0 : Fin 4)].frame = some 0 ∧
       s.tape.slots[(0 : Fin 4)].isGood (blockOf (pairIn (s.bus.offset 1 a.toNat)) 0) = true ∧
       s.dec.mon[(0 : Fin 2)].mode = .normal) := by decide

theorem test_witness_PlaybackTurnoverBindsHead :
    let a : BusAddr := 0x71600
    let s := playing.modMon fun m => { m with effective := .mute, queue := [3] }
    (s.portFree ∧ s.bus.regionOf a.toNat = .playbackWindow ∧
      s.mon.lastHalf ≠ some (halfOf (s.bus.offset 1 a.toNat)) ∧ s.mon.effective = .mute ∧ s.tape.run = .running ∧
      s.mon.halves[halfOf (s.bus.offset 1 a.toNat)] = none) ∧
    (let u := s.modMon fun m => { m with lastHalf := some 0, halves := #v[none, some 0] }
     u.mon.halves[halfOf (u.bus.offset 1 a.toNat)] = some 0 ∧ u.tape.slots[(0 : Fin 4)].state = .complete ∧
       u.mon.halves[1 - halfOf (u.bus.offset 1 a.toNat)] ≠ some 0 ∧ 0 ∉ u.mon.queue ∧
       u.coder.mixHolds u.tape.slots[(0 : Fin 4)].frame = false ∧ u.mon.queue ≠ []) ∧
    (let u := s.modMon fun m => { m with queue := [] }
     u.mon.queue = [] ∧ u.tape.evaluating = false) ∧
    (let u := (s.modMon fun m => { m with queue := [] }).modTapeSlot 1 fun x => { x with state := .evaluating }
     u.portFree ∧ u.mon.queue = [] ∧ u.tape.evaluating = true) := by decide

theorem test_witness_MonitorSelectSelects :
    (due (.monitorSelect 5 0) run).aboutToTake (.monitorSelect 5 0) ∧ 4 < (5 : Word).toNat ∧
    (due (.monitorSelect 0 1) run).aboutToTake (.monitorSelect 0 1) ∧
    (let s := due (.monitorSelect 0 0) run
     s.aboutToTake (.monitorSelect 0 0) ∧ (0 : Word).toNat = Source.auto.code ∧
       s.mon.selected = .auto ∧ s.mon.override = decide ((0 : Word) = 1)) ∧
    (let s := due (.monitorSelect 4 1) run
     s.aboutToTake (.monitorSelect 4 1) ∧ (4 : Word).toNat = Source.mute.code ∧ (1 : Word).toNat ≤ 1 ∧
       ¬(s.mon.selected = .mute ∧ s.mon.override = decide ((1 : Word) = 1))) := by decide


theorem test_witness_EditLoadPlacesAtTheTail :
    (due (.editLoad 8 0 0 0 0) run).aboutToTake (.editLoad 8 0 0 0 0) ∧ 7 < (8 : BitVec 4).toNat ∧
    (let i : Instr := .editLoad 7 0 15 0xFFFF 767
     let f := 65536 * (15 : BitVec 5).toNat + (0xFFFF : Word).toNat
     let l : List Entry := (List.range 8).map fun n => entry 0 .punchIn n
     let full := due i (run.modEdit fun e => { e with list := l })
     let used := due i (run.modEdit fun e => { e with outcomes := vset e.outcomes 7 (pendingRec .punchIn 1) })
     let tail := due i loaded
     f ≤ 1048575 ∧ (767 : Word).toNat ≤ 767 ∧ (7 : BitVec 4).toNat = (7 : Fin 8).val ∧ (0 : BitVec 2).toNat ≤ 1 ∧
     full.aboutToTake i ∧ 8 ≤ full.edit.list.length ∧
     used.aboutToTake i ∧ used.edit.list.length < 8 ∧ used.edit.outcomes[(7 : Fin 8)].inUse = true ∧
     tail.aboutToTake i ∧ tail.edit.list.length < 8 ∧ tail.edit.outcomes[(7 : Fin 8)].inUse = false ∧
     (∀ y ∈ tail.edit.list, y.loc < 768 * f + 767) ∧
     alternates tail.edit.punch (tail.edit.list ++ [entry 7 .punchIn (768 * f + 767)]) = true ∧
     tail.copy.isProtected f = false ∧
     spansProtected tail.copy (tail.edit.list ++ [entry 7 .punchIn (768 * f + 767)]) = false ∧
     tail.edit.arm = .disarmed ∧ tail.edit.list ≠ []) ∧
    (let i : Instr := .editLoad 0 0 0 5 10
     let s := due i (run.modEdit fun e => { e with arm := .armed })
     s.aboutToTake i ∧ s.edit.list = [] ∧ s.edit.arm = .armed ∧ s.edit.owner = .idle ∧ s.edit.rearm = none ∧
       s.edit.returnTest = false ∧ s.coder.job ≠ .recording) := by decide

theorem test_witness_EditParamSetsTheTarget :
    let i : Instr := .editParam 2 1 11 1 0xFFFF 4095
    let none := due i run
    let busy := due i (armed.modEdit fun e =>
      { e with param := some 0, outcomes := vmod e.outcomes 0 fun o => { o with state := .armed } })
    let s (prev : CmdKind) (x : State) : State := x.modCmd fun c => { c with prev := some prev }
    let bad : Instr := .editParam 3 0 0 0 0 0
    none.aboutToTake i ∧ none.edit.param = Option.none ∧
    (s .nop busy).aboutToTake i ∧ (s .nop busy).edit.param = some 0 ∧ (s .nop busy).cmd.prev = some .nop ∧
    (s .nop busy).edit.outcomes[(0 : Fin 8)].state ≠ .pending ∧
    (s .editParam (due bad loaded)).aboutToTake bad ∧ (3 : BitVec 2).toNat = 3 ∧
    (s .editLoad (due i loaded)).aboutToTake i ∧ (s .editLoad (due i loaded)).edit.param = some 1 ∧
    (s .editLoad (due i loaded)).edit.outcomes[(1 : Fin 8)].state = .pending ∧ (2 : BitVec 2).toNat < 3 ∧
    (1 : BitVec 2).toNat ≤ 1 ∧ (4095 : Word).toNat ≤ 4095 := by decide

theorem test_witness_EditCancelTruncates :
    (due (.editCancel 8) run).aboutToTake (.editCancel 8) ∧ 7 < (8 : BitVec 4).toNat ∧
    (due (.editCancel 7) run).aboutToTake (.editCancel 7) ∧ run.edit.outcomes[(7 : Fin 8)].inUse = false ∧
    (let s := due (.editCancel 1) loaded
     s.aboutToTake (.editCancel 1) ∧ s.edit.outcomes[(1 : Fin 8)].inUse = true ∧
       s.edit.list = [entry 0 .punchIn 3850] ++ entry 1 .punchOut 4608 :: [] ∧ (entry 1 .punchOut 4608).handle = 1 ∧
       (∀ y ∈ [entry 0 .punchIn 3850], y.handle ≠ 1) ∧ s.edit.entry ≠ some 1) ∧
    (let s := due (.editCancel 0) armed
     s.aboutToTake (.editCancel 0) ∧ s.edit.outcomes[(0 : Fin 8)].inUse = true ∧ s.edit.entry = some 0) := by decide

theorem test_witness_EditArmAndDisarm :
    (let s := due .editArm (recording .assemble)
     s.aboutToTake .editArm ∧ s.coder.mode = .assemble ∧ s.coder.job ≠ .idle) ∧
    (let s := due .editArm armed
     s.aboutToTake .editArm ∧ s.coder.job = .idle ∧ s.edit.arm = .armed) ∧
    (let s := due .editArm run
     s.aboutToTake .editArm ∧ s.edit.arm = .disarmed ∧ s.edit.list = []) ∧
    (let s := due .editArm loaded
     s.aboutToTake .editArm ∧ s.edit.arm = .disarmed ∧ s.edit.owner = .idle ∧ s.edit.rearm = none ∧
       s.edit.returnTest = false ∧ s.edit.list = [entry 0 .punchIn 3850, entry 1 .punchOut 4608] ∧
       (entry 0 .punchIn 3850).state = .pending) ∧
    (due .editDisarm run).aboutToTake .editDisarm ∧ run.edit.arm = .disarmed ∧
    (let s := due .editDisarm (run.modEdit fun e => { e with arm := .armed })
     s.aboutToTake .editDisarm ∧ s.edit.arm = .armed ∧ s.edit.owner = .idle) ∧
    (let s := due .editDisarm armed
     s.aboutToTake .editDisarm ∧ s.edit.arm = .armed ∧ s.edit.owner = .waitL1) := by decide

theorem test_witness_LocateAndCancel :
    (due (.locate 16 0) run).aboutToTake (.locate 16 0) ∧ 1048575 < 65536 * (16 : Word).toNat + (0 : Word).toNat ∧
    (let i : Instr := .locate 15 0xFFFF
     (due i run).aboutToTake i ∧ 65536 * (15 : Word).toNat + (0xFFFF : Word).toNat ≤ 1048575 ∧ run.edit.owner = .idle ∧
       (due i armed).aboutToTake i ∧ (due i armed).edit.owner = .waitL1) ∧
    (due .locateCancel run).aboutToTake .locateCancel ∧ run.edit.owner ≠ .locateWait ∧
    (let s := due .locateCancel (run.modEdit fun e => { e with owner := .locateWait, target := some 3 })
     s.aboutToTake .locateCancel ∧ s.edit.owner = .locateWait ∧ s.edit.arm = .disarmed) ∧
    (let s := due .locateCancel (loaded.modEdit fun e => { e with owner := .locateWait, target := some 3, arm := .armed })
     s.aboutToTake .locateCancel ∧ s.edit.owner = .locateWait ∧ s.edit.arm = .armed ∧ s.edit.rearm = none ∧
       s.edit.list = [entry 0 .punchIn 3850, entry 1 .punchOut 4608] ∧ s.coder.position = none ∧
       (let u := s.modCoder fun c => { c with job := .recording, mode := .insert, recPos := some 3851 }
        u.aboutToTake .locateCancel ∧ u.coder.position = some 3851 ∧
          (entry 0 .punchIn 3850).loc + (entry 0 .punchIn 3850).span.getD 0 < 3851)) := by decide

theorem test_witness_SoftResetEditEmptiesTheList :
    let s := due .softResetEdit armed
    s.aboutToTake .softResetEdit ∧ entry 1 .punchOut 4608 ∈ s.edit.list ∧
    ∀ x ∈ s.edit.list, x.handle ≠ 7 := by decide

theorem test_witness_EditListStaysOrdered :
    let s := { due .softResetEdit armed with pending := [.softResetEdit] }
    s.edit.ordered ∧ ∃ t, step s = .next t ∧ t.edit.list = [] :=
  ⟨by unfold EditEngine.ordered; decide, _, rfl, by decide⟩

theorem test_witness_PunchFires :
    (let x : Entry := { entry 0 .punchIn 3850 with state := .armed }
     armed.edit.list = [x, entry 1 .punchOut 4608] ∧ armed.edit.owner = .waitL1 ∧ x.cond = .always ∧ x.loc ≤ 3850) ∧
    (let x : Entry := { entry 0 .punchIn 3850 with
       state := .seeking, cond := .zeroCross, chan := some 1, span := some 2, expo := 4 }
     let s := armed.modEdit fun e =>
       { e with owner := .waitL2, list := [x], prevTrig := some 0xFFFF, deadline := some 3852 }
     s.edit.owner = .waitL2 ∧ x.met s.edit.prevTrig (#v[0, 0] : Vector Word 2)[x.chan.getD 0] = true ∧
       x.met s.edit.prevTrig (#v[0, 0xFFFE] : Vector Word 2)[x.chan.getD 0] = false ∧
       s.edit.deadline = some 3852 ∧ 3852 ≤ 3852) := by decide

theorem test_witness_FadeWeightsAndBlend :
    4 ≤ 4 ∧ 15 < 2 ^ 4 ∧ 11 ≤ 11 ∧ 2047 < 2 ^ 11 ∧ 32768 ≤ 32768 := by decide

theorem test_witness_StoredWordByPosition :
    let t : Transition := { pos := 100, kind := .punchIn, len := 16, shape := .power, prior := .outside }
    99 < t.pos ∧ t.prior = .outside ∧ t.pos + t.len ≤ 116 ∧ t.kind = .punchIn ∧ t.pos ≤ 100 ∧ 115 < t.pos + t.len := by
  decide

theorem test_witness_InputStatusWriteDerives :
    run.mem.wf = true ∧ run.portFree ∧ derivedOf (inputOf 0xFFFF) run.copy.analog ≠ run.copy.derived ∧
    derivedOf (inputOf 0) run.copy.analog = run.copy.derived := by decide

theorem test_witness_PolicyWriteAndSeal :
    (let s := run.modCopy fun c => { c with sealed := true }
     s.mem.wf = true ∧ s.portFree ∧ s.copy.sealed = true ∧
       (due .policySeal s).aboutToTake .policySeal) ∧
    run.mem.wf = true ∧ run.portFree ∧ run.copy.sealed = false ∧
    (0 : Fin 21).val = 0 ∧ (20 : Fin 21).val = 1 + 5 * (3 : Fin 4).val + (4 : Fin 5).val ∧
    (due .policySeal run).aboutToTake .policySeal := by decide

theorem test_witness_SettingsWriteCaptures :
    run.mem.wf = true ∧ run.portFree ∧ (#v[2, 64, 15, 14, 64, 896, 15] : Vector Nat 7)[(4 : Fin 7)] = (64 : Word).toNat ∧
    (3 : Word).toNat < (#v[0, 1, 1, 1, 4, 1, 0] : Vector Nat 7)[(4 : Fin 7)] ∧ run.settings.get 4 ≠ 64 := by decide

theorem test_witness_MaskWriteAndCauseRead : run.mem.wf = true ∧ run.portFree := by decide

theorem test_witness_WindowTableWriteJudges :
    run.mem.wf = true ∧ run.portFree ∧ run.coder.job = .idle ∧ run.tape.run = .stopped ∧
    filling.portFree ∧ filling.tape.run ≠ .stopped := by decide

theorem test_witness_ProducerIndexWriteAdmits :
    run.mem.wf = true ∧ run.portFree ∧ ((16 : BitVec 8) - run.cmd.consumer).toNat ≤ 16 ∧ run.cmd.busy = false ∧
    16 < ((17 : BitVec 8) - run.cmd.consumer).toNat ∧
    (let s := due .nop run
     s.portFree ∧ s.cmd.busy = true ∧ (0 : BitVec 8) = s.cmd.consumer) := by decide

theorem test_witness_CommandUnitsOwnCommands :
    (due .nop run).aboutToTake .nop ∧ (due .clearCounters run).aboutToTake .clearCounters ∧
    (due .softResetCounters run).aboutToTake .softResetCounters ∧ (due .clearSticky run).aboutToTake .clearSticky ∧
    ((due (.unknownCommand 16) run).aboutToTake (.unknownCommand 16) ∧ 16 ≤ (16 : Word).toNat % 32) ∧
    ((due (.unknownCommand 0x004E) run).aboutToTake (.unknownCommand 0x004E) ∧ (0x004E : Word).toNat % 32 = 14) ∧
    ((due (.unknownCommand 0x008F) run).aboutToTake (.unknownCommand 0x008F) ∧ (0x008F : Word).toNat % 32 = 15) := by
  decide

theorem test_witness_CommandCompletes :
    let s := run.modCmd fun c => { c with consumer := 255, producer := 0, phase := .due .nop .done }
    s.mem.wf = true ∧ s.bus.op = .running ∧ s.noneHeld ∧ s.rep.pass = none ∧ s.waiting .close = false ∧
    s.waiting .eval = false ∧ s.cmd.phase = .due .nop .done := by decide

theorem test_witness_ReportPassBeginAndEnd :
    (let s := (run.raise .fired).markCopy.modCmd fun c => { c with phase := .waitPass .nop .done }
     s.bus.op = .running ∧ s.noneHeld ∧ s.rep.pass = none ∧ s.rep.hasWork = true ∧ s.cmd.wanting = false ∧
       s.rep.raised[(2 : Fin 6)] ≠ 0 ∧ s.rep.marks.copy = true) ∧
    (let s := (run.modRep fun r => { r with pass := some [.summary] }).modCmd fun c => { c with phase := .inPass .nop .done }
     s.bus.op = .running ∧ s.noneHeld ∧ s.rep.pass = some [.summary] ∧ s.rep.summary = s.rep.lastSummary ∧
       s.cmd.phase = .inPass .nop .done) := by decide

theorem test_witness_EngineGrantsMakeOneAccess :
    (let j : EvalJob := { slot := 3, discard := false, damage := 0, done := 20 }
     let s := run.modTape fun t => { t with eval := some j }
     s.mem.wf = true ∧ s.bus.op = .running ∧ s.noneHeld ∧ s.waiting .close = false ∧ s.tape.eval = some j ∧ j.done < 21) ∧
    (∀ w ∈ [RepWrite.word 4095 1, .cause 5 3],
      let s := run.modRep fun r => { r with pass := some [w, .summary] }
      s.noneHeld ∧ s.waiting .close = false ∧ s.waiting .eval = false ∧ s.rep.pass = some [w, .summary]) ∧
    (∀ ws ∈ [([] : List Word), [0, 0]],
      let s := run.modCmd fun c => { c with producer := 1, phase := .reading ws }
      s.waiting .eval = false ∧ s.rep.pass = none ∧ s.cmd.phase = .reading ws ∧ ws.length < 3) := by decide


/-! ### Worked cases of the chapters and single steps calculated by hand -/

/-- The table of where pairs are stored, and pair 37 right (R4, R5). -/
theorem test_interleave_worked_case :
    (blockOf 37 1, posOf 37) = (0, 7) ∧ (blockOf 5 0, posOf 5) = (5, 1) ∧ (blockOf 11 1, posOf 11) = (10, 1) ∧
    (blockOf 12 1, posOf 12) = (1, 2) ∧ (pairOf 4 7, chanOf 4 7) = (41, 1) := by decide

/-- The rewrite before close (R14, R15). -/
theorem test_sums_worked_sequence :
    let open_ : Sums := { s1 := 0, s2 := 0 }
    let first := open_.update 2 0 65534
    let again := first.update 2 65534 5
    first = { s1 := 65534, s2 := 65532 } ∧ again = { s1 := 5, s2 := 15 } ∧
    (again.update 0 0 100).update 1 0 200 = { s1 := 305, s2 := 515 } ∧
    (first.update 0 0 100).update 1 0 200 = { s1 := 299, s2 := 497 } := by decide

/-- The header A of R174's example. -/
theorem test_header_example :
    headIndex 0x0064 = 4 ∧ headRate 0x0064 = 2 ∧ CopyStatus.ofCode (headStatus 0x0064) = .once ∧
    headFrame 0x0064 7 = 7 := by decide

/-- The rebuild of pair 41 right from the parity word and five partners (R11, R64). -/
theorem test_rebuild_worked_case :
    let at_ (b : Nat) : Nat := 0x74000 + 132 * b + 9
    let s := playing.modMem fun m => Memory.writeAll m
      [(at_ 0, 0x1234), (at_ 2, 0x00FF), (at_ 6, 0x8000), (at_ 8, 0x0001), (at_ 10, 0x7FFF), (at_ 12, 0x12CA)]
    s.classValue (.rebuilt 0 4 7) = some 0xFFFF := by decide

/-- Lock, flywheel and a jump: steps of the worked sequence (R53 to R55), Q = 7 and limit 4. -/
theorem test_lock_worked_sequence :
    let x : Lock := { state := .acquire, expected := 102, run := 2, mismatch := 0, flywheel := 0 }
    let y : Lock := { state := .locked, expected := 103, run := 3, mismatch := 0, flywheel := 0 }
    let z : Lock := { state := .locked, expected := 107, run := 3, mismatch := 1, flywheel := 0 }
    x.step 7 4 9 (some 102) = (y, some .lockGained) ∧
    y.step 7 4 0 (some 103) = ({ y with state := .flywheel, expected := 104, flywheel := 1 }, none) ∧
    ({ y with expected := 106 }).step 7 4 14 (some 240) = (z, none) ∧
    z.step 7 4 14 (some 241) =
      ({ state := .acquire, expected := 242, run := 1, mismatch := 0, flywheel := 0 }, some .lockLost) := by decide

/-- One context through loss and return, H = 2 (R67 to R70). -/
theorem test_concealment_worked_sequence :
    let x (last : Int) (m : CtxMode) (run step : Nat) : Ctx :=
      { last := BitVec.ofInt 16 last, mode := m, hold := run, step := step }
    ((x 1000 .normal 0 0).deliver 2 none (some (BitVec.ofInt 16 (-3001)))).ctx = x (-1001) .normal 0 0 ∧
    ((x (-1001) .holding 2 0).deliver 2 none none).ctx = x (-750) .muting 2 0 ∧
    ((x (-750) .muting 2 0).deliver 2 none none).ctx = x (-562) .muting 2 0 ∧
    ((x (-562) .muting 2 0).deliver 2 (some 8000) none).ctx = x 250 .recovering 2 2 ∧
    ((x 250 .recovering 2 2).deliver 2 (some 8000) none).ctx = x 500 .recovering 2 3 ∧
    ((x 500 .recovering 2 3).deliver 2 none none).ctx = x 500 .holding 1 0 ∧
    ((x 500 .holding 1 0).deliver 2 none (some 1200)).ctx = x 850 .normal 0 0 := by decide

/-- The pattern generator from reset (R92). -/
theorem test_pattern_worked_sequence :
    let s (r : BitVec 15) : State := run.modMon fun m =>
      { m with effective := .pattern, lastHalf := some 0, pattern := r }
    let t (r : BitVec 15) : State := after (.playbackWindowRead 0x71000) (s r)
    (t 1).bus.data = BitVec.ofInt 16 (-1024) ∧ (t 1).mon.pattern = 2 ∧ (t 8192).bus.data = BitVec.ofInt 16 (-512) ∧
    (t 8192).mon.pattern = 16385 ∧ (t 16385).bus.data = 0 ∧ (t 16385).mon.pattern = 3 := by decide

/-- One step of a fade, LINEAR and POWER (R119 to R123). -/
theorem test_fade_worked_cases :
    let t (sh : Shape) : Transition := { pos := 100, kind := .punchIn, len := 16, shape := sh, prior := .outside }
    linearWeight 16 0 = 1024 ∧ linearWeight 16 15 = 31744 ∧
    ((t .linear).newWeight 5, (t .linear).oldWeight 5) = (11264, 21504) ∧
    ((t .power).newWeight 5, (t .power).oldWeight 5) = (18656, 28896) ∧
    (storedWord .inside (some (t .linear)) 105 (BitVec.ofInt 16 (-2000)) 1000).word = BitVec.ofInt 16 (-31) ∧
    storedWord .inside (some (t .power)) 105 30000 30000 =
      { word := 32767, wNew := 18656, wOld := 28896, saturated := true } := by decide

/-- A punch-out across a frame boundary: the stored words 7625, 2375, 1625 and −3625 (R121, R124). -/
theorem test_punch_out_across_frames :
    let t : Transition := { pos := 768 * 5002 + 760, kind := .punchOut, len := 16, shape := .linear, prior := .inside }
    let w (f n : Nat) : Word := (storedWord .outside (some t) (768 * f + n) 8000 (BitVec.ofInt 16 (-4000))).word
    w 5002 759 = 8000 ∧ w 5002 760 = 7625 ∧ w 5002 767 = 2375 ∧ w 5003 0 = 1625 ∧
    w 5003 7 = BitVec.ofInt 16 (-3625) ∧ w 5003 8 = BitVec.ofInt 16 (-4000) := by decide

/-- An evaluation with strays: ten votes against two, blocks 3 MISSING and 6 BAD (R49). -/
theorem test_evaluation_take_with_strays :
    let b (st : BlockStatus) (a : Word) : BlockRec := { BlockRec.reset with status := st, headB := a }
    let g := b .good 7212
    let sl : TapeSlot :=
      { TapeSlot.reset with
        state := .evaluating
        blocks := #v[g, g, g, b .filling 0, g, { g with headA := 0x0045 }, b .bad 0, g, b .good 7211, g, b .good 7211, g, g, g] }
    let s := run.modTape fun t =>
      { t with
        run := .running, slots := vset t.slots 1 sl, evalQueue := [1]
        lock := { t.lock with state := .locked, expected := 7212 } }
    let t := after .evaluationTake s
    t.tape.slots[(1 : Fin 4)].frame = 7212 ∧ t.tape.slots[(1 : Fin 4)].good = 10 ∧
    t.tape.slots[(1 : Fin 4)].status = .once ∧ t.tape.slots[(1 : Fin 4)].corrA = .uncorrectable ∧
    t.tape.slots[(1 : Fin 4)].corrB = .correctable ∧ t.counter .strayBlock = 2 ∧ t.counter .blocksBad = 3 ∧
    t.counter .blocksMissing = 1 ∧ t.tape.eval = some { slot := 1, discard := false, damage := 4, done := 0 } := by decide

/-- An accepted frame of a LOCKED timeline: COMPLETE, queued, 7213 expected, 4 in the window (R51, R54, R56). -/
theorem test_evaluation_end_accepts :
    let s := run.modTape fun t =>
      { t with
        run := .running, eval := some { slot := 1, discard := false, damage := 4, done := 21 }
        slots := vset t.slots 1 { TapeSlot.reset with state := .evaluating, frame := 7212, good := 10 }
        lock := { t.lock with state := .locked, expected := 7212 } }
    let t := after .evaluationEnd s
    t.tape.slots[(1 : Fin 4)].state = .complete ∧ t.mon.queue = [1] ∧ t.tape.lock.expected = 7213 ∧
    t.tape.window = [4] := by decide

/-- The first write of a short recording opens slot 0 at frame 5000; the write at offset 1536 is a turnover (R22, R26). -/
theorem test_record_window_write_opens_and_turns :
    let s := run.modCoder fun c => { c with job := .recording, r := 5000 }
    let t := after (.recordWindowWrite 0x70000 0x1234) s
    let u := after (.recordWindowWrite 0x70600 1) t
    t.coder.slots[(0 : Fin 4)].state = .opened ∧ t.coder.ringPtr = 1 ∧ t.peek 0x72002 = 0x1234 ∧
    t.peek (0x72000 + 132 * 12 + 2) = 0x1234 ∧ t.mon.echo[(0 : Fin 2)] = 0x1234 ∧
    u.coder.r = 5001 ∧ u.coder.slots[(0 : Fin 4)].state = .closing ∧ u.coder.slots[(1 : Fin 4)].frame = 5001 := by decide

/-- The overrun frame 6004: absorbed, counted, flagged; the pointer stays (R27). -/
theorem test_record_overrun :
    let s := (recording .assemble).modCoder fun c =>
      { c with
        r := 6003, ringPtr := 1, halves := vset c.halves 0 (.slot 0 6003)
        slots := vset c.slots 1 { RecSlot.reset with state := .ready, frame := 6000 } }
    let t := after (.recordWindowWrite 0x70600 5) s
    t.coder.r = 6004 ∧ t.coder.halves[(1 : Fin 2)] = .absorbed 6004 ∧ t.coder.ringPtr = 1 ∧ t.coder.sticky = true ∧
    t.counter .recordOverrun = 1 ∧ t.isRaised .recordOverrun = true ∧ t.bus.treatment = .absorbed := by decide

/-- A word written while the recording permission is NONE is stored as 0 and refused once (R134). -/
theorem test_refused_word_is_zero :
    let s := (recording .assemble).modCopy fun c => { c with recording := .none }
    let t := after (.recordWindowWrite 0x70001 77) s
    t.mem = [] ∧ t.counter .refusedFrames = 1 ∧ t.isRaised .refused = true ∧
    t.copy.contrib[(0 : Fin 4)].decided = .none := by decide

/-- A record-window read returns the stored word at one access, and 0 at none where nothing is written (R37). -/
theorem test_record_window_read :
    let s := after (.recordWindowWrite 0x70003 9) (recording .assemble)
    let t := after (.recordWindowRead 0x70003) s
    let u := after (.recordWindowRead 0x70002) s
    (t.bus.data, t.bus.accesses) = (9, 1) ∧ (u.bus.data, u.bus.accesses) = (0, 0) := by decide

/-- A write into the record image and into the playback window is dropped with its cause (R148). -/
theorem test_image_writes_dropped :
    (after (.recordImageWrite 0x72000 1) run).isRaised .recordImageWrite = true ∧
    (after (.playbackWindowWrite 0x71000 1) run).isRaised .playbackImageWrite = true ∧
    (after (.recordImageWrite 0x72000 1) run).mem = [] := by decide

/-- The final word of slot 0 read while READY frees it; while CLOSING it does not (R34). -/
theorem test_record_image_read_releases :
    let s (st : RecSlotState) : State := run.modCoder fun c =>
      { c with slots := vset c.slots 0 { RecSlot.reset with state := st }, halves := #v[.slot 0 0, .unbound] }
    let t (st : RecSlotState) : State := after (.recordImageRead 0x72737) (s st)
    (t .ready).coder.slots[(0 : Fin 4)].state = .free ∧ (t .ready).coder.halves[(0 : Fin 2)] = .unbound ∧
    (t .closing).coder.slots[(0 : Fin 4)].state = .closing := by decide

/-- A formatter write of word 0 begins to fill the slot at the fill pointer; one into slot 2 is stray (R42, R45). -/
theorem test_off_tape_image_write :
    let s := run.modTape fun t => { t with run := .running }
    let t := after (.offTapeImageWrite 0x74000 0x0064) s
    let u := after (.offTapeImageWrite (0x74000 + 2 * 1848) 1) s
    t.tape.slots[(0 : Fin 4)].state = .filling ∧ t.tape.slots[(0 : Fin 4)].blocks[(0 : Fin 14)].headA = 0x0064 ∧
    t.tape.slots[(0 : Fin 4)].blocks[(0 : Fin 14)].seen = 1 ∧ t.peek 0x74000 = 0x0064 ∧
    u.counter .strayWrite = 1 ∧ u.peek (0x74000 + 2 * 1848) = 0 := by decide

/-- The ending of the overrun wait: two gap frames step the lock to FLYWHEEL with 3007 expected, and the write fills slot 0 (R44). -/
theorem test_overrun_wait_ends_with_gaps :
    let s := filling.modTape fun t =>
      { t with
        fillPtr := 3, wait := some 2, slots := vset t.slots 0 TapeSlot.reset
        lock := { t.lock with state := .locked, expected := 3005 } }
    let t := (after (.offTapeImageWrite 0x74000 1) s).tape
    t.lock.state = .flywheel ∧ t.lock.expected = 3007 ∧ t.lock.flywheel = 2 := by decide

/-- Moving the playback window: the record window over the off-tape image is invalid, and the last write mends it (R150). -/
theorem test_window_table_moves :
    let t := after (.windowTableWrite 0 0x74) run
    let u := after (.windowTableWrite 3 0x70) (after (.windowTableWrite 1 0x78) t)
    t.bus.valid = false ∧ t.isRaised .configInvalid = true ∧ u.bus.valid = true ∧
    u.bus.table = #v[0x74, 0x78, 0x72, 0x70] := by decide

/-- A setting past its range is clamped; a rate code past its range is not taken, and its write-back is due (R164). -/
theorem test_settings_clamped :
    (after (.settingsWrite 1 0) run).settings.hold = 1 ∧ (after (.settingsWrite 5 1000) run).settings.thresh = 896 ∧
    (after (.settingsWrite 0 3) run).settings.rate = 0 ∧ (after (.settingsWrite 0 3) run).isRaised .configInvalid = false ∧
    (after (.settingsWrite 0 3) run).rep.backSettings[(0 : Fin 7)] = true ∧
    (after (.settingsWrite 6 15) run).settings.atten = 15 := by decide

/-- Programming the policy: range 1 with start 3000 and end 2000 is held disabled at its enable, and NONE is no analog
status (R139, R140). -/
theorem test_policy_programming :
    let w (k : Fin 21) (v : Word) (s : State) : State := after (.policyRecordWrite k v) s
    let t := w 9 2000 (w 7 3000 run)
    t.isRaised .configInvalid = false ∧ (w 10 1 t).isRaised .configInvalid = true ∧
    (w 10 1 t).copy.ranges[(1 : Fin 4)] = { start := 3000, stop := 2000, enable := true, active := false } ∧
    (w 0 1 run).copy.derived = .once ∧ (w 0 1 run).copy.recording = .once ∧ (w 0 1 run).isRaised .inputChanged = true ∧
    (w 0 2 run).copy.analog = .free ∧ (w 0 2 run).isRaised .configInvalid = true := by decide

/-- The changing input of the worked sequence: ONCE at once, FREE waits (R132, R133). -/
theorem test_input_status :
    let t := after (.inputStatusWrite 0x0011) (after (.inputStatusWrite 0x0005) run)
    let u := after (.inputStatusWrite 0x0005) t
    t.copy.derived = .once ∧ t.copy.recording = .once ∧ u.copy.derived = .free ∧ u.copy.recording = .once ∧
    (after (.inputStatusWrite 3) run).copy.derived = .none := by decide

/-- Producer writes of the worked sequences: 60 against 35, and 8, 9, 248 and 252 against 248 (R158). -/
theorem test_producer_index :
    let s (c p : BitVec 8) (ph : CmdPhase) : State := run.modCmd fun x => { x with consumer := c, producer := p, phase := ph }
    let t (v : Word) (x : State) : State := after (.producerIndexWrite v) x
    (t 60 (s 35 35 .idle)).isRaised .ringOverflow = true ∧ (t 60 (s 35 35 .idle)).cmd.producer = 35 ∧
    (t 8 (s 248 248 .idle)).cmd.producer = 8 ∧ (t 8 (s 248 248 .idle)).cmd.phase = .reading [] ∧
    (t 9 (s 248 8 (.reading []))).isRaised .ringOverflow = true ∧
    (t 248 (s 248 8 (.reading []))).isRaised .ringOverflow = true ∧ (t 252 (s 248 8 (.reading []))).cmd.producer = 252 := by
  decide

/-- An overrun reported and read: the read clears the POSTED cause it returned and leaves the RAISED one (R169, R170). -/
theorem test_cause_word_read :
    let s := ((run.raise .underrun).modRep fun r => { r with posted := vset r.posted 0 1, alert := true }).poke 0x7F002 1
    let t := after (.causeWordRead 0) s
    t.bus.data = 1 ∧ t.isPosted .recordOverrun = false ∧ t.isRaised .underrun = true ∧ t.rep.alert = false ∧
    t.rep.causeMarks[(0 : Fin 6)] = true := by decide

/-- A mask write that enables a POSTED cause drives ALERT low at once (R167, R170). -/
theorem test_mask_word_write :
    let s := run.modRep fun r => { r with posted := vset r.posted 3 2 }
    (after (.maskWordWrite 3 2) s).rep.alert = true ∧ (after (.maskWordWrite 3 5) s).rep.alert = false := by decide

/-- A pass that begins with RECORD_OVERRUN raised ends with its cause word written and ALERT low (R168, R170). -/
theorem test_report_pass :
    let t := after .reportPassBegin (run.raise .recordOverrun)
    let u := after .enginePortGrant t
    let v := after .reportPassEnd (after .enginePortGrant u)
    t.rep.pass = some [.cause 0 1, .summary] ∧ u.peek 0x7F002 = 1 ∧ u.isPosted .recordOverrun = true ∧
    u.rep.alert = false ∧ v.peek 0x7F001 = 1 ∧ v.rep.alert = true ∧ v.rep.pass = none := by decide

/-- The guard: the sixteenth transaction served takes the close engine's count to 16, the next is held, and the engine's
access releases it (R154). -/
theorem test_starvation_guard :
    let s := (run.modBus fun b => { b with counts := { close := 15, eval := 0, report := 0 } }).modCoder fun c =>
      { c with close := some { slot := 1, fill := [5, 6], underrun := false, status := none, done := 0 } }
    let t := after (.controlAreaWrite 0x100 1) s
    let u := after (.controlAreaWrite 0x101 1) t
    let v := after .enginePortGrant u
    t.bus.counts.close = 16 ∧ u.bus.held.isSome = true ∧ u.peek 0x7F101 = 0 ∧ v.bus.held = none ∧ v.peek 0x7F101 = 1 ∧
    v.bus.counts.close = 1 := by decide

/-- The close's last header and check writes, and its end (R32, R33). -/
theorem test_close_end :
    let s := (recording .assemble).modCoder fun c =>
      { c with
        job := .stopping, slots := vmod c.slots 0 fun x => { x with state := .closing }
        close := some { slot := 0, fill := [], underrun := true, status := some .free, done := 56 } }
    let t := after .closeEnd s
    t.coder.slots[(0 : Fin 4)].state = .ready ∧ t.coder.job = .idle ∧ t.counter .framesRecorded = 1 := by decide

/-- Binding, release and an underrun (R81, R84). -/
theorem test_playback_turnover :
    let s := playing.modMon fun m => { m with queue := [2], effective := .mute }
    let t := after (.playbackWindowRead 0x71600) s
    let u := after (.playbackWindowRead 0x71000) t
    t.mon.halves = #v[some 0, some 2] ∧ t.mon.queue = [] ∧ u.mon.halves = #v[none, some 2] ∧
    u.tape.slots[(0 : Fin 4)].state = .free ∧ u.counter .monitorUnderrun = 1 ∧ u.isRaised .monitorUnderrun = true := by
  decide

/-- A DECODED read of a GOOD block and of the one BAD block of a group: one access and six (R63, R64, R65). -/
theorem test_decoded_reads :
    let s := playing.poke (0x74000 + 2) 0x0123
    let t := after (.playbackWindowRead 0x71000) s
    let u := after (.playbackWindowRead 0x71004) s
    t.bus.data = 0x0123 ∧ t.bus.accesses = 1 ∧ u.bus.accesses = 6 ∧ u.counter .wordsCorrected = 1 ∧
    u.bus.data = 0x0123 := by decide

/-- Building a list: a second PUNCH_IN between two entries is a CONFLICT, a load in a protected range PROTECTED, a lone
PUNCH_IN at the tail DONE (R97, R98). -/
theorem test_edit_load_results :
    let s := loaded.modCopy fun c =>
      { c with ranges := vset c.ranges 0 { start := 2004, stop := 2006, enable := true, active := true } }
    let r (i : Instr) : CmdPhase := (after i (due i s)).cmd.phase
    r (.editLoad 2 0 0 5 11) = .due .editLoad .conflict ∧ r (.editLoad 2 0 0 2005 0) = .due .editLoad .prot ∧
    r (.editLoad 2 0 0 2010 0) = .waitPass .editLoad .done ∧ r (.editLoad 0 0 0 2010 0) = .due .editLoad .conflict := by decide

/-- EDIT_PARAM clamps exponent 3 to 4 and a threshold above 32767, and after an unknown command is a SEQUENCE (R99, R100). -/
theorem test_edit_param :
    let i : Instr := .editParam 2 1 3 1 0x9000 48
    let s (k : CmdKind) : State := (due i loaded).modCmd fun c => { c with prev := some k }
    let t := after i (s .nop)
    (t.edit.list.map fun x => (x.cond, x.threshold, x.span, x.expo)) =
      [(.always, none, none, 0), (.below, some 32767, some 48, 4)] ∧
    (after i (s .unknown)).cmd.phase = .due .editParam .sequence := by decide

/-- EDIT_CANCEL of the head empties the list and frees the comparator (R101). -/
theorem test_edit_cancel :
    let t := after (.editCancel 0) (due (.editCancel 0) armed)
    t.edit.list = [] ∧ t.edit.owner = .idle ∧ t.edit.entry = none ∧
    t.edit.outcomes[(1 : Fin 8)].state = .cancelled := by decide

/-- EDIT_ARM arms the head, and EDIT_DISARM returns it to PENDING (R102, R103). -/
theorem test_edit_arm_disarm :
    let t := after .editArm (due .editArm loaded)
    let u := after .editDisarm (due .editDisarm armed)
    t.edit.owner = .waitL1 ∧ t.edit.entry = some 0 ∧ t.edit.outcomes[(0 : Fin 8)].state = .armed ∧
    u.edit.owner = .idle ∧ u.edit.outcomes[(0 : Fin 8)].state = .pending := by decide

/-- A zero-crossing punch: 310 then −150 fires unforced at (2000, 3) with re-arm at (2000, 67) (R107, R108). -/
theorem test_zero_crossing_punch :
    let x : Entry := { entry 0 .punchIn (768 * 2000) with
      state := .seeking, cond := .zeroCross, chan := some 0, span := some 96, expo := 6, shape := .power }
    let s := armed.modEdit fun e =>
      { e with owner := .waitL2, list := [x], deadline := some (768 * 2000 + 96), prevTrig := some 310 }
    let t := s.pairEvent (768 * 2000 + 3) (some #v[BitVec.ofInt 16 (-150), 0])
    t.edit.punch = .inside ∧ t.edit.rearm = some (768 * 2000 + 67) ∧ t.isRaised .fired = true ∧
    t.isRaised .forced = false := by decide

/-- A cue that passes a punch: entries 3 and 4 MISSED, entry 5 ARMED (R112, R113). -/
theorem test_locate_passes_a_punch :
    let l := [entry 3 .punchIn (768 * 3100), entry 4 .punchOut (768 * 3105),
      { entry 5 .punchIn (768 * 3200) with cond := .below, span := some 2000 }, entry 6 .punchOut (768 * 3210)]
    let s := (recording .insert).modEdit fun e =>
      { e with list := l, arm := .armed, owner := .locateWait, target := some 3120 }
    let u := s.modCoder fun c => { c with recPos := some (768 * 3116 + 500) }
    let t := after .locateCancel (due .locateCancel u)
    t.edit.list.map Entry.handle = [5, 6] ∧ t.edit.entry = some 5 ∧ t.edit.owner = .waitL1 ∧
    t.edit.outcomes[(3 : Fin 8)].state = .missed ∧ t.edit.outcomes[(4 : Fin 8)].state = .missed ∧
    t.isRaised .missed = true ∧ t.isRaised .located = false := by decide

/-- LOCATE lends the comparator: the ARMED head goes back to PENDING (R111). -/
theorem test_locate :
    let t := after (.locate 0 3120) (due (.locate 0 3120) armed)
    t.edit.owner = .locateWait ∧ t.edit.target = some 3120 ∧ t.edit.entry = none ∧
    t.edit.outcomes[(0 : Fin 8)].state = .pending := by decide

/-- A stop in the middle of a fade: OUT, no transition, the head PUNCH_OUT cancelled, the list DISARMED (R35, R110). -/
theorem test_record_stop_in_a_fade :
    let s := (recording .insert).modEdit fun e =>
      { e with
        list := [entry 1 .punchOut 6000], punch := .inside, arm := .armed, rearm := some 5000
        trans := some { pos := 4000, kind := .punchIn, len := 256, shape := .linear, prior := .outside } }
    let t := after .recordStop (due .recordStop s)
    t.coder.job = .stopping ∧ t.edit.punch = .outside ∧ t.edit.trans = none ∧ t.edit.rearm = none ∧ t.edit.list = [] ∧
    t.edit.outcomes[(1 : Fin 8)].state = .cancelled ∧ t.coder.slots[(0 : Fin 4)].state = .closing := by decide

/-- RECORD_START at A = 5000 in ASSEMBLE mode, and its refusals (R17, R18). -/
theorem test_record_start :
    let i : Instr := .recordStart 0 0 5000
    let t := after i (due i run)
    let u := after i (due i (recording .insert))
    t.coder.job = .recording ∧ t.coder.r = 5000 ∧ t.copy.sealed = true ∧ t.rep.backPolicy = true ∧
    t.mon.effective = .input ∧ t.cmd.phase = .waitPass .recordStart .done ∧ u.cmd.phase = .due .recordStart .state := by decide

/-- Playback's commands: PLAY_START runs; PLAY_STOP during an INSERT recording is refused (R39, R40). -/
theorem test_play_commands :
    (after .playStart (due .playStart run)).tape.run = .running ∧
    (after .playStop (due .playStop playing)).tape.slots[(0 : Fin 4)].state = .free ∧
    (after .playStop (due .playStop ((recording .insert).modTape fun t => { t with run := .running }))).cmd.phase =
      .due .playStop .state := by decide

/-- MONITOR_SELECT of TAPE with the override from MUTE: DECODED, with both contexts on the ramp re-entry (R73, R86, R89). -/
theorem test_monitor_select :
    let i : Instr := .monitorSelect 1 1
    let t := after i (due i run)
    t.mon.effective = .decoded ∧ t.dec.mon[(0 : Fin 2)] = { last := 0, mode := .recovering, hold := 0, step := 1 } ∧
    t.dec.mix[(0 : Fin 2)] = Ctx.reset := by decide

/-- The soft resets (R38, R59, R116, R163). -/
theorem test_soft_resets :
    let t := after .softResetRecord (due .softResetRecord (recording .insert))
    let u := after .softResetPlayback (due .softResetPlayback playing)
    let v := after .softResetEdit (due .softResetEdit armed)
    t.coder.job = .idle ∧ t.coder.slots[(0 : Fin 4)].state = .free ∧ t.coder.halves[(0 : Fin 2)] = .unbound ∧
    t.coder.r = 5 ∧ u.tape.run = .running ∧ u.tape.lock.state = .search ∧ u.mon.lastHalf = none ∧
    v.edit.arm = .armed ∧ v.edit.list = [] ∧ v.edit.outcomes[(0 : Fin 8)].state = .cancelled := by decide

/-- CLEAR and SOFT_RESET COUNTERS (R162, R163). -/
theorem test_clears :
    let s := ((run.count .saturation 9).modCoder fun c => { c with sticky := true }).modTape fun t => { t with sticky := true }
    let t := after .clearCounters (due .clearCounters s)
    let u := after .clearSticky (due .clearSticky s)
    t.counter .saturation = 0 ∧ t.coder.sticky = true ∧ u.counter .saturation = 9 ∧ u.coder.sticky = false ∧
    u.tape.sticky = false ∧ (after .softResetCounters (due .softResetCounters s)).counter .saturation = 0 := by decide

/-- NOP, an unknown command and POLICY_SEAL (R141, R159, R161). -/
theorem test_plain_commands :
    (after .nop (due .nop run)).cmd.phase = .due .nop .done ∧
    (after (.unknownCommand 0x1F) (due (.unknownCommand 0x1F) run)).cmd.phase = .due .unknown .illegal ∧
    (after .policySeal (due .policySeal run)).copy.sealed = true ∧
    (after .policySeal (due .policySeal (run.modCopy fun c => { c with sealed := true }))).cmd.phase =
      .due .policySeal .done := by decide

/-- A completion at consumer index 33 with ILLEGAL writes 2 in slot 1's result word and raises COMMAND_ERROR (R160, R176). -/
theorem test_command_completion :
    let s := run.modCmd fun c => { c with consumer := 33, producer := 35, phase := .due .unknown .illegal }
    let t := after .commandCompletion s
    t.peek (0x7F060 + 4 * 1 + 3) = 2 ∧ t.peek 0x7F051 = 34 ∧ t.cmd.prev = some .unknown ∧ t.cmd.phase = .reading [] ∧
    t.isRaised .commandDone = true ∧ t.isRaised .commandError = true := by decide

/-- A transaction that arrives in RESET is held through INIT (R156). -/
theorem test_held_through_init :
    let s := after .resetReleased (after (.controlAreaWrite 0x400 7) State.reset)
    s.bus.op = .init ∧ s.bus.held = some { txn := { write := true, addr := 0x7F400, data := 7 }, kind := .init } ∧
    s.peek 0x7F400 = 0 := by decide

/-- The values INIT writes: identity and version, a default mask, a table page, an absent position, and 0 elsewhere (R156,
R173, R177). -/
theorem test_init_values :
    initValue 0 = 0x6121 ∧ initValue 0x18 = 0x007F ∧ initValue 0x23 = 0x74 ∧ initValue 0x303 = 0xFFFF ∧
    initValue 0x400 = 0 := by decide

/-- RESET_ASSERTED keeps memory (R156). -/
theorem test_reset_asserted :
    let t := after .resetAsserted ((recording .insert).poke 0x100 5)
    t.peek 0x100 = 5 ∧ t.coder = RecordCoder.reset ∧ t.bus.op = .reset := by decide

/-- An evaluation of frame 3120 that ends at the LOCATE target while LOCKED raises LOCATED (R112). -/
theorem test_evaluation_end_locates :
    let s := (run.modTape fun t =>
      { t with
        run := .running, eval := some { slot := 0, discard := false, damage := 0, done := 21 }
        slots := vset t.slots 0 { TapeSlot.reset with state := .evaluating, frame := 3120, good := 14 }
        lock := { t.lock with state := .locked, expected := 3120 } }).modEdit fun e =>
      { e with owner := .locateWait, target := some 3120 }
    let t := after .evaluationEnd s
    t.isRaised .located = true ∧ t.edit.owner = .idle ∧ t.edit.target = none ∧ t.edit.returnTest = true := by decide


/-! ### Witnesses of single clauses -/

/-- A transaction that waits through INIT (R156). -/
theorem test_witness_ResetAndInit_held :
    let x : Held := { txn := { write := false, addr := 0x71000, data := 0 }, kind := .init }
    let s := (holding x.txn x.kind State.reset).modBus fun b => { b with op := .init }
    s.bus.op = .init ∧ s.holds x ∧ x.kind = .init ∧ s.bus.counts.guarded = false := by decide

/-- A reset of an IDLE record path that changes no field, and one of a STOPPING one (R38, R168). -/
theorem test_witness_SoftResetRecordRests_quiet_and_unfinished :
    (let s := due .softResetRecord loaded
     let t := after .softResetRecord s
     s.aboutToTake .softResetRecord ∧ s.coder.job = .idle ∧ s.coder.unfinished = false ∧ t.tape = s.tape ∧
       t.mon = s.mon ∧ t.edit.arm = s.edit.arm ∧ t.edit.owner = s.edit.owner ∧ t.edit.punch = s.edit.punch ∧
       t.edit.trans = s.edit.trans ∧ t.edit.outcomes = s.edit.outcomes) ∧
    (let s := due .softResetRecord (run.modCoder fun c =>
       { c with job := .stopping, slots := vset c.slots 2 { RecSlot.reset with state := .closing } })
     s.aboutToTake .softResetRecord ∧ s.coder.job ≠ .idle ∧ s.coder.unfinished = true) := by decide

/-- A first write and a later one that fetch old audio, from frames of another rate and of the slot's own (R25, R62). -/
theorem test_witness_InsertWriteStoresTheMix_refetch :
    let a : BusAddr := 0x70005
    let tapeAt (rate f : Nat) (s : State) : State := s.modTape fun t =>
      { t with run := .running, slots := vset t.slots 0 { heldSlot 2 with frame := f, rate := rate } }
    let s := recording .insert
    let u := latched.modCoder fun c => { c with latch := some { frame := 5, pair := 1, old := #v[1, 2], source := #v[.free, .free] } }
    (∀ x ∈ [tapeAt 1 5 s, tapeAt 0 5 s, tapeAt 1 5 u],
      x.mem.wf = true ∧ x.portFree ∧ x.bus.regionOf a.toNat = .recordWindow ∧ x.coder.job = .recording ∧
      x.coder.mode = .insert ∧ x.coder.curHalf = some (halfOf (x.bus.offset 0 a.toNat)) ∧
      x.coder.halves[halfOf (x.bus.offset 0 a.toNat)] = .slot 0 5 ∧ x.coder.slots[(0 : Fin 4)].state = .opened ∧
      x.tape.evaluating = false ∧ x.coder.openSlot = some 0 ∧ x.tape.completeAt x.coder.r = some 0) ∧
    s.coder.latch = none ∧ s.coder.slots[(0 : Fin 4)].firstWrite 2 = true ∧
    u.coder.slots[(0 : Fin 4)].firstWrite 2 = false := by decide

/-- A turnover from an absorbed frame, and one of an INSERT recording into a protected frame (R26, R30). -/
theorem test_witness_TurnoverOpensNextFrame_absorbed_and_protected :
    let a : BusAddr := 0x70600
    let shut (s : State) : State := s.modCopy fun c =>
      { c with ranges := vset c.ranges 3 { start := 6, stop := 6, enable := true, active := true } }
    let s := (recording .assemble).modCoder fun c =>
      { c with halves := vset c.halves 0 (.absorbed 5), slots := vset c.slots 0 RecSlot.reset }
    let u := shut (recording .insert)
    (∀ x ∈ [s, u],
      x.mem.wf = true ∧ x.portFree ∧ x.bus.regionOf a.toNat = .recordWindow ∧ x.coder.job = .recording ∧
      x.coder.curHalf = some 0 ∧ halfOf (x.bus.offset 0 a.toNat) ≠ 0 ∧
      x.coder.halfClosing (halfOf (x.bus.offset 0 a.toNat)) = false ∧ x.coder.r < 1048575 ∧
      x.coder.slots[x.coder.ringPtr].state = .free) ∧
    s.coder.mode = .assemble ∧ s.copy.isProtected (s.coder.r + 1) = false ∧ s.coder.currentOpen = none ∧
    u.coder.mode = .insert ∧ u.copy.isProtected (u.coder.r + 1) = true ∧ u.tape.evaluating = false := by decide

/-- An overrun and a protected frame at a turnover, a protected first frame, and an absorbed current half (R27, R30). -/
theorem test_witness_OverrunAndRangeEnd_absorbed_frames :
    let a : BusAddr := 0x70600
    let shut (f : Nat) (s : State) : State := s.modCopy fun c =>
      { c with ranges := vset c.ranges 0 { start := f, stop := f, enable := true, active := true } }
    let s := (recording .assemble).modCoder fun c =>
      { c with r := 1048574, slots := vset c.slots 1 { RecSlot.reset with state := .ready } }
    let turns (x : State) : Prop :=
      x.portFree ∧ x.bus.regionOf a.toNat = .recordWindow ∧ x.coder.job = .recording ∧ x.coder.curHalf = some 0 ∧
        halfOf (x.bus.offset 0 a.toNat) ≠ 0 ∧ x.coder.halfClosing (halfOf (x.bus.offset 0 a.toNat)) = false ∧
        x.coder.r < 1048575 ∧ x.coder.mode = .assemble ∧ x.coder.currentOpen = some 0 ∧ x.coder.close = none
    let u := shut 0 (run.modCoder fun c => { c with job := .recording })
    let v := run.modCoder fun c => { c with job := .recording, curHalf := some 1, halves := vset c.halves 1 (.absorbed 9) }
    turns s ∧ s.copy.isProtected (s.coder.r + 1) = false ∧ s.coder.slots[s.coder.ringPtr].state ≠ .free ∧
    turns (shut 1048575 s) ∧ (shut 1048575 s).copy.isProtected ((shut 1048575 s).coder.r + 1) = true ∧
    u.portFree ∧ u.coder.job = .recording ∧ u.coder.curHalf = none ∧ u.coder.mode = .assemble ∧
    u.copy.isProtected u.coder.r = true ∧
    v.portFree ∧ v.bus.regionOf a.toNat = .recordWindow ∧ v.coder.job = .recording ∧
    v.coder.curHalf = some (halfOf (v.bus.offset 0 a.toNat)) ∧
    v.coder.halves[halfOf (v.bus.offset 0 a.toNat)] = .absorbed 9 := by decide

/-- Record-window writes held for a close (R28) and for an evaluation (R48), and the events that end the hold. -/
theorem test_witness_TransactionsAreHeld_writes :
    let x : Txn := { write := true, addr := 0x70600, data := 1 }
    (let s := holding x .closing ((recording .assemble).modCoder fun c =>
       { c with
         halves := vset c.halves 1 (.slot 3 4), slots := vset c.slots 3 { RecSlot.reset with state := .closing }
         close := some { slot := 3, fill := [], underrun := false, status := some .free, done := 56 } })
     s.bus.op = .running ∧ s.holds { txn := x, kind := .closing } ∧
       s.coder.halfClosing (halfOf (s.bus.offset 0 x.addr.toNat)) = true ∧
       ∀ e ∈ [Instr.closeEnd, .softResetRecord], let y := if e = .closeEnd then s else due e s
         goes e y.unheld = true ∧ (after e y.unheld).bus.counts.guarded = false ∧
         (after e y.unheld).coder.halfClosing (halfOf (s.bus.offset 0 x.addr.toNat)) = false) ∧
    (let s := holding x .decodeWrite { ending with coder := (recording .insert).coder }
     s.bus.op = .running ∧ s.holds { txn := x, kind := .decodeWrite } ∧ s.tape.evaluating = true ∧
       ∀ e ∈ [Instr.evaluationEnd, .softResetPlayback], let y := if e = .evaluationEnd then s else due e s
         goes e y.unheld = true ∧ (after e y.unheld).bus.counts.guarded = false ∧
         (after e y.unheld).tape.evaluating = false) := by decide

/-- Playback-window reads held for an evaluation (R48, R82), and the events that end the hold. -/
theorem test_witness_TransactionsAreHeld_reads :
    let x : Txn := { write := false, addr := 0x71600, data := 0 }
    let s (k : HoldKind) (half : Option (Fin 2)) (e : Effective) : State :=
      holding x k (ending.modMon fun m => { m with lastHalf := half, effective := e })
    let ends (e : Instr) (y : State) : Prop :=
      goes e y.unheld = true ∧ (after e y.unheld).bus.counts.guarded = false ∧ (after e y.unheld).tape.evaluating = false
    (∀ k ∈ [HoldKind.decodeRead, .turnover],
      (s k (some 1) .decoded).bus.op = .running ∧ (s k (some 1) .decoded).holds { txn := x, kind := k } ∧
        (s k (some 1) .decoded).tape.evaluating = true) ∧
    (let u := after .evaluationEnd (s .decodeRead (some 1) .decoded).unheld
     ends .evaluationEnd (s .decodeRead (some 1) .decoded) ∧ u.bus.regionOf x.addr.toNat = .playbackWindow ∧
       u.mon.lastHalf = some (halfOf (u.bus.offset 1 x.addr.toNat))) ∧
    (let u := after .evaluationEnd (s .turnover (some 0) .decoded).unheld
     ends .evaluationEnd (s .turnover (some 0) .decoded) ∧ u.bus.regionOf x.addr.toNat = .playbackWindow ∧
       u.mon.lastHalf ≠ some (halfOf (u.bus.offset 1 x.addr.toNat)) ∧
       u.mon.halves[halfOf (u.bus.offset 1 x.addr.toNat)] = none) ∧
    (∀ e ∈ [Instr.playStop, .softResetPlayback], ends e (due e (s .turnover (some 0) .mute)) ∧
      (after e (due e (s .turnover (some 0) .mute)).unheld).mon.effective = .mute) := by decide

/-- A transaction under the starvation guard, and the access that releases it (R154). -/
theorem test_witness_TransactionsAreHeld_guard :
    let x : Txn := { write := true, addr := 0x7F400, data := 7 }
    let s := holding x .guard (((recording .assemble).modBus fun b =>
      { b with counts := { close := 16, eval := 0, report := 0 } }).modCoder fun c =>
        { c with close := some { slot := 3, fill := [5], underrun := false, status := none, done := 0 } })
    s.bus.op = .running ∧ s.holds { txn := x, kind := .guard } ∧ s.guarding = true ∧ s.waiting .close = true ∧
    16 ≤ s.bus.counts.get .close ∧ s.grantee = some .close ∧ s.grantee = s.unheld.grantee ∧
    goes .enginePortGrant s.unheld = true ∧ (after .enginePortGrant s.unheld).bus.counts.guarded = false := by decide

/-- Word 131 of block 13, with the slot's other blocks judged and with one unfinished (R47, R48). -/
theorem test_witness_FormatterWriteTakesAWord_judgement :
    let a : BusAddr := 0x74737
    let s (last : BlockRec) : State := filling.modTape fun t =>
      { t with slots := vmod t.slots 0 fun x => { x with blocks := vset (heldSlot 2).blocks 13 last } }
    let full : BlockRec := { BlockRec.reset with status := .filling, seen := 131, headA := 0x000D }
    let open_ := (s full).modTape fun t =>
      { t with slots := vmod t.slots 0 fun x => { x with blocks := vset x.blocks 4 BlockRec.reset } }
    (∀ x ∈ [s full, open_, s { full with seen := 130 }, s { full with headA := 0x003D }],
      x.mem.wf = true ∧ x.portFree ∧ x.bus.regionOf a.toNat = .offTapeImage ∧ x.tape.run = .running ∧
      x.tape.wait = none ∧ x.tape.fillPtr = 0 ∧ x.tape.slots[(0 : Fin 4)].state = .filling ∧
      x.bus.offset 3 a.toNat / 1848 = 0 ∧ x.bus.offset 3 a.toNat % 132 = 131 ∧
      x.bus.offset 3 a.toNat % 1848 / 132 = 13) ∧
    (after (.offTapeImageWrite a 0) (s full)).tape.slots[(0 : Fin 4)].state = .evaluating ∧
    (after (.offTapeImageWrite a 0) open_).tape.slots[(0 : Fin 4)].state = .filling := by decide

/-- Dropped writes of an overrun wait, at the count's end too, and the write that ends it (R44). -/
theorem test_witness_FormatterWriteMovesTheFillPointer_wait :
    let s (gap : Nat) (next : TapeSlot) : State := filling.modTape fun t =>
      { t with wait := some gap, slots := vset t.slots 1 next }
    (∀ x ∈ [s 63 (heldSlot 2), s 64 (heldSlot 2), s 64 TapeSlot.reset],
      x.mem.wf = true ∧ x.portFree ∧ x.bus.regionOf (0x74E6F : BusAddr).toNat = .offTapeImage ∧
      x.tape.run = .running ∧ x.tape.fillPtr + 1 = 1 ∧ x.bus.offset 3 (0x74E6F : BusAddr).toNat / 1848 = 1 ∧
      x.bus.offset 3 (0x74E6F : BusAddr).toNat % 1848 = 1847) ∧
    (s 63 (heldSlot 2)).tape.wait = some 63 ∧ (s 63 (heldSlot 2)).tape.slots[(1 : Fin 4)].state ≠ .free ∧
    (s 64 TapeSlot.reset).tape.wait = some 64 ∧ (s 64 TapeSlot.reset).tape.slots[(1 : Fin 4)].state = .free := by decide

/-- A tie of two addresses won by the expected one, and a slot with no GOOD block in LOCKED and in SEARCH (R49, R50). -/
theorem test_witness_EvaluationTakeJudges_vote_and_no_good :
    let b (a : Word) : BlockRec := { BlockRec.reset with status := .good, headB := a }
    let s (x : TapeSlot) (st : LockState) : State := filling.modTape fun t =>
      { t with slots := vset t.slots 0 { x with state := .evaluating }, evalQueue := [0]
               lock := { t.lock with state := st, expected := 9 } }
    let tie : TapeSlot := { TapeSlot.reset with blocks := vset (vset TapeSlot.reset.blocks 0 (b 9)) 13 (b 8) }
    let votes (f : Nat) : Nat := blockCount fun n => tie.blocks[n].status == .good && tie.blocks[n].headB.toNat == f
    (∀ x ∈ [s tie .locked, s TapeSlot.reset .locked, s TapeSlot.reset .search],
      x.bus.op = .running ∧ x.noneHeld ∧ x.tape.eval = none ∧ x.tape.evalQueue = [0] ∧
      x.counters = State.reset.counters) ∧
    votes 9 = 1 ∧ votes 8 = 1 ∧ (s tie .locked).tape.lock.expected = 9 ∧
    (∀ n : Fin 14, (s TapeSlot.reset .search).tape.slots[(0 : Fin 4)].blocks[n].status ≠ .good) := by decide

/-- A frame that reaches a LOCATE target while LOCKED, with the list DISARMED and ARMED, and one over the rate (R57, R112). -/
theorem test_witness_EvaluationEndSettles_arrival_and_rate :
    let lock (s : State) : State := s.modTape fun t => { t with lock := { t.lock with state := .locked, expected := 7 } }
    let s (arm : ArmState) : State := lock { ending with
      edit := { loaded.edit with owner := .locateWait, target := some 7, arm := arm } }
    let u := (lock ending).modTape fun t => { t with window := [14, 10] }
    (∀ x ∈ [s .disarmed, s .armed, u],
      x.bus.op = .running ∧ x.noneHeld ∧ x.tape.eval = some judged ∧ 21 ≤ judged.done ∧ judged.discard = false ∧
      x.tape.slots[judged.slot].state = .evaluating ∧
      ∀ k : Fin 4, k ≠ judged.slot → x.tape.slots[k].state = .complete → x.tape.slots[k].frame ≠ 7) ∧
    (∀ arm ∈ [ArmState.disarmed, .armed], (s arm).edit.owner = .locateWait ∧ (s arm).edit.target = some 7 ∧
      (s arm).edit.arm = arm ∧ (s arm).edit.rearm = none ∧ (s arm).coder.position = none ∧
      (after .evaluationEnd (s arm)).tape.lock.state = .locked) ∧
    24 < (after .evaluationEnd u).tape.window.sum ∧ u.tape.rateArmed = true := by decide

/-- Contexts of each mode without a value, with and without a next one (R67 to R70). -/
theorem test_witness_ConcealmentDecaysAndRamps_choice :
    let x (m : CtxMode) (hold : Nat) : Ctx := { last := 0x8000, mode := m, hold := hold, step := 0 }
    ((x .holding 8).deliver 8 none none).kind = .decayed ∧ ((x .holding 7).deliver 8 none none).kind = .held ∧
    ((x .recovering 0).deliver 8 none none).kind = .held ∧
    ((x .normal 0).deliver 8 none (some 0x8001)).kind = .interpolated ∧
    ((x .holding 8).deliver 8 (some 0x7FFF) none).kind = .recovered ∧
    1048574 < 1048575 ∧ (nextWord (some 1048574) 767).1 = some 1048575 := by decide

/-- A MIX request of another rate than the frame's (R62). -/
theorem test_witness_ClassesReadAndRebuild_rate :
    playing.tape.completeAt 7 = some 0 ∧ 767 < 768 ∧ 1 < 2 ∧ 1 ≠ playing.tape.slots[(0 : Fin 4)].rate ∧
    playing.tape.slots[(0 : Fin 4)].isGood (blockOf 767 1) = true := by decide

/-- A turnover that unbinds its half and then waits, its slot kept by the mix hold and freed without it (R58, R82). -/
theorem test_witness_PlaybackTurnoverBindsHead_waits :
    let a : BusAddr := 0x71000
    let s := (playing.modTape fun t => { t with slots := vmod t.slots 1 fun x => { x with state := .evaluating } }).modMon
      fun m => { m with effective := .mute, lastHalf := some 1 }
    let u := { s with coder := { (recording .insert).coder with r := 7 } }
    (∀ x ∈ [s, u],
      x.portFree ∧ x.bus.regionOf a.toNat = .playbackWindow ∧
      x.mon.lastHalf ≠ some (halfOf (x.bus.offset 1 a.toNat)) ∧ x.mon.effective = .mute ∧ x.tape.run = .running ∧
      x.mon.queue = [] ∧ x.mon.halves[halfOf (x.bus.offset 1 a.toNat)] = some 0 ∧ x.tape.evaluating = true) ∧
    u.tape.slots[(0 : Fin 4)].state = .complete ∧ u.coder.mixHolds u.tape.slots[(0 : Fin 4)].frame = true ∧
    s.coder.mixHolds s.tape.slots[(0 : Fin 4)].frame = false := by decide

/-- A list whose kinds alternate from the punch state (R96). -/
theorem test_witness_EditListStaysOrdered_kinds :
    let s := { due .softResetEdit armed with pending := [.softResetEdit] }
    s.punchLaw ∧ ∃ t, step s = .next t ∧ t.edit.list = [] :=
  ⟨⟨fun x h => by cases h; decide, by decide, by decide⟩, _, rfl, by decide⟩

/-- An ARMED head below, at and past its location and at its deadline at once, and a SEEKING head that goes on (R106, R107). -/
theorem test_witness_PunchFires_seeking :
    let x (c : Condition) (span : Nat) : Entry :=
      { entry 0 .punchIn 3850 with state := .armed, cond := c, chan := some 1, threshold := some 100, span := some span }
    let s (y : Entry) : State := armed.modEdit fun e => { e with list := [y] }
    let u := (s { x .below 9 with state := .seeking }).modEdit fun e =>
      { e with owner := .waitL2, deadline := some 3859, prevTrig := some 101 }
    (∀ y ∈ [x .below 9, x .zeroCross 9, x .zeroCross 0], (s y).edit.list = [y] ∧ (s y).edit.owner = .waitL1) ∧
    3849 < (x .below 9).loc ∧ (x .below 9).loc ≤ 3850 ∧ (100 : Word).toInt.natAbs ≤ (x .below 9).threshold.getD 0 ∧
    ¬(0x8000 : Word).toInt.natAbs ≤ (x .below 9).threshold.getD 0 ∧ (x .zeroCross 9).cond ≠ .always ∧
    3850 < (x .zeroCross 9).loc + (x .zeroCross 9).span.getD 0 ∧
    (x .zeroCross 0).loc + (x .zeroCross 0).span.getD 0 ≤ 3850 ∧
    u.edit.owner = .waitL2 ∧ u.edit.deadline = some 3859 ∧ 3858 < 3859 := by decide

/-- A change of T, below the window's sum and to the value in force, and of W (R57, R165). -/
theorem test_witness_SettingsWriteCaptures_thresh :
    let s := filling.modTape fun t => { t with window := [14], lock := { t.lock with state := .locked } }
    s.mem.wf = true ∧ s.portFree ∧ (after (.settingsWrite 5 13) s).settings.get 5 ≠ s.settings.get 5 ∧
    (after (.settingsWrite 5 13) s).isRaised .errorRate = true ∧
    (after (.settingsWrite 5 24) s).settings.get 5 = s.settings.get 5 ∧
    (after (.settingsWrite 4 17) s).settings.get 4 ≠ s.settings.get 4 := by decide

/-- A write that moves the playback window, the table valid after it, and one that leaves it invalid (R150, R151). -/
theorem test_witness_WindowTableWriteJudges_playback_base :
    run.mem.wf = true ∧ run.portFree ∧ run.coder.job = .idle ∧ run.tape.run = .stopped ∧
    (0x78 : Word) ≠ run.bus.table[(1 : Fin 4)] ∧ (after (.windowTableWrite 1 0x78) run).bus.valid = true ∧
    (after (.windowTableWrite 1 0x80) run).bus.valid = false := by decide

/-- A pass over every record and write-back, with a read cause word, and one whose last write has been made (R168). -/
theorem test_witness_ReportPassBeginAndEnd_everything :
    (let s := run.modRep fun r =>
       { r with
         marks := { record := true, playback := true, edit := true, copy := true, counters := true }, backPolicy := true
         backSettings := vset r.backSettings 6 true, causeMarks := vset r.causeMarks 5 true }
     s.bus.op = .running ∧ s.noneHeld ∧ s.rep.pass = none ∧ s.rep.hasWork = true ∧ s.cmd.wanting = false) ∧
    (let s := run.modRep fun r => { r with pass := some [] }
     s.bus.op = .running ∧ s.noneHeld ∧ s.rep.pass = some []) := by decide

/-- Each kind of write of a pass at the end of its range, and a state under the starvation guard (R154, R168). -/
theorem test_witness_EngineGrantsMakeOneAccess_writes :
    (∀ w ∈ [RepWrite.evalWord 3 20, .setting 6, .summary],
      let s := (run.modRep fun r => { r with pass := some [w], posted := vset r.posted 5 1 })
      s.mem.wf = true ∧ s.bus.op = .running ∧ s.noneHeld ∧ s.waiting .close = false ∧ s.waiting .eval = false ∧
        s.rep.pass = some [w] ∧ s.rep.summary ≠ s.rep.lastSummary) ∧
    (let s := holding { write := false, addr := 0, data := 0 } .guard ((run.modBus fun b =>
       { b with counts := { close := 0, eval := 16, report := 16 } }).modRep fun r => { r with pass := some [.word 0 0] })
     s.guarding = true ∧ s.waiting .report = true ∧ s.waiting .eval = false ∧ s.grantee = some .report) := by decide

/-! ### Single steps of the report unit -/

/-- A clamped setting is written back in the pass, and CONFIG_INVALID raised by that write (R164). -/
theorem test_setting_write_back_raises :
    let t := after .enginePortGrant (after .reportPassBegin (after (.settingsWrite 1 65) run))
    t.peek 0x7F011 = 64 ∧ t.isRaised .configInvalid = true := by decide

/-- A turnover that waits reports the half it has unbound (R79, R82). -/
theorem test_waiting_turnover_marks_playback :
    let s := (ending.modMon fun m => { m with effective := .mute, halves := #v[some 1, none] }).modTape fun t =>
      { t with slots := vset t.slots 1 { heldSlot 2 with frame := 5 } }
    let t := after (.playbackWindowRead 0x71000) { s with coder := (recording .insert).coder }
    t.bus.held.isSome = true ∧ t.mon.halves[(0 : Fin 2)] = none ∧ t.tape.slots[(1 : Fin 4)].state = .complete ∧
    t.rep.marks.playback = true := by decide


/-! ### Witnesses of the clauses on opening, holding and filling -/

/-- First writes after RECORD_START that find the slot FREE, in either mode, and an INSERT turnover, into a frame that is
protected and one that is not (R20, R22, R26, R30). -/
theorem test_witness_TurnoverOpensNextFrame_first_and_insert :
    let a : BusAddr := 0x70BFF
    let start (m : RecMode) : State := run.modCoder fun c => { c with job := .recording, mode := m, r := 1048575, ringPtr := 3 }
    let shut (f : Nat) (s : State) : State := s.modCopy fun c =>
      { c with ranges := vset c.ranges 3 { start := f, stop := f, enable := true, active := true } }
    (∀ x ∈ [start .assemble, start .insert, shut 1048575 (start .insert), recording .insert],
      x.mem.wf = true ∧ x.portFree ∧ x.bus.regionOf a.toNat = .recordWindow ∧ x.coder.job = .recording ∧
      x.coder.slots[x.coder.ringPtr].state = .free ∧ x.tape.evaluating = false) ∧
    (∀ m ∈ [RecMode.assemble, .insert], (start m).coder.curHalf = none ∧ (start m).coder.latch = none ∧
      (start m).coder.mode = m ∧ (start m).copy.isProtected (start m).coder.r = false) ∧
    (shut 1048575 (start .insert)).copy.isProtected 1048575 = true ∧
    (let s := recording .insert
     s.coder.curHalf = some 0 ∧ halfOf (s.bus.offset 0 a.toNat) ≠ 0 ∧
       s.coder.halfClosing (halfOf (s.bus.offset 0 a.toNat)) = false ∧ s.coder.r < 1048575 ∧ s.coder.mode = .insert ∧
       s.copy.isProtected (s.coder.r + 1) = false ∧ s.coder.currentOpen = some 0 ∧ s.coder.close = none) := by decide

/-- Writes that need an old-audio fetch while a slot is EVALUATING, in the current half and at a first write (R25, R48). -/
theorem test_witness_TransactionsAreHeld_fetch_begins :
    let a : BusAddr := 0x70000
    let s : State := { ending with coder := (recording .insert).coder }
    let u := ending.modCoder fun c => { c with job := .recording, mode := .insert }
    (∀ x ∈ [s, u], x.portFree ∧ x.bus.regionOf a.toNat = .recordWindow ∧ x.coder.job = .recording ∧
      x.coder.mode = .insert ∧ x.tape.evaluating = true ∧ x.coder.latch = none) ∧
    s.coder.curHalf = some (halfOf (s.bus.offset 0 a.toNat)) ∧
    s.coder.halves[halfOf (s.bus.offset 0 a.toNat)] = .slot 0 5 ∧ s.coder.slots[(0 : Fin 4)].state = .opened ∧
    u.coder.curHalf = none ∧ u.coder.slots[u.coder.ringPtr].state = .free := by decide

/-- Decode requests while a slot is EVALUATING, in the half last read and at a turnover (R48, R81). -/
theorem test_witness_TransactionsAreHeld_decode_begins :
    let a : BusAddr := 0x71BFF
    let s (half : Fin 2) (q : List (Fin 4)) : State :=
      ending.modMon fun m => { m with effective := .decoded, lastHalf := some half, queue := q }
    (∀ x ∈ [s 1 [], s 0 [3]], x.portFree ∧ x.bus.regionOf a.toNat = .playbackWindow ∧ x.mon.effective = .decoded ∧
      x.tape.evaluating = true ∧ x.tape.run = .running) ∧
    (s 1 []).mon.lastHalf = some (halfOf ((s 1 []).bus.offset 1 a.toNat)) ∧
    (s 0 [3]).mon.lastHalf ≠ some (halfOf ((s 0 [3]).bus.offset 1 a.toNat)) ∧ (s 0 [3]).mon.queue = [3] ∧
    (s 0 [3]).mon.halves[halfOf ((s 0 [3]).bus.offset 1 a.toNat)] = none := by decide

/-- Writes into the slot at the fill pointer while it is FREE, EVALUATING or COMPLETE, and into the next one while the filled
one is COMPLETE, FREE or FILLING (R42, R43, R45). -/
theorem test_witness_FormatterWriteMovesTheFillPointer_rows :
    let s (st : TapeSlotState) : State := filling.modTape fun t =>
      { t with fillPtr := 3, slots := vmod t.slots 3 fun x => { x with state := st } }
    (∀ st ∈ [TapeSlotState.free, .filling, .evaluating, .complete],
      (s st).mem.wf = true ∧ (s st).portFree ∧ (s st).tape.run = .running ∧ (s st).tape.wait = none ∧
        (s st).tape.slots[(3 : Fin 4)].state = st) ∧
    run.bus.regionOf (0x75CDF : BusAddr).toNat = .offTapeImage ∧
    run.bus.offset 3 (0x75CDF : BusAddr).toNat / 1848 = (3 : Fin 4).val ∧
    run.bus.offset 3 (0x75CDF : BusAddr).toNat % 132 = 131 ∧
    run.bus.offset 3 (0x74000 : BusAddr).toNat / 1848 = ((3 : Fin 4) + 1).val ∧
    (let u := (s .complete).modTape fun t => { t with slots := vset t.slots 0 TapeSlot.reset }
     u.tape.slots[(0 : Fin 4)].state = .free) ∧
    (s .complete).tape.slots[(0 : Fin 4)].state ≠ .free := by decide

/-- The rows of LOCKED and FLYWHEEL at the second mismatch, at the limit and at the last address (R54, R55). -/
theorem test_witness_LockAndFlywheel_rows :
    let x : Lock := { state := .locked, expected := 1048575, run := 3, mismatch := 1, flywheel := 0 }
    let y : Lock := { x with state := .flywheel, flywheel := 4 }
    x.state = .locked ∧ x.mismatch = 1 ∧ 7 ≤ 7 ∧ 6 < 7 ∧ (5 : Nat) ≠ x.expected ∧ y.state = .flywheel ∧
    (y.step 7 4 6 (some 5)).2 = some .lockLost ∧ (y.step 7 5 6 (some 5)).1.flywheel = 5 := by decide

/-- A latched pair mixed past the sample range (R123). -/
theorem test_witness_InsertWriteStoresTheMix_saturates :
    let s := (latched.modEdit fun e =>
      { e with
        punch := .inside
        trans := some { pos := 3840, kind := .punchIn, len := 16, shape := .power, prior := .outside } }).modCoder fun c =>
      { c with latch := some { frame := 5, pair := 2, old := #v[0x7FFF, 0x7FFF], source := #v[.free, .free] } }
    (storedWord s.edit.punch s.edit.trans (768 * s.coder.r + 2) 0x7FFF 0x7FFF).saturated = true ∧
    (after (.recordWindowWrite 0x70005 0x7FFF) s).counter .saturation = 1 := by decide

/-- Decode requests of each delivery: a rebuilt word, and a lost one held and decayed (R75). -/
theorem test_witness_PlaybackReadAnswers_deliveries :
    let a : BusAddr := 0x71004
    let s (corr : Corr) (m : CtxMode) : State := (playing.modTape fun t =>
      { t with slots := vmod t.slots 0 fun x => { x with corrA := corr, corrB := corr } }).modDec fun d =>
        { d with mon := vmod d.mon 0 fun x => { x with mode := m } }
    (∀ x ∈ [s .correctable .normal, s .uncorrectable .recovering, s .uncorrectable .muting],
      x.portFree ∧ x.bus.regionOf a.toNat = .playbackWindow ∧
      x.mon.lastHalf = some (halfOf (x.bus.offset 1 a.toNat)) ∧ x.mon.effective = .decoded ∧ x.tape.evaluating = false) ∧
    (after (.playbackWindowRead a) (s .correctable .normal)).counter .wordsCorrected = 1 ∧
    (after (.playbackWindowRead a) (s .uncorrectable .recovering)).counter .wordsHeld = 1 ∧
    (after (.playbackWindowRead a) (s .uncorrectable .muting)).counter .wordsMuted = 1 := by decide


/-! ### Witnesses of the clauses on released requests, EDIT_LOAD's results, the policy and the wait counts -/

/-- A decode request freed by PLAY_STOP and by SOFT_RESET PLAYBACK, both under MUTE after the command, is held audio after the
one and silence after the other (R74, R76). -/
theorem test_witness_TransactionsAreHeld_concealed :
    let x : Txn := { write := false, addr := 0x71001, data := 0 }
    let s := holding x .decodeRead ((ending.modMon fun m => { m with lastHalf := some 0, effective := .decoded }).modDec fun d =>
      { d with mon := vset d.mon 1 { last := 500, mode := .normal, hold := 0, step := 0 } })
    (∀ e ∈ [Instr.playStop, .softResetPlayback],
      (due e s).bus.op = .running ∧ (due e s).holds { txn := x, kind := .decodeRead } ∧ (due e s).tape.evaluating = true ∧
      goes e (due e s).unheld = true ∧ (after e (due e s).unheld).bus.counts.guarded = false ∧
      (after e (due e s).unheld).tape.evaluating = false ∧ (after e (due e s).unheld).mon.effective = .mute) ∧
    (after .playStop (due .playStop s)).bus.data = 500 ∧ (after .playStop (due .playStop s)).counter .wordsHeld = 1 ∧
    (after .softResetPlayback (due .softResetPlayback s)).bus.data = 0 := by decide

/-- Loads below an ARMED head, of a kind that does not alternate, across a protected frame, and behind the recording (R97). -/
theorem test_witness_EditLoadPlacesAtTheTail_results :
    let s := (recording .insert).modEdit fun _ => armed.edit
    let u := s.modCopy fun c => { c with ranges := vset c.ranges 0 { start := 8, stop := 8, enable := true, active := true } }
    let v := (run.modEdit fun e => { e with arm := .armed }).modCoder fun c =>
      { c with job := .recording, mode := .insert, recPos := some 3840 }
    let low : Entry := entry 2 .punchOut 3849
    let tail (k : PunchKind) (f : Nat) : Entry := entry 2 k (768 * f)
    s.edit.list = [] ++ s.edit.list ∧ (∀ y ∈ s.edit.list, 3849 < y.loc) ∧ (∃ y ∈ s.edit.list, y.state ≠ .pending) ∧
    s.edit.list.length < 8 ∧ s.edit.outcomes[(2 : Fin 8)].inUse = false ∧ low.loc = 768 * 5 + 9 ∧
    s.edit.list = s.edit.list ++ [] ∧ (∀ y ∈ s.edit.list, y.loc < 768 * 8) ∧
    alternates s.edit.punch (s.edit.list ++ [tail .punchOut 8]) = false ∧
    alternates u.edit.punch (u.edit.list ++ [tail .punchIn 8]) = true ∧ u.copy.isProtected 8 = true ∧
    v.edit.list = [] ∧ v.edit.arm = .armed ∧ v.coder.job = .recording ∧ v.coder.position = some 3840 ∧
    v.edit.outcomes[(2 : Fin 8)].inUse = false ∧ v.copy.isProtected 5 = false ∧
    alternates v.edit.punch ([] ++ [tail .punchIn 5]) = true ∧ (tail .punchIn 5).loc ≤ 3840 ∧
    (after (.editLoad 2 0 0 5 0) (due (.editLoad 2 0 0 5 0) v)).cmd.phase = .due .editLoad .late := by decide

/-- A stricter and a freer analog status under a monitored analog input, and a held one (R132, R133, R137, R139). -/
theorem test_witness_PolicyWriteAndSeal_derives :
    let s := run.modMon fun m => { m with effective := .input }
    let t := after (.policyRecordWrite 0 1) s
    let u := after (.policyRecordWrite 0 0) t
    s.portFree ∧ s.copy.sealed = false ∧ t.copy.derived = .once ∧ t.copy.recording = .once ∧ t.copy.output = .once ∧
    t.isRaised .inputChanged = true ∧ u.copy.derived = .free ∧ u.copy.recording = .once ∧ u.copy.output = .free ∧
    (after (.policyRecordWrite 0 3) t).copy.derived = .once := by decide

/-- A count that reaches 16 at a served transaction, and the grant that takes it to 0 while another's stands (R154). -/
theorem test_witness_EngineGrantsMakeOneAccess_counts :
    let s := ((run.modBus fun b => { b with counts := { close := 15, eval := 0, report := 7 } }).modCoder fun c =>
      { c with close := some { slot := 1, fill := [5], underrun := false, status := none, done := 0 } }).modRep fun r =>
        { r with pass := some [.word 0 0] }
    let x : Txn := { write := true, addr := 0x7F400, data := 1 }
    let t := after x.row s
    s.portFree ∧ s.waiting .close = true ∧ s.waiting .eval = false ∧ s.waiting .report = true ∧
    (t.bus.counts.close, t.bus.counts.eval, t.bus.counts.report) = (16, 0, 8) ∧ t.grantee = some .close ∧
    (after .enginePortGrant t).bus.counts.close = 0 ∧ (after .enginePortGrant t).bus.counts.report = 8 := by decide

/-- A waiting turnover frees the slot its half was bound to where no other hold stands on it (R58, R81, assumption 26). -/
theorem test_witness_PlaybackTurnoverBindsHead_frees :
    let s := (playing.modTape fun t => { t with slots := vmod t.slots 1 fun x => { x with state := .evaluating } }).modMon
      fun m => { m with effective := .mute, lastHalf := some 1 }
    s.tape.slots[(0 : Fin 4)].state = .complete ∧ s.coder.mixHolds s.tape.slots[(0 : Fin 4)].frame = false ∧
    s.mon.halves[(1 : Fin 2)] ≠ some 0 ∧
    (after (.playbackWindowRead 0x71000) s).tape.slots[(0 : Fin 4)].state = .free ∧
    (after (.playbackWindowRead 0x71000) s).bus.held.isSome = true := by decide


/-- A reset that ends a recording's hold on the monitor: to INPUT, PATTERN and MUTE, and to DECODED with a bound half
(R87, R89, R137, R138). The output status after it, by the table of R137. -/
theorem test_witness_SoftResetRecordRests_source_changes :
    let s (x : Source) (e : Effective) : State := due .softResetRecord { playing with
      coder := (recording .insert).coder, mon := { playing.mon with selected := x, effective := e },
      copy := { playing.copy with derived := .once, output := .none },
      tape := { playing.tape with lock := Lock.reset } }
    let t (x : Source) (e : Effective) : State := after .softResetRecord (s x e)
    (∀ x : Source × Effective, x = (.input, .mute) ∨ x = (.pattern, .mute) ∨ x = (.mute, .decoded) ∨ x = (.tape, .mute) →
      (s x.1 x.2).aboutToTake .softResetRecord ∧ (t x.1 x.2).effectiveOf ≠ (s x.1 x.2).mon.effective) ∧
    (t .input .mute).copy.output = .once ∧ (t .pattern .mute).copy.output = .free ∧
    (t .mute .decoded).copy.output = .free ∧ (t .tape .mute).copy.output = .free ∧
    (t .tape .mute).mon.effective = .decoded := by
  refine ⟨?_, by decide⟩
  rintro x (rfl | rfl | rfl | rfl) <;> decide

/-- A reset that ends a punch with its PUNCH_OUT at the head, one that returns the comparator entry, and one that frees an
off-tape slot that only the mix hold kept (R38, R58, R110). -/
theorem test_witness_SoftResetRecordRests_list_and_slots :
    let x : Entry := entry 1 .punchOut 4608
    let s := due .softResetRecord { recording .insert with
      edit := { loaded.edit with list := [x], punch := .inside }, tape := playing.tape }
    let u := due .softResetRecord { armed with coder := (recording .insert).coder }
    s.aboutToTake .softResetRecord ∧ s.edit.list = [x] ∧ s.edit.punch = .inside ∧ x.kind = .punchOut ∧
    s.tape.slots[(0 : Fin 4)].state = .complete ∧ 0 ∉ s.mon.queue ∧ (∀ h : Fin 2, s.mon.halves[h] ≠ some 0) ∧
    u.aboutToTake .softResetRecord ∧ u.edit.owner = .waitL1 ∧ u.edit.punch = .outside ∧ u.edit.list ≠ [] ∧
    (after .softResetRecord s).edit.outcomes[(1 : Fin 8)].state = .cancelled ∧
    (after .softResetRecord s).tape.slots[(0 : Fin 4)].state = .free ∧
    (after .softResetRecord u).edit.outcomes[(0 : Fin 8)].state = .pending := by decide

namespace Sys2Proof.Tests

/-- MONITOR_SELECT of source `v` with the override about to be taken, the source `e` in force, half 0 bound to a slot of status
ONCE, and a derived permission ONCE. -/
def choosing (v : Word) (e : Effective) : State :=
  due (.monitorSelect v 1) { playing with
    mon := { playing.mon with effective := e }
    copy := { playing.copy with derived := .once, output := .none }
    tape := { playing.tape with slots := vset playing.tape.slots 0 { heldSlot 2 with status := .once } } }

/-- The state after it. -/
def chosen (v : Word) (e : Effective) : State := after (.monitorSelect v 1) (choosing v e)

end Sys2Proof.Tests

/-- A selection that changes the effective source, to each source (R86, R89, R137, R138). -/
theorem test_witness_MonitorSelectSelects_changes :
    (choosing 2 .decoded).aboutToTake (.monitorSelect 2 1) ∧ (2 : Word).toNat = Source.input.code ∧
    (choosing 1 .mute).aboutToTake (.monitorSelect 1 1) ∧ (1 : Word).toNat = Source.tape.code ∧ (1 : Word).toNat ≤ 1 ∧
    ¬((choosing 1 .mute).mon.selected = .tape ∧ (choosing 1 .mute).mon.override = decide ((1 : Word) = 1)) ∧
    (chosen 2 .decoded).effectiveOf = .input ∧ (chosen 1 .mute).effectiveOf = .decoded := by decide

theorem test_monitorSelect_output_status :
    (chosen 2 .decoded).copy.output = .once ∧ (chosen 3 .decoded).copy.output = .free ∧
    (chosen 4 .decoded).copy.output = .free ∧ (chosen 1 .mute).copy.output = .once := by decide

/-- A turnover while STOPPED, an underrun that frees the half's former slot, and turnovers for INPUT, PATTERN and DECODED,
the last also with an evaluation running (R48, R58, R81, R84, R137, R138). -/
theorem test_witness_PlaybackTurnoverBindsHead_runs_and_sources :
    let a : BusAddr := 0x71000
    let s (r : RunState) (e : Effective) (q : List (Fin 4)) : State := { playing with
      mon := { playing.mon with lastHalf := some 1, effective := e, queue := q },
      copy := { playing.copy with derived := .once, output := .none },
      tape := { playing.tape with run := r, slots := vset playing.tape.slots 2 { heldSlot 2 with frame := 8, status := .once } } }
    let busy := (s .running .decoded [2]).modTapeSlot 1 fun x => { x with state := .evaluating }
    let t (x : State) : State := after (.playbackWindowRead a) x
    (∀ x ∈ [s .stopped .mute [], s .stopped .input [2], s .running .pattern [], s .running .decoded [2], busy],
      x.portFree ∧ x.bus.regionOf a.toNat = .playbackWindow ∧
      x.mon.lastHalf ≠ some (halfOf (x.bus.offset 1 a.toNat)) ∧
      x.mon.halves[halfOf (x.bus.offset 1 a.toNat)] = some 0) ∧
    (s .running .pattern []).tape.evaluating = false ∧ (s .running .decoded [2]).tape.evaluating = false ∧
    busy.tape.evaluating = true ∧ (t (s .stopped .mute [])).copy.output = .free ∧
    (t (s .stopped .input [2])).copy.output = .once ∧ (t (s .stopped .input [2])).mon.queue = [2] ∧
    (t (s .running .pattern [])).copy.output = .free ∧ (t (s .running .pattern [])).isSet .monitorUnderrun = true ∧
    (t (s .running .pattern [])).tape.slots[(0 : Fin 4)].state = .free ∧
    (t (s .running .decoded [2])).copy.output = .once ∧ (t (s .stopped .decoded [2])).copy.output = .none ∧
    (t busy).bus.held.isSome = true ∧ (t busy).copy.output = .once := by decide

namespace Sys2Proof.Tests

/-- Three entries of alternating kinds at 3850, 4608 and 5000, handles 0, 1 and 2. -/
def three : List Entry := [entry 0 .punchIn 3850, entry 1 .punchOut 4608, entry 2 .punchIn 5000]

/-- A LOCATE waiting over the list `l`, armed, while INSERT recording stands at `p`. -/
def locating (l : List Entry) (p : Nat) : State :=
  { recording .insert with
    coder := { (recording .insert).coder with recPos := some p }
    edit := { loaded.edit with list := l, arm := .armed, owner := .locateWait, target := some 3 } }

/-- The record passed the head of the three alone: two go and the third is left (R113). -/
theorem split_leaves_one : returnSplit (some 4000) three [entry 0 .punchIn 3850, entry 1 .punchOut 4608] [entry 2 .punchIn 5000] := by
  refine ⟨rfl, by decide, fun n x h => ?_, fun x q hx hq => ?_⟩
  · match n with
    | 0 => cases h; exact ⟨4000, rfl, by decide⟩
    | n + 1 => simp [show 2 * (n + 1) = 2 * n + 1 + 1 by omega] at h
  · cases hx; cases hq; decide

/-- The record passed every head of the three: all go, the last alone (R113). -/
theorem split_leaves_none : returnSplit (some 5001) three three [] := by
  refine ⟨rfl, by decide, fun n x h => ?_, fun x q hx => by cases hx⟩
  match n with
  | 0 => cases h; exact ⟨5001, rfl, by decide⟩
  | 1 => cases h; exact ⟨5001, rfl, by decide⟩
  | n + 2 => simp [three, show 2 * (n + 2) = 2 * n + 1 + 1 + 1 + 1 by omega] at h

end Sys2Proof.Tests

/-- The return test over a list of three: one pair missed and the third armed, and all missed (R113). -/
theorem test_witness_LocateAndCancel_misses :
    (∀ p ∈ [4000, 5001], let s := due .locateCancel (locating three p)
      s.aboutToTake .locateCancel ∧ s.edit.owner = .locateWait ∧ s.edit.arm = .armed ∧ s.edit.rearm = none ∧
      s.edit.list = entry 0 .punchIn 3850 :: [entry 1 .punchOut 4608, entry 2 .punchIn 5000] ∧
      (entry 0 .punchIn 3850).state = .pending ∧ s.coder.position = some p) ∧
    returnSplit (some 4000) three [entry 0 .punchIn 3850, entry 1 .punchOut 4608] [entry 2 .punchIn 5000] ∧
    returnSplit (some 5001) three three [] ∧
    (after .locateCancel (due .locateCancel (locating three 4000))).edit.entry = some 2 ∧
    (after .locateCancel (due .locateCancel (locating three 5001))).edit.list = [] :=
  ⟨by decide, split_leaves_one, split_leaves_none, by decide, by decide⟩

/-- A LOCATE that a frame reaches while LOCKED, with a list whose first pair is missed (R112, R113). -/
theorem test_witness_EvaluationEndSettles_misses :
    let s : State := { ending with
      coder := (locating three 4000).coder, edit := (locating three 4000).edit
      tape := { ending.tape with lock := { Lock.reset with state := .locked, expected := 7 } } }
    let t := after .evaluationEnd s
    s.bus.op = .running ∧ s.noneHeld ∧ s.tape.eval = some judged ∧ s.tape.slots[judged.slot].state = .evaluating ∧
    (∀ k : Fin 4, k ≠ judged.slot → s.tape.slots[k].state = .complete →
      s.tape.slots[k].frame ≠ s.tape.slots[judged.slot].frame) ∧
    s.edit.owner = .locateWait ∧ t.tape.lock.state = .locked ∧ s.edit.target = some 3 ∧
    3 ≤ s.tape.slots[judged.slot].frame ∧ s.coder.position = some 4000 ∧
    t.isSet .located = true ∧ t.isSet .missed = true ∧ t.edit.entry = some 2 := by decide

/-- A fade wait that ends at its re-arm position: the head below its location, fired, and seeking; and the return test that
waited for it, with a pair missed and with all missed (R104, R105, R109, R113). -/
theorem test_witness_PunchFires_fade_wait :
    let s (l : List Entry) (test : Bool) : State :=
      let u := locating l 0
      { u with edit := { u.edit with owner := .idle, target := none, rearm := some 4000, returnTest := test } }
    let x : Entry := { entry 0 .punchIn 3850 with cond := .zeroCross, chan := some 1, span := some 9999 }
    let t (l : List Entry) (test : Bool) (q : Nat) : State := (s l test).pairEvent q (some #v[0, 0])
    (∀ l ∈ [three, [x]], ∀ b : Bool, (s l b).edit.owner = .idle ∧ (s l b).edit.arm = .armed ∧ (s l b).edit.rearm = some 4000 ∧
      (s l b).edit.list = l ∧ l.head?.map Entry.state = some .pending ∧ (s l b).coder.job = .recording) ∧
    4000 ≤ 4000 ∧ returnSplit (some 4000) three [entry 0 .punchIn 3850, entry 1 .punchOut 4608] [entry 2 .punchIn 5000] ∧
    returnSplit (some 5001) three three [] ∧
    (t three false 4000).edit.outcomes[(0 : Fin 8)].state = .fired ∧ (t three false 3999).edit.rearm = some 4000 ∧
    (t [entry 1 .punchOut 4608] false 4000).edit.owner = .waitL1 ∧ (t [x] false 4000).edit.owner = .waitL2 ∧
    (t three true 4000).edit.entry = some 2 ∧ (t three true 5001).edit.list = [] := by
  exact ⟨by decide, by decide, split_leaves_one, split_leaves_none, by decide⟩

/-- The last pair of frame 5, held with its source statuses kept: the slot of frame 5 is of another rate, and the GOOD word of
frame 6, of the record rate, is not interpolated to (R61, R62, R128). -/
theorem test_rate_mismatch_holds_the_last_pair :
    let a : BusAddr := 0x705FE
    let s : State := { recording .insert with
      tape := { playing.tape with slots := #v[{ heldSlot 0 with frame := 5, rate := 1 }, { heldSlot 0 with frame := 6 },
        TapeSlot.reset, TapeSlot.reset] }
      coder := { (recording .insert).coder with source := #v[.once, .none] }
      dec := { run.dec with mix := #v[{ Ctx.reset with last := 500 }, { Ctx.reset with last := 600 }] } }
    let t := after (.recordWindowWrite a 9) s
    s.mem.wf = true ∧ s.portFree ∧ s.bus.regionOf a.toNat = .recordWindow ∧ s.coder.job = .recording ∧
    s.coder.mode = .insert ∧ s.coder.curHalf = some (halfOf (s.bus.offset 0 a.toNat)) ∧
    s.coder.halves[halfOf (s.bus.offset 0 a.toNat)] = .slot 0 5 ∧ s.coder.slots[(0 : Fin 4)].state = .opened ∧
    s.coder.latch = none ∧ s.tape.evaluating = false ∧ s.coder.openSlot = some 0 ∧ s.tape.completeAt 5 = some 0 ∧
    s.tape.slots[(0 : Fin 4)].rate ≠ s.coder.slots[(0 : Fin 4)].rate ∧ s.tape.completeAt 6 = some 1 ∧
    s.tape.slots[(1 : Fin 4)].rate = s.coder.slots[(0 : Fin 4)].rate ∧ pairIn (s.bus.offset 0 a.toNat) = 767 ∧
    t.coder.latch = some { frame := 5, pair := 767, old := #v[500, 600], source := #v[.once, .none] } ∧
    t.coder.source = #v[.once, .none] ∧ t.counter .wordsHeld = 2 ∧ t.counter .wordsInterpolated = 0 ∧
    t.isSet .rateMismatch = true := by decide

/-- A stop that ends a punch with its PUNCH_OUT at the head, one that returns the comparator entry, and one that frees an
off-tape slot that only the mix hold kept; and the same at the end of the range (R35, R58, R89, R110). -/
theorem test_witness_RecordStopStops_list_and_slots :
    let x : Entry := entry 1 .punchOut 4608
    let a : BusAddr := 0x70BFF
    let s : State := { recording .insert with
      edit := { loaded.edit with list := [x], punch := .inside }, tape := playing.tape }
    let u : State := { armed with coder := (recording .insert).coder }
    let last : State → State := fun y => y.modCoder fun c => { c with r := 1048575 }
    let stop : State → State := fun y => after .recordStop (due .recordStop y)
    let ends : State → State := fun y => after (.recordWindowWrite a 9) (last y)
    (∀ y ∈ [s, u], (due .recordStop y).aboutToTake .recordStop ∧ y.coder.job = .recording ∧ (last y).portFree ∧
      (last y).bus.regionOf a.toNat = .recordWindow ∧ (last y).coder.curHalf = some 0 ∧
      halfOf ((last y).bus.offset 0 a.toNat) ≠ 0 ∧
      (last y).coder.halfClosing (halfOf ((last y).bus.offset 0 a.toNat)) = false ∧ (last y).coder.r = 1048575) ∧
    s.edit.list = [x] ∧ s.edit.punch = .inside ∧ x.kind = .punchOut ∧
    s.tape.slots[(0 : Fin 4)].state = .complete ∧ 0 ∉ s.mon.queue ∧ (∀ h : Fin 2, s.mon.halves[h] ≠ some 0) ∧
    u.edit.owner = .waitL1 ∧ u.edit.punch = .outside ∧ u.edit.list ≠ [] ∧
    (∀ f ∈ [stop, ends], (f s).edit.outcomes[(1 : Fin 8)].state = .cancelled ∧ (f s).edit.list = [] ∧
      (f s).tape.slots[(0 : Fin 4)].state = .free ∧ (f u).edit.outcomes[(0 : Fin 8)].state = .pending ∧
      (f u).edit.arm = .disarmed) := by decide

/-- Arming with the return test pending from a LOCATE that ended while the list was DISARMED: a pair missed and the third
armed, and all missed; and a load into an empty armed list, which leaves nothing to miss (R97, R104, R113). -/
theorem test_witness_EditArmAndDisarm_misses :
    let s (p : Nat) : State := due .editArm { locating three p with
      edit := { (locating three p).edit with arm := .disarmed, owner := .idle, target := none, returnTest := true } }
    let i : Instr := .editLoad 0 0 0 5 10
    let u : State := due i (run.modEdit fun e => { e with arm := .armed, returnTest := true })
    (∀ p ∈ [4000, 5001], (s p).aboutToTake .editArm ∧ (s p).coder.mode = .insert ∧ (s p).edit.arm = .disarmed ∧
      (s p).edit.owner = .idle ∧ (s p).edit.rearm = none ∧ (s p).edit.returnTest = true ∧
      (s p).edit.list = entry 0 .punchIn 3850 :: [entry 1 .punchOut 4608, entry 2 .punchIn 5000] ∧
      (entry 0 .punchIn 3850).state = .pending ∧ (s p).coder.position = some p) ∧
    returnSplit (some 4000) three [entry 0 .punchIn 3850, entry 1 .punchOut 4608] [entry 2 .punchIn 5000] ∧
    returnSplit (some 5001) three three [] ∧
    (after .editArm (s 4000)).edit.entry = some 2 ∧ (after .editArm (s 4000)).edit.outcomes[(0 : Fin 8)].state = .missed ∧
    (after .editArm (s 4000)).isSet .missed = true ∧ (after .editArm (s 5001)).edit.list = [] ∧
    u.aboutToTake i ∧ u.edit.list = [] ∧ u.edit.arm = .armed ∧ u.edit.owner = .idle ∧ u.edit.rearm = none ∧
    (after i u).edit.entry = some 0 ∧ (after i u).edit.returnTest = false :=
  ⟨by decide, split_leaves_one, split_leaves_none, by decide⟩

/-- The write that begins an overrun wait is no gap, at word 131 of block 13 too (R44, assumption 27). -/
theorem test_witness_FormatterWriteMovesTheFillPointer_begins :
    let a : BusAddr := 0x74E6F
    let s := filling.modTape fun t => { t with slots := vset t.slots 1 (heldSlot 2) }
    s.portFree ∧ s.bus.regionOf a.toNat = .offTapeImage ∧ s.tape.run = .running ∧ s.tape.wait = none ∧
    s.bus.offset 3 a.toNat / 1848 = (s.tape.fillPtr + 1).val ∧ s.bus.offset 3 a.toNat % 1848 = 1847 ∧
    s.tape.slots[s.tape.fillPtr + 1].state ≠ .free ∧ (after (.offTapeImageWrite a 9) s).tape.wait = some 0 := by decide

end
end

section
/-! PROOFS. The tape frame format: the interleave, the headers, the check sums and the parity relation of a record slot
(R4 to R14, R24). -/

namespace Sys2Proof.Machine

/-! ### Groups, the interleave and its inverse (R2, R4, R5) -/

theorem blockOf_div_two (n c : Nat) : blockOf n c / 2 = n / 2 % 6 := by unfold blockOf; omega

/-- Word (n, c) lies in the group that the parity of n + c names (R6). -/
theorem groupOf_blockOf (n c : Nat) : groupOf (blockOf n c) = (n + c) % 2 := by unfold groupOf blockOf; omega

theorem posOf_div_two (n : Nat) : posOf n / 2 = n / 12 := by unfold posOf; omega

theorem posOf_mod_two (n : Nat) : posOf n % 2 = n % 2 := by unfold posOf; omega

theorem blockOf_lt (n c : Nat) : blockOf n c < 12 := by unfold blockOf; omega

theorem posOf_lt {n : Nat} (h : n < 768) : posOf n < 128 := by unfold posOf; omega

theorem groupOf_lt (b : Nat) : groupOf b < 2 := Nat.mod_lt _ (by decide)

theorem parityBlock_lt (b : Nat) : parityBlock b < 14 := Nat.add_lt_add_left (groupOf_lt b) 12

/-- A data block is no parity block (R2). -/
theorem ne_parityBlock {b' : Nat} (h : b' < 12) (b : Nat) : b' ≠ parityBlock b := by unfold parityBlock; omega

theorem pairOf_lt {b p : Nat} (hb : b < 12) (hp : p < 128) : pairOf b p < 768 := by unfold pairOf; omega

theorem chanOf_lt (b p : Nat) : chanOf b p < 2 := Nat.mod_lt _ (by decide)

theorem pairOf_blockOf_posOf (n c : Nat) : pairOf (blockOf n c) (posOf n) = n := by
  rw [pairOf, posOf_div_two, posOf_mod_two, blockOf_div_two]
  omega

theorem chanOf_blockOf_posOf (n : Nat) {c : Nat} (hc : c < 2) : chanOf (blockOf n c) (posOf n) = c := by
  have hg : blockOf n c % 2 = (n + c) % 2 := groupOf_blockOf n c
  rw [chanOf, posOf_mod_two, hg]
  omega

theorem posOf_pairOf {b : Nat} (hb : b < 12) (p : Nat) : posOf (pairOf b p) = p := by unfold posOf pairOf; omega

theorem blockOf_pairOf_chanOf {b : Nat} (hb : b < 12) (p : Nat) : blockOf (pairOf b p) (chanOf b p) = b := by
  have hk : pairOf b p / 2 % 6 = b / 2 := by unfold pairOf; omega
  have hg : (pairOf b p + chanOf b p) % 2 = b % 2 := by unfold pairOf chanOf; omega
  rw [blockOf, hk, hg]
  omega

/-! ### The fields of the headers (R7, R8, R174) -/

theorem CopyStatus.code_lt (st : CopyStatus) : st.code < 3 := by cases st <;> decide

@[simp] theorem CopyStatus.ofCode_code (st : CopyStatus) : CopyStatus.ofCode st.code = st := by cases st <;> rfl

/-- The four fields fit the word: header A is their sum, with no carry between them (R174). -/
theorem headerA_toNat {b rate f : Nat} (st : CopyStatus) (hb : b < 14) (hr : rate < 3) (hf : f ≤ Config.maxFrame) :
    (headerA b rate st f).toNat = b + 16 * rate + 64 * st.code + 4096 * (f / 65536) := by
  have hst := st.code_lt
  unfold Config.maxFrame at hf
  rw [headerA, BitVec.toNat_ofNat]
  omega

theorem headerB_toNat (f : Nat) : (headerB f).toNat = f % 65536 := by
  rw [headerB, BitVec.toNat_ofNat]
  omega

section
variable {b rate f : Nat} (st : CopyStatus) (hb : b < 14) (hr : rate < 3) (hf : f ≤ Config.maxFrame)
include hb hr hf

theorem headIndex_headerA : headIndex (headerA b rate st f) = b := by
  have hst := st.code_lt
  rw [headIndex, headerA_toNat st hb hr hf]
  omega

theorem headRate_headerA : headRate (headerA b rate st f) = rate := by
  have hst := st.code_lt
  rw [headRate, headerA_toNat st hb hr hf]
  omega

theorem headStatus_headerA : headStatus (headerA b rate st f) = st.code := by
  have hst := st.code_lt
  rw [headStatus, headerA_toNat st hb hr hf]
  omega

theorem headFrame_headerA_headerB : headFrame (headerA b rate st f) (headerB f) = f := by
  have hst := st.code_lt
  rw [headFrame, headerA_toNat st hb hr hf, headerB_toNat]
  omega

/-- The header tests of R47 pass: the index is the block's own, and neither code is the invalid one. -/
theorem headerOk_headerA : headerOk b (headerA b rate st f) = true := by
  simp only [headerOk, headIndex_headerA st hb hr hf, headRate_headerA st hb hr hf, headStatus_headerA st hb hr hf,
    Bool.and_eq_true, beq_iff_eq, bne_iff_ne]
  exact ⟨⟨trivial, hr.ne⟩, st.code_lt.ne⟩

/-- The spare field is written as zero (R7). -/
theorem headerA_spare : (headerA b rate st f).extractLsb' 8 4 = 0 := by
  have hst := st.code_lt
  apply BitVec.eq_of_toNat_eq
  rw [BitVec.extractLsb'_toNat, headerA_toNat st hb hr hf, Nat.shiftRight_eq_div_pow]
  change _ = 0
  omega

end

/-! ### Check sums as residues (R12, R14) -/

theorem Sums.eq_of_intCast {σ τ : Sums} (h1 : (σ.s1 : Int) = τ.s1) (h2 : (σ.s2 : Int) = τ.s2) : σ = τ := by
  obtain ⟨s1, s2⟩ := σ
  obtain ⟨t1, t2⟩ := τ
  simp only [Sums.mk.injEq, Int.natCast_inj] at h1 h2 ⊢
  exact ⟨h1, h2⟩

theorem Sums.update_lt (σ : Sums) (i : Nat) (old new : Word) :
    (σ.update i old new).s1 < 65535 ∧ (σ.update i old new).s2 < 65535 :=
  ⟨Nat.mod_lt _ (by decide), Nat.mod_lt _ (by decide)⟩

/-- The difference that the update carries is new − old and one modulus. -/
theorem update_difference (old new : Word) :
    ((new.toNat + sumMod - old.toNat : Nat) : Int) = (new.toNat : Int) - old.toNat + 65535 := by
  have := old.isLt
  unfold sumMod
  omega

theorem Sums.update_s1 (σ : Sums) (i : Nat) (old new : Word) :
    ((σ.update i old new).s1 : Int) = ((σ.s1 : Int) + new.toNat - old.toNat) % 65535 := by
  have hd := update_difference old new
  simp only [Sums.update]
  generalize new.toNat + sumMod - old.toNat = d at hd ⊢
  unfold sumMod
  omega

theorem Sums.update_s2 (σ : Sums) (i : Nat) (old new : Word) :
    ((σ.update i old new).s2 : Int) = ((σ.s2 : Int) + (i + 1) * ((new.toNat : Int) - old.toNat)) % 65535 := by
  simp only [Sums.update, Int.natCast_emod, Int.natCast_add, Int.natCast_mul, update_difference]
  rw [mul_add, ← add_assoc]
  exact Int.add_mul_emod_self_right _ _ _

/-- Words of one residue are not told apart by the sums: 0 and 65535 are the only two such words (R12). -/
theorem Sums.update_of_dvd {σ : Sums} {old new : Word} (i : Nat) (h1 : σ.s1 < 65535) (h2 : σ.s2 < 65535)
    (h : (65535 : Int) ∣ new.toNat - old.toNat) : σ.update i old new = σ := by
  refine Sums.eq_of_intCast ?_ ?_
  · rw [Sums.update_s1]
    omega
  · rw [Sums.update_s2, Int.add_emod, Int.emod_eq_zero_of_dvd (Dvd.dvd.mul_left h _)]
    omega

/-- One member of a list set to another value: what the sum gains and loses. -/
theorem sum_set_add_getElem {l : List Nat} {i : Nat} (h : i < l.length) (a : Nat) :
    (l.set i a).sum + l[i] = l.sum + a := by
  rw [List.sum_set, if_pos h, ← List.sum_take_add_sum_drop l i, List.drop_eq_getElem_cons h, List.sum_cons]
  omega

/-- The sums of a changed block, as residues of the sums of the block and the change. -/
theorem sumsOf_set {ws : List Word} {i : Nat} (h : i < ws.length) (v : Word) :
    ((sumsOf (ws.set i v)).s1 : Int) = ((sumsOf ws).s1 + v.toNat - ws[i].toNat) % 65535 ∧
    ((sumsOf (ws.set i v)).s2 : Int) = ((sumsOf ws).s2 + (i + 1) * ((v.toNat : Int) - ws[i].toNat)) % 65535 := by
  constructor
  · have hsum := sum_set_add_getElem (l := ws.map BitVec.toNat) (i := i) (by simpa using h) v.toNat
    rw [← List.map_set, List.getElem_map] at hsum
    simp only [sumsOf, sumMod]
    omega
  · have hsum := sum_set_add_getElem (l := ws.mapIdx fun k w => (k + 1) * w.toNat) (i := i) (by simpa using h)
      ((i + 1) * v.toNat)
    rw [← List.mapIdx_set, List.getElem_mapIdx] at hsum
    simp only [sumsOf, sumMod, Int.natCast_emod, Nat.cast_ofNat, Int.emod_add_emod]
    congr 1
    push_cast [← Int.natCast_inj] at hsum ⊢
    linear_combination hsum

/-! ### The maps of a record slot -/

theorem vget_vput_same {α : Type} {n : Nat} (v : Vector α n) {i : Nat} (x d : α) (h : i < n) :
    vget (vput v i x) i d = x := by
  simp [vget, vput, h]

theorem vget_vput_other {α : Type} {n : Nat} (v : Vector α n) {i j : Nat} (x d : α) (h : i ≠ j) :
    vget (vput v i x) j d = vget v j d := by
  simp [vget, vput, Vector.getElem?_setIfInBounds_ne h]

theorem payloadBit_getLsbD {p : Nat} (hp : p < 128) (q : Nat) : (payloadBit p).getLsbD q = decide (p = q) := by
  rw [payloadBit, BitVec.getLsbD_ofNat, Nat.testBit_two_pow]
  by_cases h : p = q
  · subst h
    simp only [hp, decide_true, Bool.and_self]
  · simp only [h, decide_false, Bool.and_false]

theorem setEntry_same {n : Nat} (m : Vector (BitVec 128) n) {i p : Nat} (hi : i < n) (hp : p < 128) :
    (vget (setEntry m i p) i 0).getLsbD p = true := by
  rw [setEntry, vget_vput_same _ _ _ hi, BitVec.getLsbD_or, payloadBit_getLsbD hp]
  simp

theorem setEntry_other {n : Nat} (m : Vector (BitVec 128) n) {i p j q : Nat} (hi : i < n) (hp : p < 128)
    (h : j ≠ i ∨ q ≠ p) : (vget (setEntry m i p) j 0).getLsbD q = (vget m j 0).getLsbD q := by
  by_cases hj : j = i
  · subst hj
    have hq : p ≠ q := by omega
    rw [setEntry, vget_vput_same _ _ _ hi, BitVec.getLsbD_or, payloadBit_getLsbD hp]
    simp [hq]
  · rw [setEntry, vget_vput_other _ _ _ (Ne.symm hj)]

/-- Two payload words of one slot lie at two addresses, wherever the slot stands in memory. -/
theorem State.recAddr_payload_ne (s : State) (k : Fin 4) {b p b' p' : Nat} (hb : b < 14) (hp : p < 128) (hb' : b' < 14)
    (hp' : p' < 128) (h : b' ≠ b ∨ p' ≠ p) :
    s.recAddr k (slotOffset b' (2 + p')) % Config.memoryWords ≠
      s.recAddr k (slotOffset b (2 + p)) % Config.memoryWords := by
  have hoff : slotOffset b' (2 + p') ≠ slotOffset b (2 + p) := by unfold slotOffset Config.blockWords; omega
  have hlt : slotOffset b (2 + p) < 1848 ∧ slotOffset b' (2 + p') < 1848 := by
    unfold slotOffset Config.blockWords
    omega
  unfold State.recAddr Config.memoryWords
  omega

/-! ### What storing a word does to the slot's maps and to memory (R24) -/

theorem State.storeWord_written (s : State) (k : Fin 4) (b p : Nat) (x : Word) :
    (s.storeWord k b p x).coder.slots[k].written = setEntry s.coder.slots[k].written b p := by
  simp [State.storeWord, vmod, vset]

theorem State.storeWord_touched (s : State) (k : Fin 4) (b p : Nat) (x : Word) :
    (s.storeWord k b p x).coder.slots[k].touched = setEntry s.coder.slots[k].touched (groupOf b) p := by
  simp [State.storeWord, vmod, vset]

@[simp] theorem State.storeWord_recAddr (s : State) (k j : Fin 4) (b p : Nat) (x : Word) (off : Nat) :
    (s.storeWord k b p x).recAddr j off = s.recAddr j off := by
  simp [State.recAddr, BusPath.base]

/-- Memory after the store: the data word and, at the same position of the group's parity block, the parity word with the
change of the data word XORed into it. -/
theorem State.storeWord_peek (s : State) (k : Fin 4) (b p : Nat) (x : Word) (a : Nat) :
    (s.storeWord k b p x).peek a =
      ((s.poke (s.recAddr k (slotOffset b (2 + p))) x).poke (s.recAddr k (slotOffset (parityBlock b) (2 + p)))
        (s.parityValue k (groupOf b) p ^^^ s.dataValue k b p ^^^ x)).peek a := rfl

section
variable {s : State} {k : Fin 4} {b p : Nat} (x : Word) (hp : p < 128)
include hp

/-- The parity word of the stored word's group takes up the change of the data word (R10). -/
theorem State.parityValue_storeWord_same (hw : s.mem.wf = true) :
    (s.storeWord k b p x).parityValue k (groupOf b) p = s.parityValue k (groupOf b) p ^^^ s.dataValue k b p ^^^ x := by
  rw [State.parityValue, State.recOld, RecSlot.isTouched, State.storeWord_touched, setEntry_same _ (groupOf_lt b) hp,
    if_pos rfl, State.storeWord_recAddr, State.storeWord_peek, ← parityBlock, State.peek_poke_same _ (s.wf_poke hw _ _)]

variable (hb : b < 12)
include hb

/-- A payload word of the slot other than the data word stored and its parity word stands in memory as it stood. -/
theorem State.storeWord_peek_other {b' q : Nat} (hb' : b' < 14) (hq : q < 128)
    (h : q ≠ p ∨ b' ≠ b ∧ b' ≠ parityBlock b) :
    (s.storeWord k b p x).peek (s.recAddr k (slotOffset b' (2 + q))) = s.peek (s.recAddr k (slotOffset b' (2 + q))) := by
  rw [State.storeWord_peek,
    State.peek_poke_other _ _ (State.recAddr_payload_ne _ k (parityBlock_lt b) hp hb' hq (by tauto)),
    State.peek_poke_other _ _ (State.recAddr_payload_ne _ k (by omega) hp hb' hq (by tauto))]

theorem State.dataValue_storeWord_same (hw : s.mem.wf = true) : (s.storeWord k b p x).dataValue k b p = x := by
  have hparity := s.recAddr_payload_ne k (parityBlock_lt b) hp (by omega : b < 14) hp (.inl (ne_parityBlock hb b))
  rw [State.dataValue, State.recOld, RecSlot.isWritten, State.storeWord_written, setEntry_same _ hb hp, if_pos rfl,
    State.storeWord_recAddr, State.storeWord_peek, State.peek_poke_other _ _ hparity, State.peek_poke_same s hw]

theorem State.dataValue_storeWord_other {b' q : Nat} (hb' : b' < 12) (hq : q < 128) (h : b' ≠ b ∨ q ≠ p) :
    (s.storeWord k b p x).dataValue k b' q = s.dataValue k b' q := by
  have hpeek := State.storeWord_peek_other (s := s) (k := k) x hp hb (by omega : b' < 14) hq
    (h.symm.imp_right fun hne => ⟨hne, ne_parityBlock hb' b⟩)
  rw [State.dataValue, State.recOld, RecSlot.isWritten, State.storeWord_written, setEntry_other _ hb hp h,
    State.storeWord_recAddr, hpeek]
  rfl

theorem State.parityValue_storeWord_other {g q : Nat} (hg : g < 2) (hq : q < 128) (h : g ≠ groupOf b ∨ q ≠ p) :
    (s.storeWord k b p x).parityValue k g q = s.parityValue k g q := by
  have hblock : g ≠ groupOf b → 12 + g ≠ b ∧ 12 + g ≠ parityBlock b := by unfold parityBlock; omega
  have hpeek := State.storeWord_peek_other (s := s) (k := k) x hp hb (by omega : 12 + g < 14) hq (h.symm.imp_right hblock)
  rw [State.parityValue, State.recOld, RecSlot.isTouched, State.storeWord_touched, setEntry_other _ (groupOf_lt b) hp h,
    State.storeWord_recAddr, hpeek]
  rfl

end

/-! ### The XOR over a group (R9) -/

theorem zero_xor_word (w : Word) : 0 ^^^ w = w := BitVec.zero_xor

theorem foldl_xor_eq (f : Nat → Word) (l : List Nat) (w : Word) :
    l.foldl (fun w n => w ^^^ f n) w = w ^^^ l.foldl (fun w n => w ^^^ f n) 0 := by
  induction l generalizing w with
  | nil => simp
  | cons n l ih => rw [List.foldl_cons, List.foldl_cons, ih, ih (0 ^^^ f n), zero_xor_word, BitVec.xor_assoc]

/-- One word of an XOR changed: the old word goes out of it and the new one comes in. -/
theorem foldl_xor_change {f f' : Nat → Word} {m : Nat} {l : List Nat} (hl : l.Nodup) (hm : m ∈ l)
    (h : ∀ n ∈ l, n ≠ m → f' n = f n) :
    l.foldl (fun w n => w ^^^ f' n) 0 = l.foldl (fun w n => w ^^^ f n) 0 ^^^ f m ^^^ f' m := by
  induction l with
  | nil => cases hm
  | cons n l ih =>
    obtain ⟨hn, hl⟩ := List.nodup_cons.mp hl
    rw [List.foldl_cons, List.foldl_cons, foldl_xor_eq, foldl_xor_eq f, zero_xor_word, zero_xor_word]
    by_cases hnm : n = m
    · subst hnm
      have hrest : l.foldl (fun w n => w ^^^ f' n) 0 = l.foldl (fun w n => w ^^^ f n) 0 :=
        List.foldl_ext _ _ _ fun w a ha => by rw [h a (List.mem_cons_of_mem n ha) fun e => hn (e ▸ ha)]
      have hcancel : f n ^^^ l.foldl (fun w n => w ^^^ f n) 0 ^^^ f n = l.foldl (fun w n => w ^^^ f n) 0 := by
        rw [BitVec.xor_comm (f n), BitVec.xor_assoc, BitVec.xor_self, BitVec.xor_zero]
      rw [hrest, hcancel, BitVec.xor_comm]
    · have hml : m ∈ l := (List.mem_cons.mp hm).resolve_left (Ne.symm hnm)
      rw [ih hl hml fun a ha => h a (List.mem_cons_of_mem n ha), h n List.mem_cons_self hnm]
      simp only [BitVec.xor_assoc]

/-- A store keeps the parity relation: at the stored word's group and position both sides take up the same change, and
elsewhere neither side moves (R10). -/
theorem State.parityHolds_storeWord {s : State} {k : Fin 4} {b p : Nat} (x : Word) (hw : s.mem.wf = true) (hb : b < 12)
    (hp : p < 128) (h : s.parityHolds k) : (s.storeWord k b p x).parityHolds k := by
  intro g q hg hq
  by_cases hgq : g = groupOf b ∧ q = p
  · obtain ⟨rfl, rfl⟩ := hgq
    have hbm : 2 * (b / 2) + groupOf b = b := by unfold groupOf; omega
    have hothers : ∀ n ∈ List.range 6, n ≠ b / 2 →
        (s.storeWord k b q x).dataValue k (2 * n + groupOf b) q = s.dataValue k (2 * n + groupOf b) q := by
      intro n hn hne
      rw [List.mem_range] at hn
      exact State.dataValue_storeWord_other x hp hb (by omega) hp (.inl (by omega))
    rw [State.parityValue_storeWord_same x hp hw, h _ _ hg hq,
      foldl_xor_change List.nodup_range (List.mem_range.mpr (by omega)) hothers, hbm,
      State.dataValue_storeWord_same x hp hb hw]
  · have hne : g ≠ groupOf b ∨ q ≠ p := by tauto
    rw [State.parityValue_storeWord_other x hp hb hg hq hne, h g q hg hq]
    refine List.foldl_ext _ _ _ fun w n hn => ?_
    rw [List.mem_range] at hn
    have hblock : 2 * n + g ≠ b ∨ q ≠ p := hne.imp_left fun hg' e => hg' (by unfold groupOf; omega)
    rw [State.dataValue_storeWord_other x hp hb (by omega) hq hblock]

end Sys2Proof.Machine
end

section
/-! PROOFS. The obligations on the tape frame format, settled. -/

open Sys2Proof Sys2Proof.Machine

/-- Settles O7: R4 and R5 by block half and position half, and the groups by the parity of n + c. -/
theorem interleaveIsOneToOne : Obligations.InterleaveIsOneToOne := by
  refine ⟨fun n c hn hc => ?_, fun b p hb hp => ?_, fun n hn => ?_, fun n c hn hc => ?_, fun c hc => ?_⟩
  · exact ⟨blockOf_lt n c, posOf_lt hn, pairOf_blockOf_posOf n c, chanOf_blockOf_posOf n hc⟩
  · exact ⟨pairOf_lt hb hp, chanOf_lt b p, blockOf_pairOf_chanOf hb p, posOf_pairOf hb p⟩
  all_goals
    rw [groupOf_blockOf, groupOf_blockOf]
    omega

/-- Settles O8: the update read as residues, and the two words of residue 0. -/
theorem sumsUpdateByResidue : Obligations.SumsUpdateByResidue := by
  intro σ i old new _ h1 h2
  obtain ⟨hlt1, hlt2⟩ := σ.update_lt i old new
  exact ⟨σ.update_s1 i old new, σ.update_s2 i old new, hlt1, hlt2, Sums.update_of_dvd i h1 h2 (by decide),
    Sums.update_of_dvd i h1 h2 (by decide)⟩

/-- Settles O9: the update and the sums of the changed block are the same residues of the sums of the block. -/
theorem sumsFollowTheBlock : Obligations.SumsFollowTheBlock := by
  intro ws i v h
  obtain ⟨h1, h2⟩ := sumsOf_set h v
  exact Sums.eq_of_intCast ((Sums.update_s1 _ i _ v).trans h1.symm) ((Sums.update_s2 _ i _ v).trans h2.symm)

/-- Settles O10: each field of the two headers read back from the sum that header A is. -/
theorem headersReadBack : Obligations.HeadersReadBack := by
  intro b rate f st hb hr hf
  refine ⟨headIndex_headerA st hb hr hf, headRate_headerA st hb hr hf, ?_, headFrame_headerA_headerB st hb hr hf,
    headerOk_headerA st hb hr hf, headerA_spare st hb hr hf⟩
  rw [headStatus_headerA st hb hr hf, CopyStatus.ofCode_code]

/-- Settles O11: the reads after the store, and the change of one word in the XOR of its group. -/
theorem storeKeepsParity : Obligations.StoreKeepsParity := fun _ _ _ _ x hw hb hp h =>
  ⟨State.parityHolds_storeWord x hw hb hp h, State.dataValue_storeWord_same x hp hb hw,
    fun _ _ hb' hp' hne => State.dataValue_storeWord_other x hp hb hb' hp' hne⟩

end

section
/-! PROOFS. The rules about the flags, the counters, frames and served transactions that the record path's statements lean on:
what each operation does to the causes that are set and to the marks (R166 to R172), and what is left of a transaction that
finds the port free (R153, R154). -/

namespace Sys2Proof.Machine

/-! ### Causes and marks (R166, R168) -/

/-- A cause is set in the report unit: RAISED or POSTED (R166). -/
def ReportUnit.isSet (r : ReportUnit) (c : Cause) : Bool :=
  r.raised[c.group] &&& c.bit != 0 || r.posted[c.group] &&& c.bit != 0

@[simp] theorem State.isSet_eq (s : State) (c : Cause) : s.isSet c = s.rep.isSet c := rfl

/-- Each cause has a bit of its own in its group's word (R177). -/
theorem Cause.bits_apart (c d : Cause) (hg : c.group = d.group) : c.bit &&& d.bit = if c = d then c.bit else 0 := by
  revert hg
  cases c <;> cases d <;> decide

theorem Cause.bit_ne_zero (c : Cause) : c.bit ≠ 0 := by cases c <;> decide

/-- A bit `b` taken into a word where it is not posted: it is then raised or posted. -/
theorem raised_or_posted (w p b : Word) (hb : b ≠ 0) :
    ((w ||| (b &&& ~~~p)) &&& b != 0 || p &&& b != 0) = true := by
  rw [Bool.or_eq_true, bne_iff_ne, bne_iff_ne]
  by_contra hn
  obtain ⟨h1, h2⟩ := not_or.mp hn
  rw [not_not] at h1 h2
  apply hb
  ext i hi
  have e1 := congrArg (fun x => x.getLsbD i) h1
  have e2 := congrArg (fun x => x.getLsbD i) h2
  simp at e1 e2 ⊢
  grind

/-- A bit `b` taken into a word leaves the bits of `d` apart from it as they stood. -/
theorem or_unposted_and {b d : Word} (w p : Word) (h : b &&& d = 0) : (w ||| (b &&& ~~~p)) &&& d = w &&& d := by
  ext i hi
  have e := congrArg (fun x => x.getLsbD i) h
  simp at e ⊢
  grind

/-- A raise leaves its cause set and no other one changed (R166). -/
@[simp] theorem State.raise_isSet (s : State) (c d : Cause) :
    (s.raise c).rep.isSet d = (s.rep.isSet d || d == c) := by
  simp only [State.raise, State.modRep_rep, ReportUnit.isSet, vmod, vset, Fin.getElem_fin]
  by_cases hg : c.group = d.group
  · have hb := Cause.bits_apart c d hg
    simp only [hg, Vector.getElem_set_self]
    by_cases hcd : c = d
    · subst hcd
      rw [raised_or_posted _ _ _ c.bit_ne_zero]
      simp
    · rw [if_neg hcd] at hb
      rw [or_unposted_and _ _ hb]
      simp [Ne.symm hcd]
  · have hne : c.group.val ≠ d.group.val := fun e => hg (Fin.ext e)
    have hcd : d ≠ c := fun e => hg (by rw [e])
    rw [Vector.getElem_set_ne _ _ hne]
    simp [hcd]

@[simp] theorem State.raise_marks (s : State) (c : Cause) :
    (s.raise c).rep.marks = s.rep.marks ∧ (s.raise c).rep.posted = s.rep.posted := ⟨rfl, rfl⟩

@[simp] theorem State.raiseIf_isSet (s : State) (b : Bool) (c d : Cause) :
    (s.raiseIf b c).rep.isSet d = (s.rep.isSet d || (b && d == c)) := by
  cases b <;> simp [State.raiseIf]

@[simp] theorem State.raiseIf_marks (s : State) (b : Bool) (c : Cause) :
    (s.raiseIf b c).rep.marks = s.rep.marks ∧ (s.raiseIf b c).rep.posted = s.rep.posted := by
  cases b <;> exact ⟨rfl, rfl⟩

/-- Nothing of the report unit but the marks of the status records differs, and no mark is lost (R168). -/
structure ReportUnit.onlyMarks (r q : ReportUnit) : Prop where
  rest : q = { r with marks := q.marks }
  record : r.marks.record = true → q.marks.record = true
  playback : r.marks.playback = true → q.marks.playback = true
  edit : r.marks.edit = true → q.marks.edit = true

theorem ReportUnit.onlyMarks.refl (r : ReportUnit) : r.onlyMarks r := ⟨rfl, id, id, id⟩

theorem ReportUnit.onlyMarks.trans {r q p : ReportUnit} (h1 : r.onlyMarks q) (h2 : q.onlyMarks p) : r.onlyMarks p :=
  ⟨by rw [h2.rest, h1.rest], h2.record ∘ h1.record, h2.playback ∘ h1.playback, h2.edit ∘ h1.edit⟩

theorem ReportUnit.onlyMarks.flags {r q : ReportUnit} (h : r.onlyMarks q) :
    q.raised = r.raised ∧ q.posted = r.posted ∧ ∀ c, q.isSet c = r.isSet c := by
  have e := h.rest
  exact ⟨by rw [e], by rw [e], fun c => by rw [e]; rfl⟩

@[simp] theorem State.markRecord_marks (s : State) : s.markRecord.rep.marks = { s.rep.marks with record := true } := rfl

@[simp] theorem State.markPlayback_marks (s : State) :
    s.markPlayback.rep.marks = { s.rep.marks with playback := true } := rfl

@[simp] theorem State.markEdit_marks (s : State) : s.markEdit.rep.marks = { s.rep.marks with edit := true } := rfl

@[simp] theorem State.markCopy_marks (s : State) : s.markCopy.rep.marks = { s.rep.marks with copy := true } := rfl

@[simp] theorem State.markCounters_marks (s : State) :
    s.markCounters.rep.marks = { s.rep.marks with counters := true } := rfl

theorem State.onlyMarks_markRecord (s : State) : s.rep.onlyMarks s.markRecord.rep := ⟨rfl, fun _ => rfl, id, id⟩

theorem State.onlyMarks_markPlayback (s : State) : s.rep.onlyMarks s.markPlayback.rep := ⟨rfl, id, fun _ => rfl, id⟩

theorem State.onlyMarks_markEdit (s : State) : s.rep.onlyMarks s.markEdit.rep := ⟨rfl, id, id, fun _ => rfl⟩

theorem State.onlyMarks_markCopy (s : State) : s.rep.onlyMarks s.markCopy.rep := ⟨rfl, id, id, id⟩

theorem State.onlyMarks_markCounters (s : State) : s.rep.onlyMarks s.markCounters.rep := ⟨rfl, id, id, id⟩

theorem State.onlyMarks_markRecordIf (s : State) (b : Bool) : s.rep.onlyMarks (s.markRecordIf b).rep := by
  cases b
  · exact .refl _
  · exact s.onlyMarks_markRecord

theorem State.onlyMarks_markEditIf (s : State) (b : Bool) : s.rep.onlyMarks (s.markEditIf b).rep := by
  cases b
  · exact .refl _
  · exact s.onlyMarks_markEdit

theorem State.onlyMarks_count (s : State) (c : Counter) (n : Nat) : s.rep.onlyMarks (s.count c n).rep := by
  unfold State.count
  split
  · exact .refl _
  · exact State.onlyMarks_markCounters _

theorem State.onlyMarks_bump (s : State) (c : Counter) : s.rep.onlyMarks (s.bump c).rep := s.onlyMarks_count c 1

theorem State.onlyMarks_updateOutput (s : State) : s.rep.onlyMarks s.updateOutput.rep := by
  unfold State.updateOutput
  split
  · exact .refl _
  · exact State.onlyMarks_markCopy _

theorem State.onlyMarks_rejudge (s : State) : s.rep.onlyMarks s.rejudge.rep := by
  unfold State.rejudge
  dsimp only
  split
  · exact .refl _
  · refine .trans ?_ (State.onlyMarks_markPlayback _)
    split
    · exact State.onlyMarks_updateOutput (State.modDec (State.modMon s _) _)
    · exact State.onlyMarks_updateOutput (State.modMon s _)

theorem State.onlyMarks_samplePermission (s : State) : s.rep.onlyMarks s.samplePermission.rep := by
  unfold State.samplePermission
  split
  · exact .refl _
  · exact State.onlyMarks_markCopy _

theorem State.onlyMarks_releaseSlot (s : State) (k : Fin 4) : s.rep.onlyMarks (s.releaseSlot k).rep := by
  unfold State.releaseSlot
  split
  · exact State.onlyMarks_markPlayback _
  · exact .refl _

theorem State.onlyMarks_releaseSlots (l : List (Fin 4)) (s : State) :
    s.rep.onlyMarks (l.foldl State.releaseSlot s).rep := by
  induction l generalizing s with
  | nil => exact .refl _
  | cons k l ih => exact (s.onlyMarks_releaseSlot k).trans (ih _)

theorem State.onlyMarks_retestHolds (s : State) : s.rep.onlyMarks s.retestHolds.rep := s.onlyMarks_releaseSlots _

/-! ### Counters (R172) -/

/-- The value of a counter in the counters record. -/
def countOf (v : Vector Nat 17) (c : Counter) : Nat := v[c.index]

@[simp] theorem State.counter_eq (s : State) (c : Counter) : s.counter c = countOf s.counters c := rfl

theorem Counter.index_inj {c d : Counter} (h : c.index = d.index) : c = d := by
  revert h
  cases c <;> cases d <;> decide

/-- A counter counts its own events and no other's, up to 65535 (R172). -/
@[simp] theorem State.count_counters (s : State) (c d : Counter) (n : Nat) :
    countOf (s.count c n).counters d =
      if d = c then min 65535 (countOf s.counters c + n) else countOf s.counters d := by
  unfold State.count
  split
  · next h =>
    split
    · next e => subst e; exact h.symm
    · rfl
  · simp only [State.markCounters, State.modRep_counters, State.modCounters_counters, countOf, vmod, vset,
      Fin.getElem_fin]
    split
    · next e => subst e; exact Vector.getElem_set_self _
    · next e => exact Vector.getElem_set_ne _ _ fun h => e (Counter.index_inj (Fin.ext h.symm))

@[simp] theorem State.bump_counters (s : State) (c d : Counter) :
    countOf (s.bump c).counters d = if d = c then min 65535 (countOf s.counters c + 1) else countOf s.counters d :=
  s.count_counters c d 1

/-! ### Frames -/

/-- A frame, part by part. -/
theorem State.sameBut_iff (ps : List Part) (s t : State) : s.sameBut ps t ↔
    (.bus ∈ ps ∨ s.agree t .bus) ∧ (.port ∈ ps ∨ s.agree t .port) ∧ (.coder ∈ ps ∨ s.agree t .coder) ∧
    (.tape ∈ ps ∨ s.agree t .tape) ∧ (.dec ∈ ps ∨ s.agree t .dec) ∧ (.mon ∈ ps ∨ s.agree t .mon) ∧
    (.edit ∈ ps ∨ s.agree t .edit) ∧ (.copy ∈ ps ∨ s.agree t .copy) ∧ (.settings ∈ ps ∨ s.agree t .settings) ∧
    (.counters ∈ ps ∨ s.agree t .counters) ∧ (.cmd ∈ ps ∨ s.agree t .cmd) ∧ (.rep ∈ ps ∨ s.agree t .rep) ∧
    (.mem ∈ ps ∨ s.agree t .mem) ∧ (.pending ∈ ps ∨ s.agree t .pending) := by
  simp only [or_iff_not_imp_left]
  refine ⟨fun h => ⟨h _, h _, h _, h _, h _, h _, h _, h _, h _, h _, h _, h _, h _, h _⟩, fun h p => ?_⟩
  obtain ⟨h1, h2, h3, h4, h5, h6, h7, h8, h9, h10, h11, h12, h13, h14⟩ := h
  cases p <;> assumption

/-! ### The state a served transaction leaves -/

/-- The state with the wait counts `w` (R154). -/
def State.withCounts (s : State) (w : WaitCounts) : State := s.modBus fun b => { b with counts := w }

@[simp] theorem State.withCounts_frame (s : State) (w : WaitCounts) :
    (s.withCounts w).bus = { s.bus with counts := w } ∧ (s.withCounts w).coder = s.coder ∧
    (s.withCounts w).tape = s.tape ∧ (s.withCounts w).dec = s.dec ∧ (s.withCounts w).mon = s.mon ∧
    (s.withCounts w).edit = s.edit ∧ (s.withCounts w).copy = s.copy ∧ (s.withCounts w).settings = s.settings ∧
    (s.withCounts w).counters = s.counters ∧ (s.withCounts w).cmd = s.cmd ∧ (s.withCounts w).rep = s.rep ∧
    (s.withCounts w).mem = s.mem ∧ (s.withCounts w).pending = s.pending :=
  ⟨rfl, rfl, rfl, rfl, rfl, rfl, rfl, rfl, rfl, rfl, rfl, rfl, rfl⟩

/-- A transaction that finds the port free and that no rule holds is served by its region; then only the wait counts move. -/
theorem State.arrive_served {s : State} (h : s.portFree) (t : Txn) (hs : (s.freshAccesses.serve t).bus.held = none) :
    ∃ w, (s.arrive t).settle = (s.freshAccesses.serve t).withCounts w :=
  ⟨_, s.service_settled h t hs⟩

/-- A transaction that finds the port free and whose service holds it, for as long as it is not ready (R152). -/
theorem State.arrive_held {s : State} (h : s.portFree) (t : Txn) (x : Held)
    (hs : (s.freshAccesses.serve t).bus.held = some x) (hr : (s.freshAccesses.serve t).normCounts.ready x = false) :
    ∃ w, (s.arrive t).settle = (s.freshAccesses.serve t).withCounts w := by
  have e : s.arrive t = s.freshAccesses.serve t := by
    rw [s.arrive_portFree h]
    simp [State.service, State.tookPort, hs]
  rw [e, State.settle_held _ x hs hr]
  exact ⟨_, rfl⟩

/-- The service of a record-window write that nothing holds (R145). -/
theorem State.exec_recordWindowWrite {s : State} {a : BusAddr} (v : Word) (h : s.portFree)
    (hr : s.bus.regionOf a.toNat = .recordWindow)
    (hs : (s.freshAccesses.recordWrite { write := true, addr := a, data := v } (s.bus.offset 0 a.toNat) v).bus.held = none) :
    ∃ w, exec (.recordWindowWrite a v) s = .next
      ((s.freshAccesses.recordWrite { write := true, addr := a, data := v } (s.bus.offset 0 a.toNat) v).withCounts w) := by
  have e : s.freshAccesses.serve { write := true, addr := a, data := v } =
      s.freshAccesses.recordWrite { write := true, addr := a, data := v } (s.bus.offset 0 a.toNat) v := by
    simp [State.serve, State.serveWrite, (s.freshAccesses_region 0 a.toNat).1, hr, (s.freshAccesses_region 0 a.toNat).2]
  obtain ⟨w, hw⟩ := State.arrive_served h { write := true, addr := a, data := v } (by rw [e]; exact hs)
  exact ⟨w, by rw [← e, ← hw]; rfl⟩

/-- A record-window read is answered at once (R37). -/
theorem State.exec_recordWindowRead {s : State} {a : BusAddr} (h : s.portFree)
    (hr : s.bus.regionOf a.toNat = .recordWindow) :
    ∃ w, exec (.recordWindowRead a) s = .next ((s.freshAccesses.recordRead (s.bus.offset 0 a.toNat)).withCounts w) := by
  have e : s.freshAccesses.serve { write := false, addr := a, data := 0 } =
      s.freshAccesses.recordRead (s.bus.offset 0 a.toNat) := by
    simp [State.serve, State.serveRead, (s.freshAccesses_region 0 a.toNat).1, hr, (s.freshAccesses_region 0 a.toNat).2]
  obtain ⟨w, hw⟩ := State.arrive_served h { write := false, addr := a, data := 0 } (by rw [e]; simp [h.2.1])
  exact ⟨w, by rw [← e, ← hw]; rfl⟩

/-- A read of the record image is passed, and watched for the release (R34). -/
theorem State.exec_recordImageRead {s : State} {a : BusAddr} (h : s.portFree)
    (hr : s.bus.regionOf a.toNat = .recordImage) :
    ∃ w, exec (.recordImageRead a) s = .next
      (((s.freshAccesses.passRead a).watchRelease (s.bus.offset 2 a.toNat)).withCounts w) := by
  have e : s.freshAccesses.serve { write := false, addr := a, data := 0 } =
      (s.freshAccesses.passRead a).watchRelease (s.bus.offset 2 a.toNat) := by
    simp [State.serve, State.serveRead, (s.freshAccesses_region 2 a.toNat).1, hr, (s.freshAccesses_region 2 a.toNat).2]
  obtain ⟨w, hw⟩ := State.arrive_served h { write := false, addr := a, data := 0 } (by rw [e]; simp [h.2.1])
  exact ⟨w, by rw [← e, ← hw]; rfl⟩

end Sys2Proof.Machine
end

section
/-! PROOFS. What each operation of the record path does, said once: the bus port, the record window's cases (R21 to R30), the
close's beginning (R31), the stored word (R23, R24) and the pair event (R25). -/

namespace Sys2Proof.Machine

/-! ### The bus port (R146, R155) -/

@[simp] theorem State.treat_port (s : State) (x : Treatment) :
    (s.treat x).bus.treatment = x ∧ (s.treat x).bus.data = s.bus.data ∧ (s.treat x).bus.accesses = s.bus.accesses :=
  ⟨rfl, rfl, rfl⟩

@[simp] theorem State.answer_port (s : State) (x : Treatment) (v : Word) :
    (s.answer x v).bus.treatment = x ∧ (s.answer x v).bus.data = v ∧ (s.answer x v).bus.accesses = s.bus.accesses :=
  ⟨rfl, rfl, rfl⟩

@[simp] theorem State.addAccesses_accesses (s : State) (n : Nat) :
    (s.addAccesses n).bus.accesses = s.bus.accesses + n := rfl

@[simp] theorem State.freshAccesses_accesses (s : State) : s.freshAccesses.bus.accesses = 0 := rfl

@[simp] theorem State.hold_held (s : State) (t : Txn) (k : HoldKind) :
    (s.hold t k).bus.held = some { txn := t, kind := k } := rfl

/-! ### What a read of memory depends on (R2) -/

/-- The address of a word of a record slot depends on the window table alone (R2). -/
theorem State.recAddr_congr {s t : State} (h : t.bus.table = s.bus.table) (k : Fin 4) (off : Nat) :
    t.recAddr k off = s.recAddr k off := by
  simp only [State.recAddr, BusPath.base, h]

theorem State.peek_congr {s t : State} (h : t.mem = s.mem) (a : Nat) : t.peek a = s.peek a := by
  simp only [State.peek, h]

/-- A stored data word as memory and the slot's map give it (R10). -/
theorem State.dataValue_congr {s t : State} {k : Fin 4} (hm : t.mem = s.mem) (hb : t.bus.table = s.bus.table)
    (hs : t.coder.slots[k].written = s.coder.slots[k].written) (b p : Nat) : t.dataValue k b p = s.dataValue k b p := by
  simp only [State.dataValue, State.recOld, RecSlot.isWritten, hs, State.peek_congr hm, State.recAddr_congr hb]
  rfl

/-- A parity word as memory and the slot's map give it (R10). -/
theorem State.parityValue_congr {s t : State} {k : Fin 4} (hm : t.mem = s.mem) (hb : t.bus.table = s.bus.table)
    (hs : t.coder.slots[k].touched = s.coder.slots[k].touched) (g p : Nat) :
    t.parityValue k g p = s.parityValue k g p := by
  simp only [State.parityValue, State.recOld, RecSlot.isTouched, hs, State.peek_congr hm, State.recAddr_congr hb]
  rfl

/-! ### The record-window write, case by case (R21, R26, R28, R36) -/

@[simp] theorem State.echoIn_mon (s : State) (c : Fin 2) (v : Word) :
    (s.echoIn c v).mon = { s.mon with echo := vset s.mon.echo c v } := rfl

theorem State.recordWrite_idle {s : State} (h : s.coder.job ≠ .recording) (t : Txn) (o : Nat) (v : Word) :
    s.recordWrite t o v = s.idleWrite (chanIn o) v := if_neg h

section
variable {s : State} {o : Nat} (h : s.coder.job = .recording) (t : Txn) (v : Word)
include h

theorem State.recordWrite_first (hc : s.coder.curHalf = none) :
    s.recordWrite t o v = (s.beginFrame (halfOf o)).landWrite t (halfOf o) (pairIn o) (chanIn o) v := by
  simp [State.recordWrite, h, hc]

theorem State.recordWrite_current (hc : s.coder.curHalf = some (halfOf o)) :
    s.recordWrite t o v = s.landWrite t (halfOf o) (pairIn o) (chanIn o) v := by
  simp [State.recordWrite, h, hc]

theorem State.recordWrite_closing {cur : Fin 2} (hc : s.coder.curHalf = some cur) (hn : halfOf o ≠ cur)
    (hx : s.coder.halfClosing (halfOf o) = true) : s.recordWrite t o v = s.hold t .closing := by
  simp [State.recordWrite, h, hc, hn, hx]

theorem State.recordWrite_turnover {cur : Fin 2} (hc : s.coder.curHalf = some cur) (hn : halfOf o ≠ cur)
    (hx : s.coder.halfClosing (halfOf o) = false) :
    s.recordWrite t o v = s.turnover t (halfOf o) (pairIn o) (chanIn o) v := by
  simp [State.recordWrite, h, hc, hn, hx]

end

theorem State.landWrite_word {s : State} {h : Fin 2} {k : Fin 4} {f n : Nat} (hb : s.coder.halves[h] = .slot k f)
    (hs : s.coder.slots[k].state = .opened) (hn : (s.coder.needsFetch n && s.tape.evaluating) = false) (t : Txn)
    (c : Fin 2) (v : Word) : s.landWrite t h n c v = (s.echoIn c v).wordWrite k n c v := by
  simp only [State.landWrite, hb, hs, hn]
  rfl

theorem State.landWrite_held {s : State} {h : Fin 2} {k : Fin 4} {f n : Nat} (hb : s.coder.halves[h] = .slot k f)
    (hs : s.coder.slots[k].state = .opened) (hn : (s.coder.needsFetch n && s.tape.evaluating) = true) (t : Txn)
    (c : Fin 2) (v : Word) : s.landWrite t h n c v = s.hold t .decodeWrite := by
  simp only [State.landWrite, hb, hs, hn]
  rfl

theorem State.landWrite_absorbed {s : State} {h : Fin 2} {f : Nat} (hb : s.coder.halves[h] = .absorbed f) (t : Txn)
    (n : Nat) (c : Fin 2) (v : Word) : s.landWrite t h n c v = (s.echoIn c v).treat .absorbed := by
  simp only [State.landWrite, hb]

/-! ### Frames begun (R20, R22, R26, R27, R30) -/

@[simp] theorem State.bindHalf_coder (s : State) (h : Fin 2) (b : Binding) :
    (s.bindHalf h b).coder = { s.coder with halves := vset s.coder.halves h b } := rfl

/-- The state with half `h` the current one. -/
def State.withCurHalf (s : State) (h : Fin 2) : State := s.modCoder fun c => { c with curHalf := some h }

@[simp] theorem State.withCurHalf_coder (s : State) (h : Fin 2) :
    (s.withCurHalf h).coder = { s.coder with curHalf := some h } := rfl

@[simp] theorem State.withCurHalf_frame (s : State) (h : Fin 2) :
    (s.withCurHalf h).bus = s.bus ∧ (s.withCurHalf h).tape = s.tape ∧ (s.withCurHalf h).dec = s.dec ∧
    (s.withCurHalf h).mon = s.mon ∧ (s.withCurHalf h).edit = s.edit ∧ (s.withCurHalf h).copy = s.copy ∧
    (s.withCurHalf h).settings = s.settings ∧ (s.withCurHalf h).counters = s.counters ∧
    (s.withCurHalf h).cmd = s.cmd ∧ (s.withCurHalf h).rep = s.rep ∧ (s.withCurHalf h).mem = s.mem ∧
    (s.withCurHalf h).pending = s.pending := ⟨rfl, rfl, rfl, rfl, rfl, rfl, rfl, rfl, rfl, rfl, rfl, rfl⟩

theorem State.beginFrame_protected {s : State} (h : Fin 2) (hm : s.coder.mode = .assemble)
    (hp : s.copy.isProtected s.coder.r = true) :
    s.beginFrame h = ((s.withCurHalf h).bindHalf h (.absorbed s.coder.r)).raise .protectedFrame :=
  if_pos ⟨hm, hp⟩

section
variable {s : State} (h : Fin 2) (hp : s.coder.mode = .assemble → s.copy.isProtected s.coder.r = false)
include hp

theorem State.beginFrame_opened (hf : s.coder.slots[s.coder.ringPtr].state = .free) :
    s.beginFrame h = ((s.withCurHalf h).openFrame.bindHalf h (.slot s.coder.ringPtr s.coder.r)).raiseIf
      (s.copy.isProtected s.coder.r) .protectedFrame := by
  have hn : ¬(s.coder.mode = .assemble ∧ s.copy.isProtected s.coder.r = true) := fun ⟨h1, h2⟩ => by simp [hp h1] at h2
  simp only [State.beginFrame, if_neg hn, if_pos hf]
  rfl

theorem State.beginFrame_overrun (hf : s.coder.slots[s.coder.ringPtr].state ≠ .free) :
    s.beginFrame h = (s.withCurHalf h).recordOverrun.bindHalf h (.absorbed s.coder.r) := by
  have hn : ¬(s.coder.mode = .assemble ∧ s.copy.isProtected s.coder.r = true) := fun ⟨h1, h2⟩ => by simp [hp h1] at h2
  simp only [State.beginFrame, if_neg hn, if_neg hf]
  rfl

end

@[simp] theorem State.recordOverrun_coder (s : State) :
    s.recordOverrun.coder = { s.coder with sticky := true } := by
  simp only [State.recordOverrun, State.markRecordIf_frame, State.modCoder_coder, State.bump_frame, State.raise_frame]

@[simp] theorem State.recordOverrun_counters (s : State) (c : Counter) :
    countOf s.recordOverrun.counters c =
      if c = .recordOverrun then min 65535 (countOf s.counters c + 1) else countOf s.counters c := by
  simp only [State.recordOverrun, State.markRecordIf_frame, State.modCoder_counters, State.bump_counters,
    State.raise_frame]
  split
  · next e => rw [e]
  · rfl

/-! ### The beginning of a close (R26, R31) -/

theorem vmod_same {α : Type} {n : Nat} (v : Vector α n) (i : Fin n) (f : α → α) : (vmod v i f)[i] = f v[i] := by
  simp [vmod, vset]

theorem vmod_other {α : Type} {n : Nat} (v : Vector α n) {i j : Fin n} (f : α → α) (h : j ≠ i) :
    (vmod v i f)[j] = v[j] := by
  have : i.val ≠ j.val := fun e => h (Fin.ext e.symm)
  simp [vmod, vset, Vector.getElem_set_ne, this]

theorem vset_same {α : Type} {n : Nat} (v : Vector α n) (i : Fin n) (x : α) : (vset v i x)[i] = x := by
  simp [vset]

theorem vset_other {α : Type} {n : Nat} (v : Vector α n) {i j : Fin n} (x : α) (h : j ≠ i) : (vset v i x)[j] = v[j] := by
  have : i.val ≠ j.val := fun e => h (Fin.ext e.symm)
  simp [vset, Vector.getElem_set_ne, this]

@[simp] theorem State.startClose_coder (s : State) (k : Fin 4) :
    (s.startClose k).coder = { s.coder with
      close := some (s.coder.slots[k].closeJob k)
      slots := vmod s.coder.slots k fun x => { x with state := .closing, closePending := false } } := rfl

theorem State.onlyMarks_startClose (s : State) (k : Fin 4) : s.rep.onlyMarks (s.startClose k).rep :=
  State.onlyMarks_markRecord _

/-- The current half bound to no OPEN slot is left without effect (R26). -/
theorem State.leaveHalf_none {s : State} (h : s.coder.currentOpen = none) : s.leaveHalf = s := by
  simp only [State.leaveHalf, h]

theorem State.leaveHalf_start {s : State} {k : Fin 4} (h : s.coder.currentOpen = some k) (hc : s.coder.close = none) :
    s.leaveHalf = s.startClose k := by
  simp only [State.leaveHalf, h, State.beginClose, hc]

theorem State.leaveHalf_wait {s : State} {k : Fin 4} (h : s.coder.currentOpen = some k) (hc : s.coder.close ≠ none) :
    s.leaveHalf = s.modRecSlot k fun x => { x with closePending := true } := by
  obtain ⟨j, hj⟩ := Option.ne_none_iff_exists'.mp hc
  simp only [State.leaveHalf, h, State.beginClose, hj]

/-- A slot that the current half is left from is OPEN. -/
theorem RecordCoder.currentOpen_opened {c : RecordCoder} {k : Fin 4} (h : c.currentOpen = some k) :
    c.slots[k].state = .opened := by
  unfold RecordCoder.currentOpen at h
  split at h
  · cases h
  · split at h
    · split at h
      · next hs => cases h; exact hs
      · cases h
    · cases h

/-- The current half left: what of the record coder and the report unit it does not move (R26, R31). -/
theorem State.leaveHalf_keeps (s : State) :
    s.leaveHalf.coder = { s.coder with slots := s.leaveHalf.coder.slots, close := s.leaveHalf.coder.close } ∧
    s.rep.onlyMarks s.leaveHalf.rep ∧
    (∀ k : Fin 4, s.coder.currentOpen ≠ some k → s.leaveHalf.coder.slots[k] = s.coder.slots[k]) ∧
    (∀ k : Fin 4, s.leaveHalf.coder.slots[k].state = .free ↔ s.coder.slots[k].state = .free) ∧
    (s.coder.currentOpen = none → s.leaveHalf.coder.close = s.coder.close) := by
  cases hk : s.coder.currentOpen with
  | none =>
    rw [State.leaveHalf_none hk]
    exact ⟨rfl, .refl _, fun _ _ => rfl, fun _ => .rfl, fun _ => rfl⟩
  | some k =>
    have hopen := RecordCoder.currentOpen_opened hk
    have hne : ∀ j : Fin 4, some k ≠ some j → j ≠ k := fun j h e => h (by rw [e])
    by_cases hc : s.coder.close = none
    · rw [State.leaveHalf_start hk hc]
      refine ⟨rfl, s.onlyMarks_startClose k, fun j hj => vmod_other _ _ (hne j hj), fun j => ?_, fun h => by cases h⟩
      by_cases hj : j = k
      · subst hj
        simp only [State.startClose_coder, vmod_same, hopen, reduceCtorEq]
      · rw [State.startClose_coder, vmod_other _ _ hj]
    · rw [State.leaveHalf_wait hk hc]
      refine ⟨rfl, .refl _, fun j hj => vmod_other _ _ (hne j hj), fun j => ?_, fun h => by cases h⟩
      by_cases hj : j = k
      · subst hj
        simp only [State.modRecSlot_coder, vmod_same]
      · rw [State.modRecSlot_coder, vmod_other _ _ hj]

end Sys2Proof.Machine
end

section
/-! PROOFS. The stored word (R23, R24, R129, R134, R135), the old-audio fetch (R25, R62, R128) and the pair event (R25, R105),
each said once. -/

namespace Sys2Proof.Machine

/-! ### A word settled and stored (R23, R24, R134, R135) -/

/-- A store changes the slot's maps and sums, and nothing else of the record coder (R24). -/
theorem State.storeWord_coder (s : State) (k : Fin 4) (b p : Nat) (x : Word) :
    (s.storeWord k b p x).coder = { s.coder with slots := vmod s.coder.slots k fun z =>
      { z with
        sums := (s.storeWord k b p x).coder.slots[k].sums
        written := setEntry z.written b p
        touched := setEntry z.touched (groupOf b) p } } := by
  simp only [State.storeWord, State.markRecord_frame, State.modRecSlot_coder, vmod_same]
  rfl

theorem vput_getElem {α : Type} {n : Nat} (v : Vector α n) (i : Nat) (x : α) (j : Fin n) :
    (vput v i x)[j] = if j.val = i then x else v[j] := by
  simp only [vput, Fin.getElem_fin, Vector.getElem_setIfInBounds, eq_comm]

theorem vget_fin {α : Type} {n : Nat} (v : Vector α n) (i : Fin n) (d : α) : vget v i.val d = v[i] := by
  simp [vget]

/-- The two accumulator pairs that a store updates (R24). -/
theorem State.storeWord_sums (s : State) (k : Fin 4) {b : Nat} (p : Nat) (x : Word) (hb : b < 12) (n : Fin 14) :
    (s.storeWord k b p x).coder.slots[k].sums[n] =
      if n.val = b then s.coder.slots[k].sums[n].update (2 + p) (s.dataValue k b p) x
      else if n.val = 12 + groupOf b then
        s.coder.slots[k].sums[n].update (2 + p) (s.parityValue k (groupOf b) p)
          (s.parityValue k (groupOf b) p ^^^ s.dataValue k b p ^^^ x)
      else s.coder.slots[k].sums[n] := by
  have hne := ne_parityBlock hb b
  simp only [State.storeWord, State.markRecord_frame, State.modRecSlot_coder, vmod_same, vput_getElem]
  rw [vget_vput_other _ _ _ hne]
  by_cases h1 : n.val = b
  · rw [if_neg (h1 ▸ hne), if_pos h1, if_pos h1, ← h1, vget_fin]
    rfl
  · by_cases h2 : n.val = parityBlock b
    · rw [if_pos h2, if_neg h1, if_pos (by exact h2)]
      rw [show ∀ d, vget s.coder.slots[k].sums (parityBlock b) d = s.coder.slots[k].sums[n] from fun d => by
        rw [← h2, vget_fin]]
      rfl
    · rw [if_neg h2, if_neg h1, if_neg h1, if_neg (by exact h2)]

theorem State.onlyMarks_storeWord (s : State) (k : Fin 4) (b p : Nat) (x : Word) :
    s.rep.onlyMarks (s.storeWord k b p x).rep := State.onlyMarks_markRecord _

theorem vset_self {α : Type} {n : Nat} (v : Vector α n) (i : Fin n) : vset v i v[i] = v := by
  simp [vset]

theorem vset_vset {α : Type} {n : Nat} (v : Vector α n) (i : Fin n) (x y : α) : vset (vset v i x) i y = vset v i y := by
  simp [vset]

/-- A refusal marks the slot's contribution record (R134). -/
@[simp] theorem State.refuse_copy (s : State) (k : Fin 4) : (s.refuse k).copy =
    { s.copy with contrib := vmod s.copy.contrib k fun x => { x with refused := true } } := by
  unfold State.refuse
  split
  · next h =>
    have hx : ({ s.copy.contrib[k] with refused := true } : Contribution) = s.copy.contrib[k] := by rw [← h]
    rw [vmod, hx, vset_self]
  · simp only [State.bump_frame, State.raise_frame, State.modCopy_copy]

/-- The first refusal of a frame is counted (R134). -/
@[simp] theorem State.refuse_counters (s : State) (k : Fin 4) (c : Counter) :
    countOf (s.refuse k).counters c =
      if c = .refusedFrames ∧ s.copy.contrib[k].refused = false then min 65535 (countOf s.counters c + 1)
      else countOf s.counters c := by
  unfold State.refuse
  split
  · next h => simp [h, -Fin.getElem_fin]
  · next h =>
    simp only [State.bump_counters, State.raise_frame, State.modCopy_counters, Bool.eq_false_iff.mpr h, and_true]
    split
    · next e => rw [e]
    · rfl

/-- The first refusal of a frame is raised (R134). -/
@[simp] theorem State.refuse_isSet (s : State) (k : Fin 4) (c : Cause) :
    (s.refuse k).rep.isSet c = (s.rep.isSet c || (!s.copy.contrib[k].refused && c == .refused)) := by
  unfold State.refuse
  split
  · next h => simp [h, -Fin.getElem_fin]
  · next h =>
    rw [(State.onlyMarks_bump _ _).flags.2.2, State.raise_isSet]
    simp [h, -Fin.getElem_fin]

/-- What the service notes of a word before it is stored: the refusal, the contribution and the mixer's saturation
(R123, R129, R134, R135). -/
def State.noted (s : State) (k : Fin 4) (n : Nat) (c : Fin 2) (v : Word) : State :=
  let w := s.settleWord k n c (resolve s.copy.recording v)
  let s1 := if s.copy.recording == .none && !s.coder.slots[k].oldOnly then s.refuse k else s
  let s2 := s1.modCopy fun x =>
    { x with contrib := vmod x.contrib k fun z =>
        z.add w.wNew w.wOld (s.copy.recording == .none) (recordedStatus s.copy.recording) (s.coder.oldSource c) }
  if w.saturated then s2.bump .saturation else s2

theorem State.settleAndStore_eq (s : State) (k : Fin 4) (n : Nat) (c : Fin 2) (v : Word) :
    s.settleAndStore k n c v = ((s.noted k n c v).storeWord k (blockOf n c.val) (posOf n)
      (s.settleWord k n c (resolve s.copy.recording v)).word).treat .translated := rfl

section
variable (s : State) (k : Fin 4) (n : Nat) (c : Fin 2) (v : Word)

@[simp] theorem State.noted_frame :
    (s.noted k n c v).bus = s.bus ∧ (s.noted k n c v).coder = s.coder ∧ (s.noted k n c v).tape = s.tape ∧
    (s.noted k n c v).dec = s.dec ∧ (s.noted k n c v).mon = s.mon ∧ (s.noted k n c v).edit = s.edit ∧
    (s.noted k n c v).settings = s.settings ∧ (s.noted k n c v).cmd = s.cmd ∧ (s.noted k n c v).mem = s.mem ∧
    (s.noted k n c v).pending = s.pending := by
  unfold State.noted
  dsimp only
  repeat' split
  all_goals simp

/-- A contribution record after the word (R129, R134, R135). -/
def State.noteWord (z : Contribution) : Contribution :=
  let w := s.settleWord k n c (resolve s.copy.recording v)
  ({ z with refused := z.refused || (s.copy.recording == .none && !s.coder.slots[k].oldOnly) } : Contribution).add
    w.wNew w.wOld (s.copy.recording == .none) (recordedStatus s.copy.recording) (s.coder.oldSource c)

theorem State.noted_copy : (s.noted k n c v).copy =
    { s.copy with contrib := vmod s.copy.contrib k (s.noteWord k n c v) } := by
  have hbump : ∀ (b : Bool) (u : State), (if b then u.bump .saturation else u).copy = u.copy := fun b u => by
    cases b <;> simp
  simp only [State.noted, hbump, State.modCopy_copy]
  split
  · next h => simp only [h, State.refuse_copy, vmod, vset_same, vset_vset, State.noteWord, Bool.or_true]
  · next h => simp only [vmod, State.noteWord, Bool.eq_false_iff.mpr h, Bool.or_false]

theorem State.noted_counters (d : Counter) : countOf (s.noted k n c v).counters d =
    if d = .saturation ∧ (s.settleWord k n c (resolve s.copy.recording v)).saturated = true then
      min 65535 (countOf s.counters d + 1)
    else if d = .refusedFrames ∧ (s.copy.recording == .none && !s.coder.slots[k].oldOnly &&
        !s.copy.contrib[k].refused) = true then min 65535 (countOf s.counters d + 1)
    else countOf s.counters d := by
  unfold State.noted
  dsimp only
  split <;> split <;> by_cases hd : d = .saturation <;> simp_all

theorem State.noted_isSet (d : Cause) : (s.noted k n c v).rep.isSet d = (s.rep.isSet d ||
    (s.copy.recording == .none && !s.coder.slots[k].oldOnly && !s.copy.contrib[k].refused && d == .refused)) := by
  unfold State.noted
  dsimp only
  split
  · rw [(State.onlyMarks_bump _ _).flags.2.2]
    split <;> simp_all
  · split <;> simp_all

theorem State.settleAndStore_isSet (d : Cause) : (s.settleAndStore k n c v).rep.isSet d = (s.rep.isSet d ||
    (s.copy.recording == .none && !s.coder.slots[k].oldOnly && !s.copy.contrib[k].refused && d == .refused)) := by
  rw [← s.noted_isSet k n c v]
  exact (State.onlyMarks_storeWord _ _ _ _ _).flags.2.2 d

theorem State.settleAndStore_peek (a : Nat) : (s.settleAndStore k n c v).peek a =
    (s.storeWord k (blockOf n c.val) (posOf n) (s.settleWord k n c (resolve s.copy.recording v)).word).peek a := by
  have hp : (s.noted k n c v).parityValue k (groupOf (blockOf n c.val)) (posOf n) =
      s.parityValue k (groupOf (blockOf n c.val)) (posOf n) := State.parityValue_congr (by simp) (by simp) (by simp) _ _
  have hd : (s.noted k n c v).dataValue k (blockOf n c.val) (posOf n) = s.dataValue k (blockOf n c.val) (posOf n) :=
    State.dataValue_congr (by simp) (by simp) (by simp) _ _
  have hr : ∀ off, (s.noted k n c v).recAddr k off = s.recAddr k off := State.recAddr_congr (by simp) k
  have e : (s.settleAndStore k n c v).peek a = ((s.noted k n c v).storeWord k (blockOf n c.val) (posOf n)
      (s.settleWord k n c (resolve s.copy.recording v)).word).peek a := rfl
  rw [e, State.storeWord_peek, State.storeWord_peek, hp, hd, hr, hr]
  exact State.peek_congr (by simp [State.poke]) a

end

/-! ### The old-audio fetch (R25, R60 to R62, R128) -/

section
variable (s : State) (f n : Nat) (c : Fin 2)

/-- The class of the word of a MIX request (R61, R62). -/
def State.mixOwn : WordClass := s.tape.classify s.recordRate (some f) n c

/-- The class of the next word of a MIX request (R68). -/
def State.mixNext : WordClass := s.tape.classifyNext s.dec.mix[c] (s.mixOwn f n c) s.recordRate (some f) n c

/-- The delivery of a MIX request (R67 to R70). -/
def State.mixDelivery : Delivery :=
  s.dec.mix[c].deliver s.settings.hold (s.classValue (s.mixOwn f n c)) (s.classValue (s.mixNext f n c))

/-- A rate test of a MIX request finds a mismatch (R62). -/
def State.mixClash : Bool :=
  s.tape.rateClash s.recordRate (some f) ||
    (s.tape.looksAhead s.dec.mix[c] (s.mixOwn f n c) s.recordRate (some f) &&
      s.tape.rateClash s.recordRate (nextWord (some f) n).1)

theorem State.noteRate_eq (rate g : Option Nat) :
    (s.noteRate rate g).dec =
      { s.dec with rateMark := if s.tape.rateClash rate g then some s.coder.r else s.dec.rateMark } ∧
    ∀ d, (s.noteRate rate g).rep.isSet d = (s.rep.isSet d ||
      (s.tape.rateClash rate g && s.dec.rateMark != some s.coder.r && d == .rateMismatch)) := by
  unfold State.noteRate
  split
  · next h =>
    obtain ⟨h1, h2⟩ := Bool.and_eq_true_iff.mp h
    exact ⟨by simp [h1], fun d => by rw [h]; simp⟩
  · next h =>
    refine ⟨?_, fun d => by simp [Bool.eq_false_iff.mpr h]⟩
    by_cases hc : s.tape.rateClash rate g = true
    · have : s.dec.rateMark = some s.coder.r := by simpa [hc] using h
      simp [hc, ← this]
    · simp [Bool.eq_false_iff.mpr hc]

/-- The rate tests of a MIX request: the frame's own, and the next frame's where the service looks there (R62). -/
def State.rateNoted : State :=
  if s.tape.looksAhead s.dec.mix[c] (s.mixOwn f n c) s.recordRate (some f) then
    (s.noteRate s.recordRate (some f)).noteRate s.recordRate (nextWord (some f) n).1
  else s.noteRate s.recordRate (some f)

theorem State.mixRequest_eq : s.mixRequest f n c =
    ((((s.rateNoted f n c).modDec fun v => { v with mix := vset v.mix c (s.mixDelivery f n c).ctx }).modCoder fun r =>
      { r with source := vmod r.source c fun b =>
        sourceAfter s.tape b (s.mixDelivery f n c).kind (s.mixOwn f n c) (s.mixNext f n c) }).addAccesses
      ((s.mixOwn f n c).cost + (s.mixNext f n c).cost)).countDelivery (s.mixDelivery f n c).kind (s.mixOwn f n c) := rfl

/-- What the rate tests leave: the rate-mismatch mark, and RATE_MISMATCH at most once for a frame (R62). -/
theorem State.rateNoted_eq :
    (s.rateNoted f n c).coder = s.coder ∧ (s.rateNoted f n c).counters = s.counters ∧
    (s.rateNoted f n c).dec =
      { s.dec with rateMark := if s.mixClash f n c then some s.coder.r else s.dec.rateMark } ∧
    ∀ d, (s.rateNoted f n c).rep.isSet d = (s.rep.isSet d ||
      (s.mixClash f n c && s.dec.rateMark != some s.coder.r && d == .rateMismatch)) := by
  obtain ⟨hd1, hs1⟩ := s.noteRate_eq s.recordRate (some f)
  unfold State.rateNoted State.mixClash
  split
  · next h =>
    obtain ⟨hd2, hs2⟩ := (s.noteRate s.recordRate (some f)).noteRate_eq s.recordRate (nextWord (some f) n).1
    refine ⟨by simp, by simp, ?_, fun d => ?_⟩
    · rw [hd2, hd1, h]
      cases s.tape.rateClash s.recordRate (some f) <;> simp
    · rw [hs2, hs1, hd1, h]
      cases s.tape.rateClash s.recordRate (some f) <;> simp
  · next h =>
    rw [Bool.eq_false_iff.mpr h]
    exact ⟨by simp, by simp, by simpa using hd1, fun d => by simpa using hs1 d⟩

theorem State.mixRequest_coder : (s.mixRequest f n c).coder =
    { s.coder with source := vmod s.coder.source c fun b =>
        sourceAfter s.tape b (s.mixDelivery f n c).kind (s.mixOwn f n c) (s.mixNext f n c) } := by
  simp [State.mixRequest_eq, (s.rateNoted_eq f n c).1]

theorem State.mixRequest_dec : (s.mixRequest f n c).dec =
    { s.dec with
      mix := vset s.dec.mix c (s.mixDelivery f n c).ctx
      rateMark := if s.mixClash f n c then some s.coder.r else s.dec.rateMark } := by
  simp [State.mixRequest_eq, (s.rateNoted_eq f n c).2.2.1]

/-- A delivery steps its counter and no other (R75). -/
theorem State.countDelivery_counters (kind : DeliveryKind) (own : WordClass) (d : Counter) :
    countOf (s.countDelivery kind own).counters d =
      if deliveryCounter kind own = some d then min 65535 (countOf s.counters d + 1) else countOf s.counters d := by
  unfold State.countDelivery
  split
  · next x h =>
    simp only [h, State.bump_counters, Option.some.injEq, eq_comm]
    split <;> simp_all
  · next h => simp [h]

theorem State.onlyMarks_countDelivery (kind : DeliveryKind) (own : WordClass) :
    s.rep.onlyMarks (s.countDelivery kind own).rep := by
  unfold State.countDelivery
  split
  · exact s.onlyMarks_bump _
  · exact .refl _

theorem State.mixRequest_counters (d : Counter) : countOf (s.mixRequest f n c).counters d =
    if deliveryCounter (s.mixDelivery f n c).kind (s.mixOwn f n c) = some d then min 65535 (countOf s.counters d + 1)
    else countOf s.counters d := by
  rw [State.mixRequest_eq, State.countDelivery_counters]
  simp [(s.rateNoted_eq f n c).2.1]

theorem State.mixRequest_isSet (d : Cause) : (s.mixRequest f n c).rep.isSet d = (s.rep.isSet d ||
    (s.mixClash f n c && s.dec.rateMark != some s.coder.r && d == .rateMismatch)) := by
  rw [State.mixRequest_eq, (State.onlyMarks_countDelivery _ _ _).flags.2.2, ← (s.rateNoted_eq f n c).2.2.2]
  rfl

/-- A request on the other channel leaves the classes and the delivery of a channel as they are (R60). -/
theorem State.mixOwn_after (j : Fin 2) : (s.mixRequest f n j).mixOwn f n c = s.mixOwn f n c := by
  simp only [State.mixOwn, State.recordRate, RecordCoder.openSlot, State.mixRequest_coder, State.mixRequest_frame]

theorem State.mixNext_after {j : Fin 2} (h : c ≠ j) : (s.mixRequest f n j).mixNext f n c = s.mixNext f n c := by
  simp only [State.mixNext, State.mixOwn_after, State.recordRate, RecordCoder.openSlot, State.mixRequest_coder,
    State.mixRequest_frame, State.mixRequest_dec, vset_other _ _ h]

theorem State.classValue_congr {s t : State} (hm : t.mem = s.mem) (hb : t.bus.table = s.bus.table) (w : WordClass) :
    t.classValue w = s.classValue w := by
  cases w <;> simp only [State.classValue, State.tapeWord, State.peek, State.tapeAddr, BusPath.base, hm, hb]

theorem State.mixDelivery_after {j : Fin 2} (h : c ≠ j) :
    (s.mixRequest f n j).mixDelivery f n c = s.mixDelivery f n c := by
  have hv := State.classValue_congr (s := s) (t := s.mixRequest f n j) (by simp) (by simp)
  simp only [State.mixDelivery, State.mixOwn_after, State.mixNext_after _ _ _ _ h, hv, State.mixRequest_frame,
    State.mixRequest_dec, vset_other _ _ h]

theorem State.mixClash_after {j : Fin 2} (h : c ≠ j) : (s.mixRequest f n j).mixClash f n c = s.mixClash f n c := by
  simp only [State.mixClash, State.mixOwn_after, State.recordRate, RecordCoder.openSlot, State.mixRequest_coder,
    State.mixRequest_frame, State.mixRequest_dec, vset_other _ _ h]

/-- A fetch of both channels' old values: what it leaves of the record coder (R25 step 1, R128). -/
theorem State.fetchOld_coder : (s.fetchOld n).coder =
    { s.coder with
      source := (s.fetchOld n).coder.source
      latch := some { frame := s.coder.r, pair := n,
                      old := #v[(s.mixDelivery s.coder.r n 0).ctx.last, (s.mixDelivery s.coder.r n 1).ctx.last],
                      source := (s.fetchOld n).coder.source } } := by
  simp only [State.fetchOld, State.modCoder_coder, State.mixRequest_coder, State.mixRequest_dec, vset_same,
    vset_other _ _ (show (0 : Fin 2) ≠ 1 by decide), State.mixDelivery_after _ _ _ _ (show (1 : Fin 2) ≠ 0 by decide)]

/-- A fetch leaves each channel's source status as R128 has it. -/
theorem State.fetchOld_source : (s.fetchOld n).coder.source[c] =
    sourceAfter s.tape s.coder.source[c] (s.mixDelivery s.coder.r n c).kind (s.mixOwn s.coder.r n c)
      (s.mixNext s.coder.r n c) := by
  have h01 : (0 : Fin 2) ≠ 1 := by decide
  simp only [State.fetchOld, State.modCoder_coder, State.mixRequest_coder, State.mixRequest_frame]
  match c with
  | 0 => rw [vmod_other _ _ h01, vmod_same]
  | 1 => rw [vmod_same, vmod_other _ _ h01.symm, State.mixDelivery_after _ _ _ _ h01.symm, State.mixOwn_after,
      State.mixNext_after _ _ _ _ h01.symm]

theorem State.fetchOld_dec : (s.fetchOld n).dec =
    { s.dec with
      mix := (s.fetchOld n).dec.mix
      rateMark := if s.mixClash s.coder.r n 0 || s.mixClash s.coder.r n 1 then some s.coder.r else s.dec.rateMark } := by
  have h10 : (1 : Fin 2) ≠ 0 := by decide
  simp only [State.fetchOld, State.modCoder_dec, State.mixRequest_dec, State.mixRequest_coder,
    State.mixClash_after _ _ _ _ h10]
  cases s.mixClash s.coder.r n 0 <;> simp

theorem State.fetchOld_mix : (s.fetchOld n).dec.mix[c] = (s.mixDelivery s.coder.r n c).ctx := by
  have h01 : (0 : Fin 2) ≠ 1 := by decide
  simp only [State.fetchOld, State.modCoder_dec, State.mixRequest_dec]
  match c with
  | 0 => rw [vset_other _ _ h01, vset_same]
  | 1 => rw [vset_same, State.mixDelivery_after _ _ _ _ h01.symm]

theorem State.fetchOld_isSet (d : Cause) : (s.fetchOld n).rep.isSet d = (s.rep.isSet d ||
    ((s.mixClash s.coder.r n 0 || s.mixClash s.coder.r n 1) && s.dec.rateMark != some s.coder.r &&
      d == .rateMismatch)) := by
  have h10 : (1 : Fin 2) ≠ 0 := by decide
  simp only [State.fetchOld, State.modCoder_rep, State.mixRequest_isSet, State.mixRequest_dec, State.mixRequest_coder,
    State.mixClash_after _ _ _ _ h10]
  cases s.mixClash s.coder.r n 0 <;> simp

/-- A counter after the two deliveries of a fetch, left channel first (R75). -/
theorem State.fetchOld_counters (d : Counter) :
    let step (c : Fin 2) (m : Nat) : Nat :=
      if deliveryCounter (s.mixDelivery s.coder.r n c).kind (s.mixOwn s.coder.r n c) = some d then min 65535 (m + 1)
      else m
    countOf (s.fetchOld n).counters d = step 1 (step 0 (countOf s.counters d)) := by
  have h10 : (1 : Fin 2) ≠ 0 := by decide
  simp only [State.fetchOld, State.modCoder_counters, State.mixRequest_counters, State.mixDelivery_after _ _ _ _ h10,
    State.mixOwn_after]

end

/-! ### The effective source re-judged (R89) and the pair event (R25, R105) -/

theorem State.rejudge_mon (s : State) : s.rejudge.mon = { s.mon with effective := s.effectiveOf } := by
  have h := s.sourceJudged_rejudge.1
  rwa [s.rejudge_effectiveOf] at h

theorem State.rejudge_copy (s : State) : s.rejudge.copy = { s.copy with output := s.rejudge.copy.output } := by
  obtain ⟨_, hkeep, hset, _, _⟩ := s.sourceJudged_rejudge
  by_cases h : s.rejudge.effectiveOf = s.mon.effective
  · rw [hkeep h]
  · exact (hset h).1.2.2.2.1

theorem State.rejudge_dec (s : State) : s.rejudge.dec = { s.dec with mon := s.rejudge.dec.mon } := by
  unfold State.rejudge
  dsimp only
  repeat' split
  all_goals simp

theorem State.rejudge_fixed {s : State} (h : s.effectiveOf = s.mon.effective) : s.rejudge = s := if_pos h

section
variable {d : Cause} (h : d.group ≠ 2)
include h

/-- No cause of another group is raised by the edit engine (R166). -/
theorem State.applyReturnTest_isSet (s : State) : s.applyReturnTest.rep.isSet d = s.rep.isSet d := by
  have hd : (d == .missed) = false := beq_false_of_ne (by rintro rfl; exact h rfl)
  unfold State.applyReturnTest
  dsimp only
  repeat' split
  · rfl
  · rw [State.raise_isSet, hd, Bool.or_false]
    rfl
  · rfl

theorem State.armHead_isSet (s : State) : s.armHead.rep.isSet d = s.rep.isSet d := by
  unfold State.armHead
  split
  · rw [(State.onlyMarks_markEdit _).flags.2.2]
    exact State.applyReturnTest_isSet h s
  · rfl

theorem State.firePunch_isSet (s : State) (x : Entry) (q : Nat) (forced : Bool) :
    (s.firePunch x q forced).rep.isSet d = s.rep.isSet d := by
  have h1 : (d == .fired) = false := beq_false_of_ne (by rintro rfl; exact h rfl)
  have h2 : (d == .forced) = false := beq_false_of_ne (by rintro rfl; exact h rfl)
  rw [State.firePunch, State.raiseIf_isSet, State.raise_isSet, (State.onlyMarks_markEdit _).flags.2.2]
  simp [h1, h2]

theorem State.level2_isSet (s : State) (x : Entry) (q : Nat) (old : Vector Word 2) :
    (s.level2 x q old).rep.isSet d = s.rep.isSet d := by
  unfold State.level2
  dsimp only
  repeat' split
  · exact State.firePunch_isSet h s x q false
  · exact State.firePunch_isSet h s x q true
  · rfl

theorem State.level1_isSet (s : State) (x : Entry) (q : Nat) (old : Vector Word 2) :
    (s.level1 x q old).rep.isSet d = s.rep.isSet d := by
  unfold State.level1
  repeat' split
  · rfl
  · exact State.firePunch_isSet h s x q false
  · rw [State.level2_isSet h, (State.onlyMarks_markEdit _).flags.2.2]
    rfl

theorem State.comparator_isSet (s : State) (q : Nat) (old : Option (Vector Word 2)) :
    (s.comparator q old).rep.isSet d = s.rep.isSet d := by
  unfold State.comparator
  split
  · exact State.level1_isSet h _ _ _ _
  · exact State.level2_isSet h _ _ _ _
  · rfl

theorem State.fadeWait_isSet (s : State) (q : Nat) : (s.fadeWait q).rep.isSet d = s.rep.isSet d := by
  unfold State.fadeWait
  split
  · exact State.armHead_isSet h _
  · rfl

theorem State.pairEvent_isSet (s : State) (q : Nat) (old : Option (Vector Word 2)) :
    (s.pairEvent q old).rep.isSet d = s.rep.isSet d := by
  rw [State.pairEvent, (State.onlyMarks_rejudge _).flags.2.2, State.comparator_isSet h, State.fadeWait_isSet h]
  rfl

end

/-- What a pair event leaves of the record coder, the decode service, the monitor and copy control (R25, R88, R89). -/
theorem State.pairEvent_keeps (s : State) (q : Nat) (old : Option (Vector Word 2)) :
    (s.pairEvent q old).coder = { s.coder with recPos := some q } ∧
    (s.pairEvent q old).dec = { s.dec with mon := (s.pairEvent q old).dec.mon } ∧
    (s.pairEvent q old).mon = { s.mon with effective := (s.pairEvent q old).mon.effective } ∧
    (s.pairEvent q old).copy = { s.copy with output := (s.pairEvent q old).copy.output } := by
  refine ⟨by simp [State.pairEvent], ?_, ?_, ?_⟩
  · rw [State.pairEvent, State.rejudge_dec]
    simp
  · rw [State.pairEvent, State.rejudge_mon]
    simp
  · rw [State.pairEvent, State.rejudge_copy]
    simp

end Sys2Proof.Machine
end

section
/-! PROOFS. A word write as a whole: the fetch and the pair event before it, then the word settled and stored (R23 to R25). -/

namespace Sys2Proof.Machine

/-! ### The word stored (R24) -/

theorem setEntry_getLsbD {n : Nat} (m : Vector (BitVec 128) n) {i p : Nat} (hi : i < n) (hp : p < 128) (j q : Nat) :
    (vget (setEntry m i p) j 0).getLsbD q = ((vget m j 0).getLsbD q || (j == i && q == p)) := by
  by_cases h : j = i ∧ q = p
  · obtain ⟨rfl, rfl⟩ := h
    rw [setEntry_same m hi hp]
    simp
  · have hne : j ≠ i ∨ q ≠ p := by tauto
    rw [setEntry_other m hi hp hne]
    rcases hne with h | h <;> simp [h]

theorem pairIn_lt (o : Nat) : pairIn o < 768 := by
  unfold pairIn Config.halfWords
  omega

section
variable (s : State) (k : Fin 4) (n : Nat) (c : Fin 2) (v : Word)

theorem State.settleAndStore_coder : (s.settleAndStore k n c v).coder =
    { s.coder with slots := vmod s.coder.slots k fun z =>
      { z with
        sums := (s.settleAndStore k n c v).coder.slots[k].sums
        written := setEntry z.written (blockOf n c.val) (posOf n)
        touched := setEntry z.touched (groupOf (blockOf n c.val)) (posOf n) } } := by
  have e := (s.noted k n c v).storeWord_coder k (blockOf n c.val) (posOf n)
    (s.settleWord k n c (resolve s.copy.recording v)).word
  rw [(s.noted_frame k n c v).2.1] at e
  exact e

theorem State.settleAndStore_slot : (s.settleAndStore k n c v).coder.slots[k] =
    { s.coder.slots[k] with
      sums := (s.settleAndStore k n c v).coder.slots[k].sums
      written := setEntry s.coder.slots[k].written (blockOf n c.val) (posOf n)
      touched := setEntry s.coder.slots[k].touched (groupOf (blockOf n c.val)) (posOf n) } := by
  conv => lhs; rw [State.settleAndStore_coder, vmod_same]

theorem State.settleAndStore_slot_other {j : Fin 4} (h : j ≠ k) :
    (s.settleAndStore k n c v).coder.slots[j] = s.coder.slots[j] := by
  rw [State.settleAndStore_coder, vmod_other _ _ h]

/-- A store leaves the record coder but for its slots. -/
theorem State.settleAndStore_coder_rest : (s.settleAndStore k n c v).coder =
    { s.coder with slots := (s.settleAndStore k n c v).coder.slots } := by
  conv => lhs; rw [State.settleAndStore_coder]
  conv => rhs; rw [State.settleAndStore_coder]

theorem State.settleAndStore_copy : (s.settleAndStore k n c v).copy =
    { s.copy with contrib := vmod s.copy.contrib k (s.noteWord k n c v) } := by
  rw [← s.noted_copy k n c v, State.settleAndStore_eq]
  simp

theorem State.settleAndStore_counters (d : Counter) : countOf (s.settleAndStore k n c v).counters d =
    if d = .saturation ∧ (s.settleWord k n c (resolve s.copy.recording v)).saturated = true then
      min 65535 (countOf s.counters d + 1)
    else if d = .refusedFrames ∧ (s.copy.recording == .none && !s.coder.slots[k].oldOnly &&
        !s.copy.contrib[k].refused) = true then min 65535 (countOf s.counters d + 1)
    else countOf s.counters d := by
  rw [← s.noted_counters k n c v, State.settleAndStore_eq]
  simp

theorem State.settleAndStore_sums (m : Fin 14) (b g : Nat) (x : Word) (hb : b = blockOf n c.val) (hg : g = groupOf b)
    (hx : x = (s.settleWord k n c (resolve s.copy.recording v)).word) :
    (s.settleAndStore k n c v).coder.slots[k].sums[m] =
      if m.val = b then s.coder.slots[k].sums[m].update (2 + posOf n) (s.dataValue k b (posOf n)) x
      else if m.val = 12 + g then
        s.coder.slots[k].sums[m].update (2 + posOf n) (s.parityValue k g (posOf n))
          (s.parityValue k g (posOf n) ^^^ s.dataValue k b (posOf n) ^^^ x)
      else s.coder.slots[k].sums[m] := by
  subst hb hg hx
  have hp : ∀ g p, (s.noted k n c v).parityValue k g p = s.parityValue k g p :=
    State.parityValue_congr (by simp) (by simp) (by simp)
  have hd : ∀ b p, (s.noted k n c v).dataValue k b p = s.dataValue k b p :=
    State.dataValue_congr (by simp) (by simp) (by simp)
  rw [State.settleAndStore_eq, (State.treat_frame _ _).2.2.2.2.2.1, State.storeWord_sums _ _ _ _ (blockOf_lt _ _), hp, hd,
    (s.noted_frame k n c v).2.1]

variable {n} (hn : n < 768)
include hn

theorem State.settleAndStore_dataValue (hw : s.mem.wf = true) :
    (s.settleAndStore k n c v).dataValue k (blockOf n c.val) (posOf n) =
      (s.settleWord k n c (resolve s.copy.recording v)).word := by
  rw [State.settleAndStore_eq]
  exact State.dataValue_storeWord_same _ (posOf_lt hn) (blockOf_lt _ _) (by simpa using hw)

theorem State.settleAndStore_parityValue (hw : s.mem.wf = true) :
    (s.settleAndStore k n c v).parityValue k (groupOf (blockOf n c.val)) (posOf n) =
      s.parityValue k (groupOf (blockOf n c.val)) (posOf n) ^^^ s.dataValue k (blockOf n c.val) (posOf n) ^^^
        (s.settleWord k n c (resolve s.copy.recording v)).word := by
  have hp : ∀ g p, (s.noted k n c v).parityValue k g p = s.parityValue k g p :=
    State.parityValue_congr (by simp) (by simp) (by simp)
  have hd : ∀ b p, (s.noted k n c v).dataValue k b p = s.dataValue k b p :=
    State.dataValue_congr (by simp) (by simp) (by simp)
  rw [← hp, ← hd, State.settleAndStore_eq]
  exact State.parityValue_storeWord_same _ (posOf_lt hn) (by simpa using hw)

end

/-- Of memory a store moves the data word and its parity word alone (R24). -/
theorem State.settleAndStore_memSameBut (s : State) (k : Fin 4) (n : Nat) (c : Fin 2) (v : Word) : s.memSameBut
    [s.recAddr k (slotOffset (blockOf n c.val) (2 + posOf n)) % Config.memoryWords,
      s.recAddr k (slotOffset (12 + groupOf (blockOf n c.val)) (2 + posOf n)) % Config.memoryWords]
    (s.settleAndStore k n c v) := by
  intro a ha hmem
  have hmod : a % Config.memoryWords = a := Nat.mod_eq_of_lt ha
  obtain ⟨h1, h2⟩ : a ≠ _ ∧ a ≠ _ := by simpa using hmem
  rw [State.settleAndStore_peek, State.storeWord_peek, State.peek_poke_other _ _ (by rw [hmod]; exact h2),
    State.peek_poke_other _ _ (by rw [hmod]; exact h1)]

/-! ### The fetch and the pair event before it (R25 steps 1 and 2) -/

/-- The state after the old-audio fetch, where the word write needs one (R25 step 1). -/
def State.fetched (s : State) (n : Nat) : State := if s.coder.needsFetch n then s.fetchOld n else s

theorem State.fetched_of_not {s : State} {n : Nat} (h : s.coder.needsFetch n = false) : s.fetched n = s := by
  simp [State.fetched, h]

theorem State.fetched_of_needs {s : State} {n : Nat} (h : s.coder.needsFetch n = true) : s.fetched n = s.fetchOld n := by
  simp [State.fetched, h]

/-- A fetch leaves the record coder but for the source statuses and the latch. -/
theorem State.fetched_coder (s : State) (n : Nat) : (s.fetched n).coder =
    { s.coder with source := (s.fetched n).coder.source, latch := (s.fetched n).coder.latch } := by
  unfold State.fetched
  split
  · rw [State.fetchOld_coder]
  · rfl

/-- The state that the word is settled in. -/
def State.prepared (s : State) (k : Fin 4) (n : Nat) : State :=
  if s.coder.slots[k].firstWrite n then
    (s.fetched n).pairEvent (position s.coder.r n)
      (if s.coder.mode = .insert then some #v[(s.fetched n).coder.oldValue 0, (s.fetched n).coder.oldValue 1] else none)
  else s.fetched n

theorem State.wordWrite_eq (s : State) (k : Fin 4) (n : Nat) (c : Fin 2) (v : Word) :
    s.wordWrite k n c v = (s.prepared k n).settleAndStore k n c v := rfl

@[simp] theorem State.fetched_frame (s : State) (n : Nat) :
    (s.fetched n).bus.op = s.bus.op ∧ (s.fetched n).bus.held = s.bus.held ∧
    (s.fetched n).bus.waiting = s.bus.waiting ∧ (s.fetched n).bus.table = s.bus.table ∧
    (s.fetched n).bus.valid = s.bus.valid ∧ (s.fetched n).tape = s.tape ∧ (s.fetched n).mon = s.mon ∧
    (s.fetched n).edit = s.edit ∧ (s.fetched n).copy = s.copy ∧ (s.fetched n).settings = s.settings ∧
    (s.fetched n).cmd = s.cmd ∧ (s.fetched n).mem = s.mem ∧ (s.fetched n).pending = s.pending := by
  unfold State.fetched
  split <;> simp

/-- The pair event, or nothing where the pair has begun (R25 step 2). -/
theorem State.prepared_keeps (s : State) (k : Fin 4) (n : Nat) :
    (s.prepared k n).coder =
      { (s.fetched n).coder with
        recPos := if s.coder.slots[k].firstWrite n then some (768 * s.coder.r + n) else (s.fetched n).coder.recPos } ∧
    (s.prepared k n).dec = { (s.fetched n).dec with mon := (s.prepared k n).dec.mon } ∧
    (s.prepared k n).mon = { s.mon with effective := (s.prepared k n).mon.effective } ∧
    (s.prepared k n).copy = { s.copy with output := (s.prepared k n).copy.output } ∧
    (s.prepared k n).counters = (s.fetched n).counters ∧
    (∀ d : Cause, d.group ≠ 2 → (s.prepared k n).rep.isSet d = (s.fetched n).rep.isSet d) ∧
    (s.coder.slots[k].firstWrite n = false → s.prepared k n = s.fetched n) := by
  cases hfirst : s.coder.slots[k].firstWrite n with
  | false =>
    have e : s.prepared k n = s.fetched n := if_neg (Bool.eq_false_iff.mp hfirst)
    rw [e]
    exact ⟨rfl, rfl, by simp, by simp, rfl, fun _ _ => rfl, fun _ => rfl⟩
  | true =>
    obtain ⟨old, e⟩ : ∃ old, s.prepared k n = (s.fetched n).pairEvent (position s.coder.r n) old := ⟨_, if_pos hfirst⟩
    obtain ⟨hcoder, hdec, hmon, hcopy⟩ := (s.fetched n).pairEvent_keeps (position s.coder.r n) old
    rw [e]
    exact ⟨hcoder, hdec, by simpa using hmon, by simpa using hcopy, by simp,
      fun d h => State.pairEvent_isSet h _ _ _, fun h => by cases h⟩

@[simp] theorem State.prepared_frame (s : State) (k : Fin 4) (n : Nat) :
    (s.prepared k n).bus.op = s.bus.op ∧ (s.prepared k n).bus.held = s.bus.held ∧
    (s.prepared k n).bus.waiting = s.bus.waiting ∧ (s.prepared k n).bus.table = s.bus.table ∧
    (s.prepared k n).bus.valid = s.bus.valid ∧ (s.prepared k n).tape = s.tape ∧
    (s.prepared k n).settings = s.settings ∧ (s.prepared k n).cmd = s.cmd ∧ (s.prepared k n).mem = s.mem ∧
    (s.prepared k n).pending = s.pending := by
  unfold State.prepared
  split <;> simp

/-- Word `w` has been stored at (n, c) of slot `k` between `s` and `t`, `src` being the source status beside its old value:
the data word, its parity word, the maps, the accumulators and the contribution record, and nothing else of the slots, of
memory and of copy control but the output status (R23, R24, R129, R134, R135). -/
structure State.WordStored (s t : State) (k : Fin 4) (n : Nat) (c : Fin 2) (w : Stored) (src : CopyStatus) : Prop where
  treatment : t.bus.treatment = .translated
  data : t.dataValue k (blockOf n c.val) (posOf n) = w.word
  parity : t.parityValue k (groupOf (blockOf n c.val)) (posOf n) =
    s.parityValue k (groupOf (blockOf n c.val)) (posOf n) ^^^ s.dataValue k (blockOf n c.val) (posOf n) ^^^ w.word
  mem : s.memSameBut
    [s.recAddr k (slotOffset (blockOf n c.val) (2 + posOf n)) % Config.memoryWords,
      s.recAddr k (slotOffset (12 + groupOf (blockOf n c.val)) (2 + posOf n)) % Config.memoryWords] t
  slot : t.coder.slots[k] = { s.coder.slots[k] with
    sums := t.coder.slots[k].sums
    written := setEntry s.coder.slots[k].written (blockOf n c.val) (posOf n)
    touched := setEntry s.coder.slots[k].touched (groupOf (blockOf n c.val)) (posOf n) }
  sums : ∀ m : Fin 14, t.coder.slots[k].sums[m] =
    if m.val = blockOf n c.val then
      s.coder.slots[k].sums[m].update (2 + posOf n) (s.dataValue k (blockOf n c.val) (posOf n)) w.word
    else if m.val = 12 + groupOf (blockOf n c.val) then
      s.coder.slots[k].sums[m].update (2 + posOf n) (s.parityValue k (groupOf (blockOf n c.val)) (posOf n))
        (t.parityValue k (groupOf (blockOf n c.val)) (posOf n))
    else s.coder.slots[k].sums[m]
  slots : ∀ j : Fin 4, j ≠ k → t.coder.slots[j] = s.coder.slots[j]
  contrib : t.copy.contrib[k] =
    ({ s.copy.contrib[k] with
        refused := s.copy.contrib[k].refused || (s.copy.recording == .none && !s.coder.slots[k].oldOnly) } :
      Contribution).add w.wNew w.wOld (s.copy.recording == .none) (recordedStatus s.copy.recording) src
  contribs : ∀ j : Fin 4, j ≠ k → t.copy.contrib[j] = s.copy.contrib[j]
  copy : t.copy = { s.copy with contrib := t.copy.contrib, output := t.copy.output }
  mon : t.mon = { s.mon with effective := t.mon.effective }
  frame : s.sameBut [.port, .coder, .dec, .mon, .edit, .copy, .counters, .rep, .mem] t

section
variable (s : State) (k : Fin 4) (n : Nat) (c : Fin 2) (v : Word)

/-- The word that a word write settles (R23, R25 step 3). -/
def State.writtenWord : Stored := (s.prepared k n).settleWord k n c (resolve s.copy.recording v)

theorem State.prepared_slots : (s.prepared k n).coder.slots = s.coder.slots := by
  rw [(s.prepared_keeps k n).1]
  exact (congrArg RecordCoder.slots (s.fetched_coder n) :)

/-- A word write stores the word it settles. -/
theorem State.wordWrite_stored (hw : s.mem.wf = true) (hn : n < 768) :
    s.WordStored (s.wordWrite k n c v) k n c (s.writtenWord k n c v) ((s.prepared k n).coder.oldSource c) := by
  obtain ⟨_, _, hmon, hcopy, _, _, _⟩ := s.prepared_keeps k n
  have hslots := s.prepared_slots k n
  have hframe := s.prepared_frame k n
  rw [State.wordWrite_eq]
  unfold State.writtenWord
  generalize s.prepared k n = u at *
  have hrec : u.copy.recording = s.copy.recording := by rw [hcopy]
  have hcontrib : u.copy.contrib = s.copy.contrib := by rw [hcopy]
  have hdata : ∀ b p, u.dataValue k b p = s.dataValue k b p :=
    State.dataValue_congr (by simp [hframe]) (by simp [hframe]) (by rw [hslots])
  have hparity : ∀ g p, u.parityValue k g p = s.parityValue k g p :=
    State.parityValue_congr (by simp [hframe]) (by simp [hframe]) (by rw [hslots])
  have hpeek : ∀ a, u.peek a = s.peek a := State.peek_congr (by simp [hframe])
  have hrecAddr : ∀ off, u.recAddr k off = s.recAddr k off := State.recAddr_congr (by simp [hframe]) k
  have hwu : u.mem.wf = true := by simpa [hframe] using hw
  have hcopy' := u.settleAndStore_copy k n c v
  refine ⟨rfl, ?_, ?_, ?_, ?_, fun m => ?_, fun j hj => ?_, ?_, fun j hj => ?_, ?_, ?_, ?_⟩
  · rw [← hrec, u.settleAndStore_dataValue k c v hn hwu]
  · rw [← hrec, u.settleAndStore_parityValue k c v hn hwu, hdata, hparity]
  · intro a ha hm
    rw [← hpeek]
    refine u.settleAndStore_memSameBut k n c v a ha ?_
    rwa [hrecAddr, hrecAddr]
  · rw [← hslots]
    exact u.settleAndStore_slot k n c v
  · rw [u.settleAndStore_parityValue k c v hn hwu, ← hrec, ← hslots, ← hdata, ← hparity]
    exact u.settleAndStore_sums k n c v m _ _ _ rfl rfl rfl
  · rw [u.settleAndStore_slot_other k n c v hj, hslots]
  · rw [hcopy', ← hcontrib, ← hrec, ← hslots]
    exact vmod_same _ _ _
  · rw [hcopy', ← hcontrib]
    exact vmod_other _ _ hj
  · rw [hcopy', hcopy]
  · rw [(u.settleAndStore_frame k n c v).2.2.2.2.2.2.2.1]
    exact hmon
  · simp [State.sameBut_iff, State.agree, hframe]

/-- What a word write leaves of the record coder besides the slots. -/
theorem State.wordWrite_coder : (s.wordWrite k n c v).coder =
    { s.coder with
      slots := (s.wordWrite k n c v).coder.slots
      source := (s.fetched n).coder.source
      latch := (s.fetched n).coder.latch
      recPos := if s.coder.slots[k].firstWrite n then some (768 * s.coder.r + n) else s.coder.recPos } := by
  rw [State.wordWrite_eq]
  conv => lhs; rw [State.settleAndStore_coder_rest, (s.prepared_keeps k n).1]
  rw [s.fetched_coder]

theorem State.wordWrite_dec : (s.wordWrite k n c v).dec =
    { (s.fetched n).dec with mon := (s.wordWrite k n c v).dec.mon } := by
  rw [State.wordWrite_eq, ((s.prepared k n).settleAndStore_frame k n c v).2.2.2.2.2.2.1]
  exact (s.prepared_keeps k n).2.1

theorem State.wordWrite_edit : (s.wordWrite k n c v).edit = (s.prepared k n).edit := by
  rw [State.wordWrite_eq]
  simp

theorem State.wordWrite_counters (d : Counter) : countOf (s.wordWrite k n c v).counters d =
    if d = .saturation ∧ (s.writtenWord k n c v).saturated = true then
      min 65535 (countOf (s.fetched n).counters d + 1)
    else if d = .refusedFrames ∧ (s.copy.recording == .none && !s.coder.slots[k].oldOnly &&
        !s.copy.contrib[k].refused) = true then min 65535 (countOf (s.fetched n).counters d + 1)
    else countOf (s.fetched n).counters d := by
  obtain ⟨_, _, _, hcopy, hcounters, _, _⟩ := s.prepared_keeps k n
  rw [State.wordWrite_eq, State.settleAndStore_counters, State.writtenWord, s.prepared_slots, hcounters, hcopy]

theorem State.wordWrite_isSet (d : Cause) (hd : d.group ≠ 2) : (s.wordWrite k n c v).rep.isSet d =
    ((s.fetched n).rep.isSet d || (s.copy.recording == .none && !s.coder.slots[k].oldOnly &&
      !s.copy.contrib[k].refused && d == .refused)) := by
  obtain ⟨_, _, _, hcopy, _, hset, _⟩ := s.prepared_keeps k n
  rw [State.wordWrite_eq, State.settleAndStore_isSet, s.prepared_slots, hset d hd, hcopy]

end

end Sys2Proof.Machine
end

section
/-! PROOFS. A record-window write taken in the current half, and what a word write settles in each mode (R21, R23). -/

namespace Sys2Proof.Machine

/-- The state that a word write starts from: no access made yet, and the value in the input echo (R91, R155). -/
def State.received (s : State) (c : Fin 2) (v : Word) : State := s.freshAccesses.echoIn c v

@[simp] theorem State.received_frame (s : State) (c : Fin 2) (v : Word) :
    (s.received c v).bus = { s.bus with accesses := 0 } ∧ (s.received c v).coder = s.coder ∧
    (s.received c v).tape = s.tape ∧ (s.received c v).dec = s.dec ∧
    (s.received c v).mon = { s.mon with echo := vset s.mon.echo c v } ∧ (s.received c v).edit = s.edit ∧
    (s.received c v).copy = s.copy ∧ (s.received c v).settings = s.settings ∧
    (s.received c v).counters = s.counters ∧ (s.received c v).cmd = s.cmd ∧ (s.received c v).rep = s.rep ∧
    (s.received c v).mem = s.mem ∧ (s.received c v).pending = s.pending :=
  ⟨rfl, rfl, rfl, rfl, rfl, rfl, rfl, rfl, rfl, rfl, rfl, rfl, rfl⟩

/-- A frame of the served write's start that excepts the bus port and the monitor, read as one of the state before. -/
theorem State.sameBut_served {ps : List Part} {s t : State} {c : Fin 2} {v : Word} (hp : .port ∈ ps) (hm : .mon ∈ ps)
    (h : (s.received c v).sameBut ps t) (w : WaitCounts) : s.sameBut ps (t.withCounts w) := by
  intro p hn
  cases p with
  | port => exact absurd hp hn
  | mon => exact absurd hm hn
  | _ => exact h _ hn

/-- A record-window write that lands in the OPEN slot of the current half is a word write (R21, R23). -/
theorem State.exec_wordWrite {s : State} {a : BusAddr} (v : Word) {k : Fin 4} {f : Nat} (h : s.portFree)
    (hr : s.bus.regionOf a.toNat = .recordWindow) (hj : s.coder.job = .recording)
    (hc : s.coder.curHalf = some (halfOf (s.bus.offset 0 a.toNat)))
    (hb : s.coder.halves[halfOf (s.bus.offset 0 a.toNat)] = .slot k f) (hs : s.coder.slots[k].state = .opened)
    (hn : (s.coder.needsFetch (pairIn (s.bus.offset 0 a.toNat)) && s.tape.evaluating) = false) :
    ∃ w, exec (.recordWindowWrite a v) s = .next
      (((s.received (chanIn (s.bus.offset 0 a.toNat)) v).wordWrite k (pairIn (s.bus.offset 0 a.toNat))
        (chanIn (s.bus.offset 0 a.toNat)) v).withCounts w) := by
  have e : ∀ t, s.freshAccesses.recordWrite t (s.bus.offset 0 a.toNat) v =
      (s.received (chanIn (s.bus.offset 0 a.toNat)) v).wordWrite k (pairIn (s.bus.offset 0 a.toNat))
        (chanIn (s.bus.offset 0 a.toNat)) v := fun t => by
    rw [State.recordWrite_current (by simpa using hj) t v (by simpa using hc),
      State.landWrite_word (by simpa using hb) (by simpa using hs) (by simpa using hn)]
    rfl
  have hw := State.exec_recordWindowWrite v h hr (by rw [e]; simpa using h.2.1)
  rwa [e] at hw

section
variable {s : State} (k : Fin 4) (n : Nat) (c : Fin 2) (v : Word)

/-- The fetch and the pair event leave the mode and the record position (R25). -/
theorem State.prepared_mode : (s.prepared k n).coder.mode = s.coder.mode ∧ (s.prepared k n).coder.r = s.coder.r ∧
    (s.prepared k n).coder.latch = (s.fetched n).coder.latch := by
  rw [(s.prepared_keeps k n).1]
  have h := s.fetched_coder n
  exact ⟨(congrArg RecordCoder.mode h :), (congrArg RecordCoder.r h :), rfl⟩

/-- In ASSEMBLE mode the resolved value is stored (R23). -/
theorem State.writtenWord_assemble (h : s.coder.mode = .assemble) :
    s.writtenWord k n c v = Stored.ofNew (resolve s.copy.recording v) := by
  simp only [State.writtenWord, State.settleWord, State.prepared_mode, h]

/-- In INSERT mode the old value alone is stored in a slot marked old audio only, and else what the stored-word rule gives
with the punch state and transition that the pair event leaves (R23, R25, R117). -/
theorem State.writtenWord_insert (h : s.coder.mode = .insert) {l : Latch} (hl : (s.fetched n).coder.latch = some l) :
    s.writtenWord k n c v =
      if s.coder.slots[k].oldOnly then Stored.ofOld l.old[c]
      else storedWord (s.prepared k n).edit.punch (s.prepared k n).edit.trans (768 * s.coder.r + n)
        (resolve s.copy.recording v) l.old[c] := by
  have hold : (s.prepared k n).coder.oldValue c = l.old[c] := by
    simp [RecordCoder.oldValue, State.prepared_mode, hl]
  simp only [State.writtenWord, State.settleWord, State.prepared_mode, h, hold, s.prepared_slots]
  rfl

theorem State.prepared_oldSource {l : Latch} (hl : (s.fetched n).coder.latch = some l) :
    (s.prepared k n).coder.oldSource c = l.source[c] := by
  simp [RecordCoder.oldSource, State.prepared_mode, hl]

end

/-! ### The contribution of a word taken whole from the new side (R134, R135) -/

theorem CopyStatus.most_free (x : CopyStatus) : x.most .free = x := by cases x <;> rfl

theorem CopyStatus.most_none (x : CopyStatus) : x.most .none = .none := by cases x <;> rfl

/-- The contribution of a word taken whole from the new side (R134, R135). -/
theorem Contribution.add_ofNew (z : Contribution) (v : Word) (recording src : CopyStatus) :
    z.add (Stored.ofNew v).wNew (Stored.ofNew v).wOld (recording == .none) (recordedStatus recording) src =
      if recording = .none then z
      else { z with gotNew := true, newStatus := if recording = .free then z.newStatus else .none } := by
  cases recording <;> simp [Contribution.add, Stored.ofNew, recordedStatus, CopyStatus.most_free, CopyStatus.most_none]

/-! ### The release (R34) -/

theorem finalWordOf_iff (y : Nat) (k : Fin 4) : finalWordOf y = some k ↔ y = 1848 * k.val + 1847 := by
  have hfind : finalWordOf y = some k → y = 1848 * k.val + 1847 := fun h => by
    simpa [Config.slotWords] using List.find?_some h
  refine ⟨hfind, fun h => ?_⟩
  cases hf : finalWordOf y with
  | none =>
    have hno := List.find?_eq_none.mp hf k (by fin_cases k <;> decide)
    simp [Config.slotWords, h] at hno
  | some j =>
    have hj : y = 1848 * j.val + 1847 := by simpa [Config.slotWords] using List.find?_some hf
    rw [Fin.ext (by omega : j.val = k.val)]

/-- An unbound half is bound to no slot. -/
theorem Binding.unbindFrom_ne (b : Binding) (k : Fin 4) (f : Nat) : b.unbindFrom k ≠ .slot k f := by
  unfold Binding.unbindFrom
  split
  · split
    · exact Binding.noConfusion
    · next hne => exact fun e => hne (Binding.slot.inj e).1
  · next hne => exact fun e => hne _ _ e

/-- Unbinding from slot `k` ends a binding to it and leaves any other. -/
theorem Binding.unbindFrom_changes {b : Binding} {k : Fin 4} (h : b.unbindFrom k ≠ b) :
    b.unbindFrom k = .unbound ∧ ∃ f, b = .slot k f := by
  cases b with
  | unbound => exact absurd rfl h
  | absorbed f => exact absurd rfl h
  | slot n f =>
    by_cases hn : n = k
    · subst hn
      exact ⟨if_pos rfl, f, rfl⟩
    · exact absurd (if_neg hn) h

theorem vimap_getElem {α β : Type} {n : Nat} (f : Fin n → α → β) (v : Vector α n) (i : Fin n) :
    (vimap f v)[i] = f i v[i] := by
  simp [vimap]

@[simp] theorem State.releaseRecord_coder (s : State) (k : Fin 4) : (s.releaseRecord k).coder =
    { s.coder with
      slots := vmod s.coder.slots k fun x => { x with state := .free }
      halves := vimap (fun _ b => b.unbindFrom k) s.coder.halves } := rfl

end Sys2Proof.Machine
end

section
/-! PROOFS. What a word write in INSERT mode notes: the contribution of its weights (R129, R135), the rate tests of its fetch
(R62) and the counters of its deliveries (R75). -/

namespace Sys2Proof.Machine

/-! ### Contributions (R129, R135) -/

/-- The more restrictive of two copy statuses has the greater code (R1). -/
theorem CopyStatus.most_code (x y : CopyStatus) : (x.most y).code = max x.code y.code := by
  cases x <;> cases y <;> rfl

theorem Contribution.add_newStatus (z : Contribution) (wNew wOld : Nat) (recording src : CopyStatus) :
    (z.add wNew wOld (recording == .none) (recordedStatus recording) src).newStatus =
      if 0 < wNew ∧ recording = .once then .none else z.newStatus := by
  by_cases h : 0 < wNew <;> cases recording <;>
    simp [Contribution.add, h, recordedStatus, CopyStatus.most_free, CopyStatus.most_none]

theorem Contribution.add_oldStatus (z : Contribution) (wNew wOld : Nat) (refused : Bool) (recorded src : CopyStatus) :
    (z.add wNew wOld refused recorded src).oldStatus.code =
      if 0 < wOld then max z.oldStatus.code src.code else z.oldStatus.code := by
  by_cases h : 0 < wOld <;> simp [Contribution.add, h, CopyStatus.most_code]

/-! ### The rate tests (R62) -/

theorem Assembler.rateClash_eq (t : Assembler) (r : Nat) (g : Option Nat) :
    t.rateClash (some r) g = (g.bind t.completeAt).any fun j => t.slots[j].rate != r := by
  unfold Assembler.rateClash
  split
  · next h => rw [h]; rfl
  · next j h =>
    rw [h]
    exact bne_comm

/-! ### The deliveries (R67 to R70, R75) -/

theorem Ctx.deliver_some (x : Ctx) (limit : Nat) (v : Word) (next : Option Word) :
    (x.deliver limit (some v) next).kind = .recovered := rfl

theorem Ctx.deliver_none (x : Ctx) (limit : Nat) (next : Option Word) :
    (x.deliver limit none next).kind ≠ .recovered := by
  unfold Ctx.deliver
  dsimp only
  repeat' split
  all_goals exact DeliveryKind.noConfusion

/-- The counter of a delivery: rebuilt words are recovered, and the other kinds have a counter each (R75). -/
theorem deliveryCounter_iff (s : State) (x : Ctx) (limit : Nat) (own : WordClass) (next : Option Word) (d : Counter) :
    let y := x.deliver limit (s.classValue own) next
    deliveryCounter y.kind own = some d ↔
      (d = .wordsCorrected ∧ ∃ k b p, own = .rebuilt k b p) ∨ (d = .wordsInterpolated ∧ y.kind = .interpolated) ∨
      (d = .wordsHeld ∧ y.kind = .held) ∨ (d = .wordsMuted ∧ y.kind = .decayed) := by
  cases own with
  | direct k b p => simp [State.classValue, Ctx.deliver_some, deliveryCounter]
  | rebuilt k b p => simp [State.classValue, Ctx.deliver_some, deliveryCounter, eq_comm]
  | lost =>
    have h := x.deliver_none limit next
    simp only [State.classValue]
    generalize (x.deliver limit none next).kind = kind at *
    cases kind <;> simp_all [deliveryCounter, eq_comm]

/-- What INSERT mode stores in a slot, marked old audio only or not: its word, its weights and its saturation (R23, R117). -/
theorem Stored.insert_parts {oldOnly : Bool} {old : Word} {w x : Stored}
    (h : x = if oldOnly then Stored.ofOld old else w) :
    x.word = (if oldOnly then old else w.word) ∧ decide (0 < x.wNew) = (!oldOnly && decide (0 < w.wNew)) ∧
    decide (0 < x.wOld) = (oldOnly || decide (0 < w.wOld)) ∧ x.saturated = (w.saturated && !oldOnly) := by
  subst h
  cases oldOnly <;> simp [Stored.ofOld]

/-- A frame narrowed to the parts it has to leave out. -/
theorem State.sameBut.narrow {ps qs : List Part} {s t : State} (h : s.sameBut qs t)
    (hq : ∀ p ∈ qs, p ∉ ps → s.agree t p) : s.sameBut ps t :=
  fun p hp => if hm : p ∈ qs then hq p hm hp else h p hm

theorem State.agree.trans {s u t : State} {p : Part} (h1 : s.agree u p) (h2 : u.agree t p) : s.agree t p := by
  cases p <;> simp_all only [State.agree, and_self]

/-- One frame after another. -/
theorem State.sameBut.trans {ps qs : List Part} {s u t : State} (h1 : s.sameBut ps u) (h2 : u.sameBut qs t) :
    s.sameBut (ps ++ qs) t := fun p hp => by
  obtain ⟨hps, hqs⟩ := not_or.mp (mt List.mem_append.mpr hp)
  exact (h1 p hps).trans (h2 p hqs)

/-! ### The fetch of a pair (R25, R62, R75) -/

theorem RecordCoder.needsFetch_of {x : RecordCoder} {n : Nat} (hm : x.mode = .insert)
    (h : ∀ l, x.latch = some l → ¬(l.frame = x.r ∧ l.pair = n)) : x.needsFetch n = true := by
  have hl : x.latchHolds n = false := by
    rw [RecordCoder.latchHolds, Option.any_eq_false]
    simpa using h
  rw [RecordCoder.needsFetch, hm, hl]
  rfl

theorem vec2_getElem {α : Type} (f : Fin 2 → α) (c : Fin 2) : (#v[f 0, f 1] : Vector α 2)[c] = f c := by
  match c with
  | 0 => rfl
  | 1 => rfl

section
variable (s : State) (n : Nat)

/-- The two channels' rate tests together: the frame's own, and the next frame's where one of the two looks there. -/
theorem State.mixClash_both (f : Nat) :
    (s.mixClash f n 0 || s.mixClash f n 1) = (s.tape.rateClash s.recordRate (some f) ||
      (s.dec.mix[(0 : Fin 2)].examines (s.mixOwn f n 0) || s.dec.mix[(1 : Fin 2)].examines (s.mixOwn f n 1)) &&
        s.tape.rateClash s.recordRate (nextWord (some f) n).1) := by
  simp only [State.mixClash, Assembler.looksAhead]
  cases s.tape.rateClash s.recordRate (some f) <;>
    cases s.tape.rateClash s.recordRate (nextWord (some f) n).1 <;> simp

/-- A counter that steps once where `b` holds, and saturates (R172). -/
def stepped (b : Bool) (m : Nat) : Nat := if b then min 65535 (m + 1) else m

/-- The counter of a delivery steps once for each channel that it is the counter of (R75). -/
theorem State.fetchOld_stepped {d : Counter} {g : Fin 2 → Bool}
    (h : ∀ c, deliveryCounter (s.mixDelivery s.coder.r n c).kind (s.mixOwn s.coder.r n c) = some d ↔ g c = true) :
    countOf (s.fetchOld n).counters d = stepped (g 1) (stepped (g 0) (countOf s.counters d)) := by
  rw [State.fetchOld_counters]
  simp only [h]
  rfl

theorem State.mixDelivery_counter (f : Nat) (c : Fin 2) (d : Counter) :
    deliveryCounter (s.mixDelivery f n c).kind (s.mixOwn f n c) = some d ↔
      (d = .wordsCorrected ∧ ∃ k b p, s.mixOwn f n c = .rebuilt k b p) ∨
      (d = .wordsInterpolated ∧ (s.mixDelivery f n c).kind = .interpolated) ∨
      (d = .wordsHeld ∧ (s.mixDelivery f n c).kind = .held) ∨
      (d = .wordsMuted ∧ (s.mixDelivery f n c).kind = .decayed) :=
  deliveryCounter_iff s _ _ _ _ d

/-- A fetch steps no counter but those of the deliveries (R75). -/
theorem State.fetchOld_counter_other {d : Counter}
    (hd : d ∉ [Counter.wordsCorrected, .wordsInterpolated, .wordsHeld, .wordsMuted]) :
    countOf (s.fetchOld n).counters d = countOf s.counters d := by
  refine s.fetchOld_stepped n (g := fun _ => false) fun c => ⟨fun h => absurd ?_ hd, fun h => by cases h⟩
  rcases (s.mixDelivery_counter n _ c d).mp h with ⟨rfl, _⟩ | ⟨rfl, _⟩ | ⟨rfl, _⟩ | ⟨rfl, _⟩ <;> decide

end

end Sys2Proof.Machine
end

section
/-! PROOFS. The close engine: its accesses when it is granted the port (R32), and the close's end (R33). -/

namespace Sys2Proof.Machine

/-! ### The status decided for a frame (R136) -/

theorem Contribution.decided_code (x : Contribution) : x.decided.code =
    if x.refused then 2
    else max (if x.gotNew then x.newStatus.code else 0) (if x.gotOld then x.oldStatus.code else 0) := by
  unfold Contribution.decided
  split
  · rfl
  · rw [CopyStatus.most_code]
    cases x.gotNew <;> cases x.gotOld <;> rfl

/-! ### A grant of the port to the close engine (R32, R153) -/

section
variable {s : State} {j : CloseJob}

/-- One word written by an engine: it reads back, and nothing else of memory moves. -/
theorem State.poked_word {t : State} (hwf : s.mem.wf = true) (a : Nat) (v : Word) (hm : t.mem = (s.poke a v).mem) :
    t.peek a = v ∧ s.memSameBut [a % Config.memoryWords] t := by
  have hpeek := State.peek_congr hm
  refine ⟨(hpeek a).trans (s.peek_poke_same hwf a v), fun b hb hn => (hpeek b).trans ?_⟩
  refine s.peek_poke_other v ?_
  rw [Nat.mod_eq_of_lt hb]
  simpa using hn

/-- The close engine has priority over the others: granted the port, it makes its next access. -/
theorem State.exec_closeGrant (hr : s.bus.op = .running) (hn : s.noneHeld) (hc : s.coder.close = some j)
    (hw : j.wanting = true) : ∃ w, exec .enginePortGrant s = .next ((s.closeAccess j).withCounts w) := by
  have hguard : s.guarding = false := by rw [State.guarding, hn.1]; rfl
  have hgrantee : s.grantee = some .close := by
    simp [State.grantee, State.waiting, RecordCoder.closeWaiting, hc, hw, hguard]
  have hgrant : s.grant .close = (s.closeAccess j).withCounts ((s.closeAccess j).bus.counts.put .close 0) := by
    simp only [State.grant, State.engineAccess, hc]
    rfl
  have e : exec .enginePortGrant s = .next (s.grant .close).settle := by
    change Host.Outcome.next _ = _
    rw [if_pos hr, hgrantee]
  rw [e, hgrant, State.settle_noneHeld _ ⟨by simpa using hn.1, by simpa using hn.2⟩]
  exact ⟨_, rfl⟩

theorem State.closeAccess_fill {o : Nat} {rest : List Nat} (h : j.fill = o :: rest) :
    s.closeAccess j = (s.poke (s.recAddr j.slot o) 0).setClose { j with fill := rest } := by
  simp only [State.closeAccess, h]

theorem State.closeAccess_head (h : j.fill = []) :
    s.closeAccess j = (s.closeStages j).closeHead j (j.status.getD s.copy.contrib[j.slot].decided) := by
  simp only [State.closeAccess, h]

theorem State.closeStages_settled (h : j.status ≠ none) : s.closeStages j = s := by
  obtain ⟨st, hst⟩ := Option.ne_none_iff_exists'.mp h
  simp only [State.closeStages, hst]

/-- What the two stages before the first header word leave: the status settled, and UNDERRUN raised and counted where the
frame was not full (R32 stages 2 and 3). -/
theorem State.closeStages_keeps (hc : s.coder.close = some j) :
    (s.closeStages j).coder =
      { s.coder with close := some { j with status := some (j.status.getD s.copy.contrib[j.slot].decided) } } ∧
    (s.closeStages j).mem = s.mem ∧ (s.closeStages j).bus = s.bus ∧
    (j.status = none → j.underrun = true → (s.closeStages j).rep.isSet .underrun = true ∧
      countOf (s.closeStages j).counters .recordUnderrun = min 65535 (countOf s.counters .recordUnderrun + 1)) ∧
    (j.status ≠ none ∨ j.underrun = false → s.sameBut [.coder] (s.closeStages j)) ∧
    s.sameBut [.coder, .counters, .rep] (s.closeStages j) := by
  cases hst : j.status with
  | some st =>
    have hj : ({ j with status := some st } : CloseJob) = j := by rw [← hst]
    rw [State.closeStages_settled (by simp [hst])]
    simp [hj, ← hc, State.sameBut_iff, State.agree]
  | none =>
    simp only [State.closeStages, hst]
    cases hu : j.underrun with
    | false => simp [State.setClose, State.sameBut_iff, State.agree]
    | true =>
      have hset : ((s.raise .underrun).bump .recordUnderrun).rep.isSet .underrun = true := by
        rw [(State.onlyMarks_bump _ _).flags.2.2]
        simp
      simp [State.setClose, State.sameBut_iff, State.agree, hset]

theorem State.closeHead_header (u : State) (st : CopyStatus) (h : j.done < 28) :
    u.closeHead j st = (u.setClose { j with status := some st, done := j.done + 1 }).poke
      (u.recAddr j.slot (slotOffset (j.done / 2) (j.done % 2))) (u.coder.slots[j.slot].headWord j.done st) := by
  simp only [State.closeHead, if_pos h]

theorem State.closeHead_s1 (u : State) (st : CopyStatus) {b : Nat} (h : j.done = 28 + 2 * b) :
    u.closeHead j st =
      ((u.setClose { j with status := some st, done := j.done + 1 }).modRecSlot j.slot fun z =>
        { z with sums := vput z.sums b (u.coder.slots[j.slot].completeSums b st) }).poke
      (u.recAddr j.slot (slotOffset b 130)) (word (u.coder.slots[j.slot].completeSums b st).s1) := by
  have h1 : ¬ j.done < 28 := by omega
  have h2 : j.done % 2 = 0 := by omega
  have h3 : (j.done - 28) / 2 = b := by omega
  simp only [State.closeHead, if_neg h1, if_pos h2, h3]

theorem State.closeHead_s2 (u : State) (st : CopyStatus) {b : Nat} (h : j.done = 29 + 2 * b) :
    u.closeHead j st = (u.setClose { j with status := some st, done := j.done + 1 }).poke
      (u.recAddr j.slot (slotOffset b 131)) (word (vget u.coder.slots[j.slot].sums b { s1 := 0, s2 := 0 }).s2) := by
  have h1 : ¬ j.done < 28 := by omega
  have h2 : ¬ j.done % 2 = 0 := by omega
  have h3 : (j.done - 28) / 2 = b := by omega
  simp only [State.closeHead, if_neg h1, if_neg h2, h3]

end

/-! ### The end of the close (R33) -/

/-- A STOPPING job rests once no slot is OPEN or CLOSING (R16). -/
theorem State.restJob_coder (s : State) : s.restJob.coder = { s.coder with
    job := if s.coder.job = .stopping then (if s.coder.unfinished then .stopping else .idle) else s.coder.job } := by
  unfold State.restJob
  by_cases hj : s.coder.job = .stopping
  · cases hu : s.coder.unfinished with
    | true => simp [← hj]
    | false => simp [hj]
  · simp [hj]

theorem State.onlyMarks_restJob (s : State) : s.rep.onlyMarks s.restJob.rep := by
  unfold State.restJob
  split
  · exact (State.onlyMarks_markRecord (s.modCoder _)).trans (State.onlyMarks_rejudge _)
  · exact .refl _

/-- The slot READY and the frame counted, at the close's end (R33). -/
def State.closeDone (s : State) (j : CloseJob) : State :=
  (((s.modCoder fun c => { c with close := none }).modRecSlot j.slot fun x =>
    { x with state := .ready }).markRecord).bump .framesRecorded

/-- The close of the slot that waits begins (R31, R33). -/
def State.startPending (s : State) : State :=
  match s.coder.pendingClose with
  | some k => s.startClose k
  | none => s

theorem State.startPending_some {s : State} {k : Fin 4} (h : s.coder.pendingClose = some k) :
    s.startPending = s.startClose k := by
  simp only [State.startPending, h]

theorem State.startPending_none {s : State} (h : s.coder.pendingClose = none) : s.startPending = s := by
  simp only [State.startPending, h]

theorem State.finishClose_eq (s : State) (j : CloseJob) : s.finishClose j = (s.closeDone j).startPending.restJob := rfl

theorem State.closeDone_coder (s : State) (j : CloseJob) : (s.closeDone j).coder = { s.coder with
    close := none, slots := vmod s.coder.slots j.slot fun x => { x with state := .ready } } := by
  simp [State.closeDone]

theorem State.closeDone_marks (s : State) (j : CloseJob) : (s.closeDone j).rep.marks.record = true :=
  (State.onlyMarks_bump _ _).record rfl

theorem RecordCoder.pendingClose_opened {c : RecordCoder} {k : Fin 4} (h : c.pendingClose = some k) :
    c.slots[k].state = .opened := by
  have h := List.find?_some h
  simp only [Bool.and_eq_true, beq_iff_eq] at h
  exact h.1

/-- A search that finds something else than `i`, or nothing, finds the same once `i` is no longer looked for. -/
theorem find?_without {α : Type} {p q : α → Bool} {i : α} (hi : q i = false) (ho : ∀ x, x ≠ i → q x = p x) (l : List α)
    (h : l.find? p ≠ some i) : l.find? q = l.find? p := by
  induction l with
  | nil => rfl
  | cons x l ih =>
    by_cases hx : x = i
    · subst hx
      cases hp : p x with
      | true => exact absurd (List.find?_cons_of_pos hp) h
      | false =>
        rw [List.find?_cons_of_neg (Bool.eq_false_iff.mp hp)] at h ⊢
        rw [List.find?_cons_of_neg (Bool.eq_false_iff.mp hi), ih h]
    · cases hp : p x with
      | true => rw [List.find?_cons_of_pos hp, List.find?_cons_of_pos ((ho x hx).trans hp)]
      | false =>
        have hq := Bool.eq_false_iff.mp ((ho x hx).trans hp)
        rw [List.find?_cons_of_neg (Bool.eq_false_iff.mp hp)] at h ⊢
        rw [List.find?_cons_of_neg hq, ih h]

/-- The slot of the close that ends is not the one that waits: another one waits as before (R31). -/
theorem State.closeDone_pending {s : State} {j : CloseJob} {o : Option (Fin 4)} (h : s.coder.pendingClose = o)
    (hne : o ≠ some j.slot) : (s.closeDone j).coder.pendingClose = o := by
  subst h
  rw [State.closeDone_coder]
  refine find?_without (i := j.slot) ?_ (fun k hk => ?_) slotNumbers hne
  · simp [vmod_same, -Fin.getElem_fin]
  · simp [vmod_other _ _ hk, -Fin.getElem_fin]

/-- What waits is taken by the idle engine, and the slot whose close has ended stays READY (R31, R33). -/
theorem State.finishClose_coder (s : State) (j : CloseJob) :
    (s.finishClose j).coder.slots[j.slot] = { s.coder.slots[j.slot] with state := .ready } ∧
    (∀ k : Fin 4, k ≠ j.slot → s.coder.pendingClose = some k →
      (s.finishClose j).coder.slots[k] = { s.coder.slots[k] with state := .closing, closePending := false } ∧
      (s.finishClose j).coder.close = some (s.coder.slots[k].closeJob k)) ∧
    (s.coder.pendingClose = none → (s.finishClose j).coder.close = none ∧
      ∀ k : Fin 4, k ≠ j.slot → (s.finishClose j).coder.slots[k] = s.coder.slots[k]) := by
  have hready : (s.closeDone j).coder.slots[j.slot] = { s.coder.slots[j.slot] with state := .ready } := by
    rw [State.closeDone_coder]
    exact vmod_same _ _ _
  have hother : ∀ k : Fin 4, k ≠ j.slot → (s.closeDone j).coder.slots[k] = s.coder.slots[k] := fun k hk => by
    rw [State.closeDone_coder]
    exact vmod_other _ _ hk
  have hslots : (s.finishClose j).coder.slots = (s.closeDone j).startPending.coder.slots :=
    (congrArg RecordCoder.slots (State.restJob_coder _) :)
  have hclose : (s.finishClose j).coder.close = (s.closeDone j).startPending.coder.close :=
    (congrArg RecordCoder.close (State.restJob_coder _) :)
  rw [hslots, hclose]
  refine ⟨?_, fun k hk hp => ?_, fun hp => ?_⟩
  · cases hk : (s.closeDone j).coder.pendingClose with
    | none => rw [State.startPending_none hk, hready]
    | some k =>
      have hne : j.slot ≠ k := fun e => by
        have h := RecordCoder.pendingClose_opened hk
        rw [← e, hready] at h
        cases h
      rw [State.startPending_some hk, State.startClose_coder, vmod_other _ _ hne, hready]
  · rw [State.startPending_some (State.closeDone_pending hp (by simpa using hk))]
    simp only [State.startClose_coder, vmod_same, hother k hk, and_self]
  · rw [State.startPending_none (State.closeDone_pending hp (by simp))]
    exact ⟨by rw [State.closeDone_coder], hother⟩

theorem State.onlyMarks_startPending (s : State) : s.rep.onlyMarks s.startPending.rep := by
  unfold State.startPending
  split
  · exact s.onlyMarks_startClose _
  · exact .refl _

/-- The close's end: what it leaves beside the slots (R33). -/
theorem State.finishClose_keeps (s : State) (j : CloseJob) :
    (s.finishClose j).coder.job = (if s.coder.job = .stopping then
      (if (s.finishClose j).coder.unfinished then .stopping else .idle) else s.coder.job) ∧
    (∀ c, countOf (s.finishClose j).counters c =
      if c = .framesRecorded then min 65535 (countOf s.counters .framesRecorded + 1) else countOf s.counters c) ∧
    (s.finishClose j).rep.marks.record = true ∧
    (s.finishClose j).tape = s.tape ∧ (s.finishClose j).edit = s.edit := by
  have hp : ∀ u : State, u.startPending.coder.job = u.coder.job ∧ u.startPending.counters = u.counters ∧
      u.startPending.tape = u.tape ∧ u.startPending.edit = u.edit := fun u => by
    unfold State.startPending
    split <;> simp
  rw [State.finishClose_eq]
  refine ⟨?_, fun c => ?_, ?_, by simp [hp, State.closeDone], by simp [hp, State.closeDone]⟩
  · rw [State.restJob_coder, (hp _).1, State.closeDone_coder]
    rfl
  · simp only [State.restJob_frame, hp, State.closeDone, State.bump_counters]
    simp
  · exact (State.onlyMarks_restJob _).record ((State.onlyMarks_startPending _).record (s.closeDone_marks j))

theorem State.exec_closeEnd {s : State} {j : CloseJob} (hr : s.bus.op = .running) (hn : s.noneHeld)
    (hc : s.coder.close = some j) (hw : j.wanting = false) :
    ∃ w, exec .closeEnd s = .next ((s.finishClose j).withCounts w) := by
  have he : s.closeToEnd = some j := by simp [State.closeToEnd, hr, hc, hw]
  have e : exec .closeEnd s = .next (s.finishClose j).settle := by
    change Host.Outcome.next _ = _
    rw [he]
  rw [e, State.settle_noneHeld _ ⟨by simpa using hn.1, by simpa using hn.2⟩]
  exact ⟨_, rfl⟩

end Sys2Proof.Machine
end

section
/-! PROOFS. A record command taken: what is left of its owner's work (R159, R168), and RECORD_START's own (R17, R18). -/

namespace Sys2Proof.Machine

/-! ### A command judged and taken (R159, R168) -/

/-- The state that a command's owner is given: the marks put by. -/
def State.unmarked (s : State) : State := s.modRep ReportUnit.unmarked

@[simp] theorem State.unmarked_frame (s : State) :
    s.unmarked.bus = s.bus ∧ s.unmarked.coder = s.coder ∧ s.unmarked.tape = s.tape ∧ s.unmarked.dec = s.dec ∧
    s.unmarked.mon = s.mon ∧ s.unmarked.edit = s.edit ∧ s.unmarked.copy = s.copy ∧ s.unmarked.settings = s.settings ∧
    s.unmarked.counters = s.counters ∧ s.unmarked.cmd = s.cmd ∧ s.unmarked.rep = { s.rep with marks := Marks.clear } ∧
    s.unmarked.mem = s.mem ∧ s.unmarked.pending = s.pending :=
  ⟨rfl, rfl, rfl, rfl, rfl, rfl, rfl, rfl, rfl, rfl, rfl, rfl, rfl⟩

/-- The owner's state `v` with the marks that were put by, and the command unit at phase `p`. -/
def State.takenAs (s v : State) (p : CmdPhase) : State :=
  (v.modRep fun r => { r with marks := r.marks.union s.rep.marks }).modCmd fun c => { c with phase := p }

@[simp] theorem State.takenAs_frame (s v : State) (p : CmdPhase) :
    (s.takenAs v p).bus = v.bus ∧ (s.takenAs v p).coder = v.coder ∧ (s.takenAs v p).tape = v.tape ∧
    (s.takenAs v p).dec = v.dec ∧ (s.takenAs v p).mon = v.mon ∧ (s.takenAs v p).edit = v.edit ∧
    (s.takenAs v p).copy = v.copy ∧ (s.takenAs v p).settings = v.settings ∧ (s.takenAs v p).counters = v.counters ∧
    (s.takenAs v p).cmd = { v.cmd with phase := p } ∧
    (s.takenAs v p).rep = { v.rep with marks := v.rep.marks.union s.rep.marks } ∧ (s.takenAs v p).mem = v.mem ∧
    (s.takenAs v p).pending = v.pending :=
  ⟨rfl, rfl, rfl, rfl, rfl, rfl, rfl, rfl, rfl, rfl, rfl, rfl, rfl⟩

section
variable {s v : State} {i : Instr} {k : CmdKind} {owner : State → State × Result} {r : Result}

theorem State.take_takenAs (ho : owner s.unmarked = (v, r)) :
    s.take k owner = s.takenAs v (if v.rep.touched s.rep then .waitPass k r else .due k r) := by
  have e : s.take k owner = s.takenAs (owner s.unmarked).1
      (if (owner s.unmarked).1.rep.touched s.rep then .waitPass k (owner s.unmarked).2
        else .due k (owner s.unmarked).2) := rfl
  rw [e, ho]

/-- A command about to be taken, whose owner leaves the bus path: the owner's state with the marks and the phase (R168). -/
theorem State.command_takenAs (h : s.aboutToTake i) (ho : owner s.unmarked = (v, r)) (hb : v.bus = s.bus) :
    ∃ w, s.command i k owner =
      (s.takenAs v (if v.rep.touched s.rep then .waitPass k r else .due k r)).withCounts w := by
  rw [State.command_aboutToTake s i k owner h, State.take_takenAs ho]
  · exact ⟨_, rfl⟩
  · rw [State.take_takenAs ho]
    exact ⟨by simpa [hb] using h.2.2.1, by simpa [hb] using h.2.2.2⟩

/-- A command whose owner marks a record or raises a cause: its completion waits for the next pass (R168). -/
theorem State.command_marked (h : s.aboutToTake i) (ho : owner s.unmarked = (v, r)) (hb : v.bus = s.bus)
    (ht : v.rep.touched s.rep = true) : ∃ w, s.command i k owner = (s.takenAs v (.waitPass k r)).withCounts w := by
  obtain ⟨w, hw⟩ := State.command_takenAs (k := k) h ho hb
  rw [if_pos ht] at hw
  exact ⟨w, hw⟩

theorem State.takenAs_unmarked (s : State) (p : CmdPhase) :
    s.takenAs s.unmarked p = s.modCmd fun c => { c with phase := p } := by
  simp [State.takenAs, State.unmarked, State.modRep, State.modCmd, ReportUnit.unmarked, Marks.union, Marks.clear]

theorem State.touched_unmarked (s : State) : s.unmarked.rep.touched s.rep = false := by
  simp [ReportUnit.touched, Marks.any, Marks.clear]

/-- A command that its owner judges to have no effect but its result (R159, R160). -/
theorem State.command_refused (h : s.aboutToTake i) (ho : owner s.unmarked = (s.unmarked, r)) :
    ∃ t, s.command i k owner = t ∧ t.cmd = s.cmd.takenQuiet k r ∧ s.sameBut [.port, .cmd] t := by
  obtain ⟨w, hw⟩ := State.command_takenAs (k := k) h ho rfl
  rw [if_neg (Bool.eq_false_iff.mp s.touched_unmarked), State.takenAs_unmarked] at hw
  exact ⟨_, hw, rfl, by simp [State.sameBut_iff, State.agree]⟩

theorem ReportUnit.touched_of_record {q p : ReportUnit} (h : q.marks.record = true) : q.touched p = true := by
  simp [ReportUnit.touched, Marks.any, h]

theorem ReportUnit.touched_of_playback {q p : ReportUnit} (h : q.marks.playback = true) : q.touched p = true := by
  simp [ReportUnit.touched, Marks.any, h]

end

/-! ### RECORD_START (R17, R18) -/

theorem EditEngine.returnEntry_keeps (e : EditEngine) :
    e.returnEntry.target = e.target ∧ e.returnEntry.returnTest = e.returnTest ∧ e.returnEntry.param = e.param ∧
    e.returnEntry.list.map Entry.handle = e.list.map Entry.handle ∧ e.returnEntry.waiting = false := by
  unfold EditEngine.returnEntry EditEngine.setHead
  cases hw : e.waiting with
  | false => simp [hw]
  | true =>
    cases hl : e.list <;> simp [EditEngine.release, EditEngine.waiting, EditEngine.setOutcome, hl]

/-- What RECORD_START leaves of the edit engine (R18, R110). -/
theorem EditEngine.start_keeps (e : EditEngine) (mode : RecMode) :
    (e.start mode).punch = .outside ∧ (e.start mode).trans = none ∧ (e.start mode).deadline = none ∧
    (e.start mode).prevTrig = none ∧ (e.start mode).rearm = none ∧ (e.start mode).target = e.target ∧
    (e.start mode).returnTest = e.returnTest ∧ (e.start mode).param = e.param ∧
    (e.start mode).list.map Entry.handle = e.list.map Entry.handle ∧
    (mode = .assemble → (e.start mode).arm = .disarmed ∧ (e.start mode).waiting = false) := by
  obtain ⟨htarget, hreturn, hparam, hlist, hwait⟩ := e.returnEntry_keeps
  cases mode with
  | insert => exact ⟨rfl, rfl, rfl, rfl, rfl, rfl, rfl, rfl, rfl, fun h => by cases h⟩
  | assemble => exact ⟨rfl, rfl, rfl, rfl, rfl, htarget, hreturn, hparam, hlist, fun _ => ⟨rfl, hwait⟩⟩

theorem State.samplePermission_copy (s : State) :
    s.samplePermission.copy = { s.copy with recording := s.copy.derived } := by
  unfold State.samplePermission
  split
  · next h => rw [← h]
  · simp

/-- The seal moves the seal itself and the protected ranges that are not in force (R141). -/
theorem State.seal_copy (s : State) : s.seal.copy = { s.copy with sealed := true, ranges := s.seal.copy.ranges } := by
  unfold State.seal
  split
  · next h => rw [← h]
  · simp

theorem State.seal_flags (s : State) : s.seal.rep.raised = s.rep.raised ∧ s.seal.rep.posted = s.rep.posted := by
  unfold State.seal
  split <;> exact ⟨rfl, rfl⟩

/-- What RECORD_START's effects leave (R18, R62, R89, R110, R133). -/
theorem State.startRecording_keeps (s : State) (mode : RecMode) (a : Nat) :
    (s.startRecording mode a).coder = { s.coder with
      job := .recording, mode := mode, r := a, halves := Vector.replicate 2 .unbound, curHalf := none, latch := none,
      recPos := none } ∧
    (s.startRecording mode a).edit = s.edit.start mode ∧
    (s.startRecording mode a).dec = { s.dec with rateMark := none, mon := (s.startRecording mode a).dec.mon } ∧
    (s.startRecording mode a).copy = { s.copy with
      sealed := true, recording := s.copy.derived, ranges := (s.startRecording mode a).copy.ranges,
      output := (s.startRecording mode a).copy.output } ∧
    (s.startRecording mode a).mon = { s.mon with effective := (s.startRecording mode a).effectiveOf } ∧
    (s.startRecording mode a).rep.raised = s.rep.raised ∧ (s.startRecording mode a).rep.posted = s.rep.posted ∧
    (s.startRecording mode a).rep.marks.record = true := by
  have hsample := s.seal.onlyMarks_samplePermission.flags
  obtain ⟨hraised, hposted⟩ := s.seal_flags
  have hcopy : s.seal.samplePermission.copy =
      { s.copy with sealed := true, recording := s.copy.derived, ranges := s.seal.samplePermission.copy.ranges } := by
    rw [State.samplePermission_copy, State.seal_copy]
  obtain ⟨x, hx, hxcopy, hxcoder, hxedit, hxdec, hxmon, hxrep⟩ : ∃ x : State, s.startRecording mode a = x.rejudge ∧
      x.copy = s.seal.samplePermission.copy ∧ x.coder = { s.coder with
        job := .recording, mode := mode, r := a, halves := Vector.replicate 2 .unbound, curHalf := none, latch := none,
        recPos := none } ∧
      x.edit = s.edit.start mode ∧ x.dec = { s.dec with rateMark := none } ∧ x.mon = s.mon ∧
      x.rep = s.seal.samplePermission.markEdit.markRecord.rep :=
    ⟨_, rfl, by simp, by simp, by simp, by simp, by simp, rfl⟩
  have hflags := x.onlyMarks_rejudge.flags
  have hmark : x.rejudge.rep.marks.record = true := x.onlyMarks_rejudge.record (by rw [hxrep]; rfl)
  rw [hx]
  refine ⟨by simpa using hxcoder, by simpa using hxedit, ?_, ?_, ?_, ?_, ?_, hmark⟩
  · rw [State.rejudge_dec, hxdec]
  · rw [State.rejudge_copy, hxcopy]
    conv => lhs; rw [hcopy]
  · rw [State.rejudge_effectiveOf, State.rejudge_mon, hxmon]
  · rw [hflags.1, hxrep, ← hraised, ← hsample.1]
    rfl
  · rw [hflags.2.1, hxrep, ← hposted, ← hsample.2.1]
    rfl

section
variable {s : State} {m : BitVec 2} {hi lo : Word}

/-- The tests of RECORD_START in their order (R17). -/
theorem State.recordStart_refused {r : Result}
    (h : if s.coder.job ≠ .idle then r = .state
      else if s.bus.valid = false then r = .state
      else if 2 ≤ m.toNat ∨ 1048575 < frameOf hi lo then r = .range
      else m = 0 ∧ s.copy.isProtected (frameOf hi lo) = true ∧ r = .prot) : s.recordStart m hi lo = (s, r) := by
  unfold State.recordStart
  split at h
  · next h1 => rw [if_pos h1, h]
  · next h1 =>
    rw [if_neg h1]
    split at h
    · next h2 => rw [if_pos h2, h]
    · next h2 =>
      rw [if_neg h2]
      split at h
      · next h3 => rw [if_pos (by exact h3), h]
      · next h3 =>
        obtain ⟨hm, hp, hr⟩ := h
        rw [if_neg (by exact h3), if_pos ⟨hm, hp⟩, hr]

theorem State.recordStart_taken (hjob : s.coder.job = .idle) (hvalid : s.bus.valid = true) (hmode : m.toNat < 2)
    (hframe : frameOf hi lo ≤ 1048575) (hprot : m = 0 → s.copy.isProtected (frameOf hi lo) = false) :
    s.recordStart m hi lo = (s.startRecording (if m = 0 then .assemble else .insert) (frameOf hi lo), .done) := by
  have h3 : ¬(2 ≤ m.toNat ∨ Config.maxFrame < frameOf hi lo) := by
    rintro (h | h)
    · omega
    · exact absurd h (Nat.not_lt.mpr hframe)
  have h4 : ¬(m = 0 ∧ s.copy.isProtected (frameOf hi lo) = true) := fun h => by simp [hprot h.1] at h
  rw [State.recordStart, if_neg (by simp [hjob]), if_neg (by simp [hvalid]), if_neg h3, if_neg h4]

end

end Sys2Proof.Machine
end

section
/-! PROOFS. The stop of a record job (R29, R35, R38): what `editStopped`, `mixHoldsLapsed` and `sourceJudged` say, carried from
the operation to the state that the command or the write leaves, and what a stop leaves of the other parts. -/

namespace Sys2Proof.Machine

/-! ### The laws of a stop, from one pair of states to another -/

theorem State.editStopped_congr {x y s t : State} (h : x.editStopped y) (hx : s.edit = x.edit) (hy : t.edit = y.edit) :
    s.editStopped t := by
  simpa only [State.editStopped, hx, hy] using h

theorem State.mixHoldsLapsed_congr {x y s t : State} (h : x.mixHoldsLapsed y) (hx : s.tape = x.tape)
    (hq : s.mon.queue = x.mon.queue)
    (hh : s.mon.halves = x.mon.halves) (hy : t.tape = y.tape)
    (hp : y.rep.marks.playback = true → t.rep.marks.playback = true) : s.mixHoldsLapsed t := by
  obtain ⟨htape, hslots, hmark⟩ := h
  refine ⟨?_, fun k => ?_, fun hne => hp (hmark ?_)⟩
  · rw [hx, hy]
    exact htape
  · rw [hx, hy, hq, hh]
    exact hslots k
  · rwa [← hx, ← hy]

/-- `sourceJudged` speaks of the monitor, the MONITOR contexts, copy control and its mark before, and of those, the off-tape
slots and the playback mark after. -/
theorem State.sourceJudged_congr {x y s t : State} (h : x.sourceJudged y) (hm : s.mon = x.mon) (hc : s.copy = x.copy)
    (hd : s.dec.mon = x.dec.mon) (he : t.effectiveOf = y.effectiveOf) (hm' : t.mon = y.mon) (ht' : t.tape = y.tape)
    (hc' : t.copy = y.copy) (hd' : t.dec.mon = y.dec.mon) (hp : y.rep.marks.playback = true → t.rep.marks.playback = true)
    (hk : ∀ b, y.rep.marks.copy = (x.rep.marks.copy || b) → t.rep.marks.copy = (s.rep.marks.copy || b)) :
    s.sourceJudged t := by
  simp only [State.sourceJudged, State.outputSet, he, hm, hc, hd, hm', ht', hc', hd'] at h ⊢
  obtain ⟨hmon, hkeep, hset, hreentry, hstay⟩ := h
  refine ⟨hmon, hkeep, fun hne => ?_, hreentry, hstay⟩
  obtain ⟨⟨h1, h2, h3, h4, h5⟩, hplay⟩ := hset hne
  exact ⟨⟨h1, h2, h3, h4, hk _ h5⟩, hp hplay⟩

/-- The three laws of a stop, from the state its owner was given to the one before the command (R168). -/
theorem State.stopLaws_taken {s v : State} (p : CmdPhase) (w : WaitCounts) (he : s.unmarked.editStopped v)
    (hm : s.unmarked.mixHoldsLapsed v) (hj : s.unmarked.sourceJudged v) :
    s.editStopped ((s.takenAs v p).withCounts w) ∧ s.mixHoldsLapsed ((s.takenAs v p).withCounts w) ∧
    s.sourceJudged ((s.takenAs v p).withCounts w) := by
  have heff : ((s.takenAs v p).withCounts w).effectiveOf = v.effectiveOf := State.effectiveOf_congr rfl rfl rfl rfl rfl
  have hplay : v.rep.marks.playback = true → ((s.takenAs v p).withCounts w).rep.marks.playback = true := fun h => by
    simp [Marks.union, h]
  refine ⟨State.editStopped_congr he rfl rfl, State.mixHoldsLapsed_congr hm rfl rfl rfl rfl hplay,
    State.sourceJudged_congr hj rfl rfl rfl heff rfl rfl rfl rfl hplay fun b h => ?_⟩
  have h' : v.rep.marks.copy = b := h.trans (Bool.false_or b)
  simp [Marks.union, h', Bool.or_comm]

/-! ### The holds re-tested (R58) and the job at rest (R16) -/

theorem State.releaseSlots_copyMark (l : List (Fin 4)) (s : State) :
    (l.foldl State.releaseSlot s).rep.marks.copy = s.rep.marks.copy := by
  induction l generalizing s with
  | nil => rfl
  | cons k l ih =>
    rw [List.foldl_cons, ih]
    unfold State.releaseSlot
    split <;> rfl

theorem State.retestHolds_copyMark (s : State) : s.retestHolds.rep.marks.copy = s.rep.marks.copy := by
  unfold State.retestHolds
  exact s.releaseSlots_copyMark slotNumbers

theorem State.leaveHalf_copyMark (s : State) : s.leaveHalf.rep.marks.copy = s.rep.marks.copy := by
  unfold State.leaveHalf State.beginClose
  repeat' split
  all_goals rfl

/-- The effective source does not tell a STOPPING job from an IDLE one (R87). -/
theorem State.effectiveOf_stopping {s t : State} (hs : s.coder.job ≠ .recording) (ht : t.coder.job ≠ .recording)
    (hl : t.tape.lock = s.tape.lock) (hm : t.mon.selected = s.mon.selected)
    (ho : t.mon.override = s.mon.override) : t.effectiveOf = s.effectiveOf := by
  simp [State.effectiveOf, State.named, State.autoSource, State.bylock, *]

/-- A job that rests has its effective source judged already (R89). -/
theorem State.restJob_judged {s : State} (h : s.effectiveOf = s.mon.effective) : s.restJob =
    if s.coder.job = .stopping ∧ s.coder.unfinished = false then
      (s.modCoder fun c => { c with job := .idle }).markRecord
    else s := by
  unfold State.restJob
  split
  · next hj =>
    refine State.rejudge_fixed ?_
    have e : ((s.modCoder fun c => { c with job := .idle }).markRecord).effectiveOf = s.effectiveOf :=
      State.effectiveOf_stopping (by rw [hj.1]; decide) (by simp) rfl rfl rfl
    exact e.trans h
  · rfl

/-! ### The stop (R35) -/

theorem State.leaveHalf_coder_congr {s t : State} (h : t.coder = s.coder) : t.leaveHalf.coder = s.leaveHalf.coder := by
  unfold State.leaveHalf State.beginClose
  rw [h]
  cases s.coder.currentOpen with
  | none => exact h
  | some k => cases hc : s.coder.close <;> simp [h]

/-- The close of the OPEN slot of the current half begins, or waits behind a running one (R31, R35). -/
theorem State.leaveHalf_close (s : State) :
    (∀ k : Fin 4, s.coder.currentOpen = some k → s.coder.close = none →
      s.leaveHalf.coder.slots[k] = { s.coder.slots[k] with state := .closing, closePending := false } ∧
      s.leaveHalf.coder.close = some (s.coder.slots[k].closeJob k)) ∧
    ∀ k : Fin 4, s.coder.currentOpen = some k → s.coder.close ≠ none →
      s.leaveHalf.coder.slots[k] = { s.coder.slots[k] with closePending := true } ∧
      s.leaveHalf.coder.close = s.coder.close := by
  refine ⟨fun k hk hc => ?_, fun k hk hc => ?_⟩
  · rw [State.leaveHalf_start hk hc]
    exact ⟨vmod_same _ _ _, rfl⟩
  · rw [State.leaveHalf_wait hk hc]
    exact ⟨vmod_same _ _ _, rfl⟩

/-- The stop of a job up to the re-judgement of the effective source. -/
def State.stopped (s : State) : State :=
  (((s.leaveHalf.modCoder fun c => { c with job := .stopping, latch := none }).markRecord).modEdit
    EditEngine.stop).markEdit

theorem State.stopJob_eq (s : State) : s.stopJob = s.stopped.retestHolds.rejudge.restJob := rfl

/-- What a stop leaves (R29, R35, R58, R89, R110). -/
structure State.Stopped (s t : State) : Prop where
  coder : t.coder = { s.leaveHalf.coder with job := if t.coder.unfinished then .stopping else .idle, latch := none }
  edit : s.editStopped t
  holds : s.mixHoldsLapsed t
  source : s.sourceJudged t
  dec : t.dec = { s.dec with mon := t.dec.mon }
  rep : s.rep.onlyMarks t.rep
  record : t.rep.marks.record = true
  editMark : t.rep.marks.edit = true

theorem State.stopJob_stopped (s : State) : s.Stopped s.stopJob := by
  have hmarks := s.leaveHalf_keeps.2.1
  have hxrep : s.rep.onlyMarks s.stopped.rep := (hmarks.trans (State.onlyMarks_markRecord
    (s.leaveHalf.modCoder fun c => { c with job := .stopping, latch := none }))).trans
    (State.onlyMarks_markEdit (((s.leaveHalf.modCoder fun c =>
      { c with job := .stopping, latch := none }).markRecord).modEdit EditEngine.stop))
  have hxcopyMark : s.stopped.rep.marks.copy = s.rep.marks.copy := s.leaveHalf_copyMark
  obtain ⟨hxcoder, hxtape, hxdec, hxmon, hxedit, hxcopy⟩ :
      s.stopped.coder = { s.leaveHalf.coder with job := .stopping, latch := none } ∧ s.stopped.tape = s.tape ∧
      s.stopped.dec = s.dec ∧ s.stopped.mon = s.mon ∧ s.stopped.edit = s.edit.stop ∧ s.stopped.copy = s.copy := by
    simp [State.stopped]
  have hxmarks : s.stopped.rep.marks.record = true ∧ s.stopped.rep.marks.edit = true := ⟨rfl, rfl⟩
  have hholds := s.stopped.mixHoldsLapsed_retestHolds (by simp [hxcoder])
  have hjudged := s.stopped.retestHolds.sourceJudged_rejudge
  have hrest := State.restJob_judged (s := s.stopped.retestHolds.rejudge) (by
    rw [State.rejudge_effectiveOf, State.rejudge_mon])
  have hheldRep := s.stopped.onlyMarks_retestHolds
  have hyrep := s.stopped.retestHolds.onlyMarks_rejudge
  have hcopyMark := s.stopped.retestHolds_copyMark
  rw [State.stopJob_eq]
  generalize s.stopped = x at *
  generalize hy : x.retestHolds.rejudge = y at *
  have hycoder : y.coder = x.coder := by rw [← hy]; simp
  have hytape : y.tape = x.retestHolds.tape := by rw [← hy]; simp
  have hyedit : y.edit = x.edit := by rw [← hy]; simp
  have hydec : y.dec = { x.dec with mon := y.dec.mon } := by
    rw [← hy]
    exact (State.rejudge_dec _).trans (by simp)
  have hheld := x.retestHolds_frame
  have heff : y.restJob.effectiveOf = y.effectiveOf := by
    rw [hrest]
    split
    · next h => exact State.effectiveOf_stopping (by rw [h.1]; decide) (by simp) rfl rfl rfl
    · rfl
  have hparts : y.restJob.tape = y.tape ∧ y.restJob.edit = y.edit ∧ y.restJob.dec = y.dec ∧ y.restJob.mon = y.mon ∧
      y.restJob.copy = y.copy ∧ y.restJob.rep.marks.copy = y.rep.marks.copy := by
    rw [hrest]
    split <;> simp
  have hrep : y.rep.onlyMarks y.restJob.rep := y.onlyMarks_restJob
  obtain ⟨hztape, hzedit, hzdec, hzmon, hzcopy, hzmark⟩ := hparts
  have hzcoder := y.restJob_coder
  generalize y.restJob = z at *
  refine ⟨?_, ?_, ?_, ?_, ?_, ((hxrep.trans hheldRep).trans hyrep).trans hrep, ?_, ?_⟩
  · rw [hzcoder, hycoder, hxcoder]
    rfl
  · exact State.editStopped_congr s.editStopped_stop rfl (by rw [hzedit, hyedit, hxedit]; rfl)
  · exact State.mixHoldsLapsed_congr hholds hxtape.symm (by rw [hxmon]) (by rw [hxmon]) (hztape.trans hytape) fun h =>
      hrep.playback (hyrep.playback h)
  · refine State.sourceJudged_congr hjudged (by simp [hxmon]) (by simp [hxcopy]) (by simp [hxdec]) heff hzmon hztape
      hzcopy (by rw [hzdec]) hrep.playback fun b h => ?_
    rw [hzmark, h, hcopyMark, hxcopyMark]
  · rw [hzdec, hydec, hxdec]
  · exact hrep.record (hyrep.record (hheldRep.record hxmarks.1))
  · exact hrep.edit (hyrep.edit (hheldRep.edit hxmarks.2))

end Sys2Proof.Machine
end

section
/-! PROOFS. SOFT_RESET RECORD (R38): what it leaves, and when it changes no field of a status record (R171). -/

namespace Sys2Proof.Machine

/-! ### Holds re-tested without effect (R58) -/

theorem State.releaseSlot_free {s : State} {j : Fin 4} (h : s.tape.slots[j].state = .free) (k : Fin 4) :
    (s.releaseSlot k).tape.slots[j].state = .free := by
  unfold State.releaseSlot
  split
  · simp only [State.markPlayback_frame, State.modTapeSlot, State.modTape_tape]
    by_cases hj : j = k
    · subst hj
      rw [vmod_same]
    · rw [vmod_other _ _ hj, h]
  · exact h

theorem State.releaseSlots_free (l : List (Fin 4)) {s : State} {j : Fin 4} (h : s.tape.slots[j].state = .free) :
    (l.foldl State.releaseSlot s).tape.slots[j].state = .free := by
  induction l generalizing s with
  | nil => exact h
  | cons k l ih => exact ih (State.releaseSlot_free h k)

/-- A re-test of the holds that leaves the off-tape slots as they stand has no effect. -/
theorem State.releaseSlots_fixed (l : List (Fin 4)) {s : State} (h : (l.foldl State.releaseSlot s).tape = s.tape) :
    l.foldl State.releaseSlot s = s := by
  induction l with
  | nil => rfl
  | cons k l ih =>
    rw [List.foldl_cons] at h ⊢
    by_cases hk : s.tape.slots[k].state = .complete ∧ s.isHeld k = false
    · have hfree : (s.releaseSlot k).tape.slots[k].state = .free := by
        rw [State.releaseSlot, if_pos hk]
        simp only [State.markPlayback_frame, State.modTapeSlot, State.modTape_tape, vmod_same]
      have := State.releaseSlots_free l hfree
      rw [h, hk.1] at this
      cases this
    · rw [State.releaseSlot, if_neg hk] at h ⊢
      exact ih h

theorem State.retestHolds_fixed {s : State} (h : s.retestHolds.tape = s.tape) : s.retestHolds = s := by
  unfold State.retestHolds at h ⊢
  exact State.releaseSlots_fixed slotNumbers h

/-! ### SOFT_RESET RECORD (R38) -/

theorem RecSlot.abandon_eq (x : RecSlot) :
    x.abandon = { x with closePending := false, state := if x.state = .ready then .ready else .free } := by
  unfold RecSlot.abandon
  cases h : x.state <;> simp

/-- A half stays bound to a READY slot, and is unbound from every other one (R38). -/
theorem RecordCoder.keptBinding_cases (x : RecordCoder) (k : Fin 4) (f : Nat) :
    (x.slots[k].state = .ready → x.keptBinding (.slot k f) = .slot k f) ∧
    (x.slots[k].state = .opened ∨ x.slots[k].state = .closing → x.keptBinding (.slot k f) = .unbound) ∧
    x.keptBinding (.absorbed f) = .unbound :=
  ⟨fun h => if_neg (by rw [h]; decide), fun h => if_pos h, rfl⟩

/-- SOFT_RESET RECORD up to the re-test of the mix holds. -/
def State.recordCleared (s : State) : State :=
  let s1 := s.modCoder fun c =>
    { c with
      close := none, slots := vimap (fun _ x => x.abandon) c.slots, halves := vimap (fun _ b => c.keptBinding b) c.halves,
      curHalf := none, job := .idle, latch := none, source := Vector.replicate 2 .free }
  let s2 := (s1.modEdit EditEngine.stop).modDec fun d => { d with mix := Vector.replicate 2 Ctx.reset, rateMark := none }
  let s3 := s2.markRecordIf s.coder.restless
  s3.markEditIf (s.coder.job != .idle || s.edit.shown != s2.edit.shown)

theorem State.resetRecord_eq (s : State) : s.resetRecord = s.recordCleared.retestHolds.rejudge := rfl

/-- What SOFT_RESET RECORD leaves (R38, R58, R62, R74, R89, R110, R128, R171). -/
structure State.RecordReset (s t : State) : Prop where
  coder : t.coder = { s.coder with
    close := none, slots := vimap (fun _ x => x.abandon) s.coder.slots,
    halves := vimap (fun _ b => s.coder.keptBinding b) s.coder.halves,
    curHalf := none, job := .idle, latch := none, source := Vector.replicate 2 .free }
  edit : s.editStopped t
  holds : s.mixHoldsLapsed t
  source : s.sourceJudged t
  dec : t.dec = { mon := t.dec.mon, mix := Vector.replicate 2 Ctx.reset, rateMark := none }
  rep : s.rep.onlyMarks t.rep
  record : s.coder.restless = true → t.rep.marks.record = true
  editMark : s.coder.job ≠ .idle → t.rep.marks.edit = true
  quiet : s.coder.restless = false → t.tape = s.tape → t.mon = s.mon → t.edit.shown = s.edit.shown → t.rep = s.rep

theorem State.recordCleared_keeps (s : State) :
    s.recordCleared.coder = { s.coder with
      close := none, slots := vimap (fun _ x => x.abandon) s.coder.slots,
      halves := vimap (fun _ b => s.coder.keptBinding b) s.coder.halves,
      curHalf := none, job := .idle, latch := none, source := Vector.replicate 2 .free } ∧
    s.recordCleared.tape = s.tape ∧
    s.recordCleared.dec = { s.dec with mix := Vector.replicate 2 Ctx.reset, rateMark := none } ∧
    s.recordCleared.mon = s.mon ∧ s.recordCleared.edit = s.edit.stop ∧ s.recordCleared.copy = s.copy := by
  simp [State.recordCleared]

theorem State.recordCleared_rep (s : State) :
    s.rep.onlyMarks s.recordCleared.rep ∧ s.recordCleared.rep.marks.copy = s.rep.marks.copy ∧
    (s.coder.restless = true → s.recordCleared.rep.marks.record = true) ∧
    (s.coder.job ≠ .idle → s.recordCleared.rep.marks.edit = true) ∧
    (s.coder.restless = false → s.edit.stop.shown = s.edit.shown → s.recordCleared.rep = s.rep) := by
  have hjob : s.coder.restless = false → s.coder.job = .idle := fun h => by
    simp only [RecordCoder.restless, Bool.or_eq_false_iff] at h
    simpa using h.1
  obtain ⟨u, hu, e⟩ : ∃ u : State, u.rep = s.rep ∧ s.recordCleared = (u.markRecordIf s.coder.restless).markEditIf
      (s.coder.job != .idle || s.edit.shown != s.edit.stop.shown) := by
    refine ⟨_, ?_, rfl⟩
    rfl
  have hrecord := u.onlyMarks_markRecordIf s.coder.restless
  have hedit := (u.markRecordIf s.coder.restless).onlyMarks_markEditIf
    (s.coder.job != .idle || s.edit.shown != s.edit.stop.shown)
  rw [hu] at hrecord
  rw [e]
  refine ⟨hrecord.trans hedit, ?_, fun h => hedit.record (by rw [h]; rfl), fun h => ?_, fun h hs => ?_⟩
  · rw [← hu]
    cases s.coder.restless <;> cases (s.coder.job != .idle || s.edit.shown != s.edit.stop.shown) <;> rfl
  · rw [show (s.coder.job != .idle) = true by simpa using h]
    rfl
  · rw [h, hs, hjob h, bne_self_eq_false, bne_self_eq_false]
    exact hu

theorem State.resetRecord_reset (s : State) : s.RecordReset s.resetRecord := by
  obtain ⟨hxcoder, hxtape, hxdec, hxmon, hxedit, hxcopy⟩ := s.recordCleared_keeps
  obtain ⟨hxrep, hxcopyMark, hxrecord, hxeditMark, hxquiet⟩ := s.recordCleared_rep
  have hholds := s.recordCleared.mixHoldsLapsed_retestHolds (by simp [hxcoder])
  have hjudged := s.recordCleared.retestHolds.sourceJudged_rejudge
  have hheldRep := s.recordCleared.onlyMarks_retestHolds
  have hyrep := s.recordCleared.retestHolds.onlyMarks_rejudge
  have hcopyMark := s.recordCleared.retestHolds_copyMark
  have hheld := s.recordCleared.retestHolds_frame
  rw [State.resetRecord_eq]
  generalize s.recordCleared = x at *
  generalize hy : x.retestHolds.rejudge = y at *
  have hycoder : y.coder = x.coder := by rw [← hy]; simp
  have hytape : y.tape = x.retestHolds.tape := by rw [← hy]; simp
  have hyedit : y.edit = x.edit := by rw [← hy]; simp
  have hydec : y.dec = { x.dec with mon := y.dec.mon } := by
    rw [← hy]
    exact (State.rejudge_dec _).trans (by simp)
  refine ⟨hycoder.trans hxcoder, State.editStopped_congr s.editStopped_stop rfl (by rw [hyedit, hxedit]; rfl),
    State.mixHoldsLapsed_congr hholds hxtape.symm (by rw [hxmon]) (by rw [hxmon]) hytape hyrep.playback,
    State.sourceJudged_congr hjudged (by simp [hxmon]) (by simp [hxcopy])
        (by simp [hxdec]) rfl rfl rfl rfl rfl id fun b h => ?_,
    by rw [hydec, hxdec], (hxrep.trans hheldRep).trans hyrep, fun h => hyrep.record (hheldRep.record (hxrecord h)),
    fun h => hyrep.edit (hheldRep.edit (hxeditMark h)), fun hr ht hm he => ?_⟩
  · rw [h, hcopyMark, hxcopyMark]
  · have hfixed := State.retestHolds_fixed (s := x) (by rw [← hytape, ht, hxtape])
    rw [hfixed] at hy
    have hsame : x.rejudge = x := State.rejudge_fixed (by
      have h1 := congrArg Monitor.effective x.rejudge_mon
      rw [hy, hm, ← hxmon] at h1
      exact h1.symm)
    rw [← hy, hsame]
    refine hxquiet hr ?_
    rw [← hxedit, ← hyedit, he]

end Sys2Proof.Machine
end

section
/-! PROOFS. A turnover in the record window (R26): what leaving the current frame, an overrun and the range end each do
(R27, R29). -/

namespace Sys2Proof.Machine

/-- A record-window write that leaves state `u` and is not held. -/
theorem State.exec_recordWindowWrite_eq {s u : State} {a : BusAddr} {v : Word} (h : s.portFree)
    (hr : s.bus.regionOf a.toNat = .recordWindow)
    (e : ∀ t, s.freshAccesses.recordWrite t (s.bus.offset 0 a.toNat) v = u) (hu : u.bus.held = none) :
    ∃ w, exec (.recordWindowWrite a v) s = .next (u.withCounts w) := by
  obtain ⟨w, hw⟩ := State.exec_recordWindowWrite v h hr (by rw [e]; exact hu)
  rw [e] at hw
  exact ⟨w, hw⟩

theorem State.recordOverrun_isSet (s : State) (d : Cause) :
    s.recordOverrun.rep.isSet d = (s.rep.isSet d || d == .recordOverrun) := by
  rw [State.recordOverrun, (State.onlyMarks_markRecordIf _ _).flags.2.2]
  exact ((s.raise .recordOverrun).onlyMarks_bump .recordOverrun).flags.2.2 d |>.trans (s.raise_isSet _ d)

theorem State.recordOverrun_record {s : State} (h : s.rep.marks.record = true) :
    s.recordOverrun.rep.marks.record = true :=
  (State.onlyMarks_markRecordIf _ _).record (((s.raise .recordOverrun).onlyMarks_bump .recordOverrun).record h)

/-- The current frame left and R advanced (R26 steps 1 to 3). -/
def State.turned (s : State) : State :=
  (s.leaveHalf.modCoder fun x => { x with r := x.r + 1, latch := none }).markRecord

section
variable (s : State)

theorem State.turned_coder : s.turned.coder = { s.coder with
    r := s.coder.r + 1, latch := none, slots := s.leaveHalf.coder.slots, close := s.leaveHalf.coder.close } := by
  have h := s.leaveHalf_keeps.1
  simp only [State.turned, State.markRecord_frame, State.modCoder_coder]
  rw [h]

@[simp] theorem State.turned_frame :
    s.turned.bus = s.bus ∧ s.turned.tape = s.tape ∧ s.turned.dec = s.dec ∧ s.turned.mon = s.mon ∧
    s.turned.edit = s.edit ∧ s.turned.copy = s.copy ∧ s.turned.settings = s.settings ∧
    s.turned.counters = s.counters ∧ s.turned.cmd = s.cmd ∧ s.turned.mem = s.mem ∧ s.turned.pending = s.pending := by
  simp [State.turned]

theorem State.turned_rep : s.rep.onlyMarks s.turned.rep ∧ s.turned.rep.marks.record = true :=
  ⟨s.leaveHalf_keeps.2.1.trans (State.onlyMarks_markRecord
    (s.leaveHalf.modCoder fun x => { x with r := x.r + 1, latch := none })), rfl⟩

theorem State.turnover_next {s : State} (h : s.coder.r < 1048575) (t : Txn) (i : Fin 2) (n : Nat) (c : Fin 2) (v : Word) :
    s.turnover t i n c v = (s.turned.beginFrame i).landWrite t i n c v :=
  if_neg (Nat.ne_of_lt h)

/-- What a turnover makes of the slots of the frame that is left (R26, R31). -/
theorem State.leaveHalf_slots :
    (∀ k : Fin 4, s.coder.currentOpen = some k → s.coder.close = none → s.leaveHalf.coder.slots[k].state = .closing) ∧
    ∀ k : Fin 4, s.coder.currentOpen ≠ some k → s.leaveHalf.coder.slots[k] = s.coder.slots[k] :=
  ⟨fun k hk hc => congrArg RecSlot.state ((s.leaveHalf_close.1 k hk hc).1), s.leaveHalf_keeps.2.2.1⟩

end

/-! ### The range end (R29) -/

theorem RecordCoder.currentOpen_iff (c : RecordCoder) (k : Fin 4) : c.currentOpen = some k ↔
    ∃ i f, c.curHalf = some i ∧ c.halves[i] = .slot k f ∧ c.slots[k].state = .opened := by
  unfold RecordCoder.currentOpen
  cases c.curHalf with
  | none => simp
  | some i =>
    cases hb : c.halves[i] with
    | slot j f =>
      by_cases hj : c.slots[j].state = .opened
      · simp only [hb, if_pos hj, Option.some.injEq]
        exact ⟨fun e => e ▸ ⟨i, f, rfl, hb, hj⟩, fun ⟨i', f', hi, hb', _⟩ => by
          rw [← hi, hb] at hb'
          cases hb'
          rfl⟩
      · simp only [hb, if_neg hj]
        refine ⟨fun e => (by cases e), fun ⟨i', f', hi, hb', hs⟩ => ?_⟩
        rw [← Option.some.inj hi, hb] at hb'
        cases hb'
        exact absurd hs hj
    | _ =>
      simp only [hb]
      refine ⟨fun e => (by cases e), fun ⟨i', f', hi, hb', _⟩ => ?_⟩
      rw [← Option.some.inj hi, hb] at hb'
      cases hb'

/-- The current half left a second time: its slot is CLOSING, or waits already (R31, R35). -/
theorem State.leaveHalf_again {s t : State} (h : t.coder = s.leaveHalf.coder) : t.leaveHalf.coder = t.coder := by
  cases hk : s.coder.currentOpen with
  | none =>
    rw [State.leaveHalf_none hk] at h
    rw [State.leaveHalf_none (by rw [h]; exact hk)]
  | some k =>
    by_cases hc : s.coder.close = none
    · rw [State.leaveHalf_start hk hc] at h
      have hnone : t.coder.currentOpen = none := by
        rw [Option.eq_none_iff_forall_ne_some]
        intro j hj
        obtain ⟨i, f, hi, hb, hs⟩ := (RecordCoder.currentOpen_iff _ j).mp hj
        obtain ⟨i', f', hi', hb', -⟩ := (RecordCoder.currentOpen_iff _ k).mp hk
        rw [h] at hi hb hs
        rw [← Option.some.inj (hi'.symm.trans hi)] at hb
        cases hb'.symm.trans hb
        rw [State.startClose_coder, vmod_same] at hs
        cases hs
      rw [State.leaveHalf_none hnone]
    · rw [State.leaveHalf_wait hk hc] at h
      have hk' : t.coder.currentOpen = some k := by
        obtain ⟨i, f, hi, hb, hs⟩ := (RecordCoder.currentOpen_iff _ k).mp hk
        refine (RecordCoder.currentOpen_iff _ k).mpr ⟨i, f, ?_, ?_, ?_⟩
        · rw [h]; exact hi
        · rw [h]; exact hb
        · rw [h, State.modRecSlot_coder, vmod_same]; exact hs
      rw [State.leaveHalf_wait hk' (by rw [h]; exact hc), State.modRecSlot_coder, h, State.modRecSlot_coder]
      simp only [vmod, vset_same, vset_vset]

/-- What the range end stops: the frame left, and RANGE_END raised (R29). -/
def State.ended (s : State) : State := s.leaveHalf.raise .rangeEnd

@[simp] theorem State.ended_frame (s : State) :
    s.ended.bus = s.bus ∧ s.ended.coder = s.leaveHalf.coder ∧ s.ended.tape = s.tape ∧ s.ended.dec = s.dec ∧
    s.ended.mon = s.mon ∧ s.ended.edit = s.edit ∧ s.ended.copy = s.copy ∧ s.ended.settings = s.settings ∧
    s.ended.counters = s.counters ∧ s.ended.cmd = s.cmd ∧ s.ended.mem = s.mem ∧ s.ended.pending = s.pending := by
  simp [State.ended]

/-- A stop at the range end leaves what a stop of the state before it leaves (R29). -/
theorem State.stopped_ended {s t : State} (h : s.ended.Stopped t) :
    t.coder = { s.leaveHalf.coder with job := if t.coder.unfinished then .stopping else .idle, latch := none } ∧
    s.editStopped t ∧ s.mixHoldsLapsed t ∧ s.sourceJudged t ∧ t.rep.isSet .rangeEnd = true := by
  have hcoder := h.coder
  rw [State.leaveHalf_again (s := s) (t := s.ended) (by simp)] at hcoder
  refine ⟨hcoder.trans (by simp), State.editStopped_congr h.edit (by simp) rfl,
    State.mixHoldsLapsed_congr h.holds (by simp) (by simp) (by simp) rfl id,
    State.sourceJudged_congr h.source (by simp) (by simp) (by simp) rfl rfl rfl rfl rfl id fun b hb => ?_, ?_⟩
  · rw [hb, ← s.leaveHalf_copyMark]
    rfl
  · rw [h.rep.flags.2.2]
    simp [State.ended]

end Sys2Proof.Machine
end

section
/-! PROOFS. A frame opened (R20) and given its first word (R21 to R26). -/

namespace Sys2Proof.Machine

theorem RecSlot.isWritten_reset {x : RecSlot} (h : x.written = RecSlot.reset.written) (b p : Nat) :
    x.isWritten b p = false := by
  simp only [RecSlot.isWritten, h, RecSlot.reset, vget, Vector.getElem?_replicate]
  split <;> simp

theorem RecSlot.firstWrite_reset {x : RecSlot} (h : x.written = RecSlot.reset.written) (n : Nat) :
    x.firstWrite n = true := by
  simp [RecSlot.firstWrite, RecSlot.isWritten_reset h]

/-- A re-test of the holds leaves the evaluations (R58). -/
theorem State.releaseSlot_evaluating (s : State) (k : Fin 4) : (s.releaseSlot k).tape.evaluating = s.tape.evaluating := by
  unfold State.releaseSlot
  split
  · next h =>
    have e : ∀ j : Fin 4, ((s.modTapeSlot k fun x => { x with state := .free }).tape.slots[j].state == .evaluating) =
        (s.tape.slots[j].state == .evaluating) := fun j => by
      by_cases hj : j = k
      · subst hj
        simp only [State.modTapeSlot, State.modTape_tape, vmod_same, h.1]
        rfl
      · simp only [State.modTapeSlot, State.modTape_tape, vmod_other _ _ hj]
    simp only [Assembler.evaluating, State.markPlayback_frame, e]
  · rfl

theorem State.releaseSlots_evaluating (l : List (Fin 4)) (s : State) :
    (l.foldl State.releaseSlot s).tape.evaluating = s.tape.evaluating := by
  induction l generalizing s with
  | nil => rfl
  | cons k l ih => rw [List.foldl_cons, ih, s.releaseSlot_evaluating]

theorem State.retestHolds_evaluating (s : State) : s.retestHolds.tape.evaluating = s.tape.evaluating := by
  unfold State.retestHolds
  exact s.releaseSlots_evaluating slotNumbers

/-- The slot of a frame as it is opened (R20). -/
def State.freshSlot (s : State) : RecSlot :=
  { RecSlot.reset with
    state := .opened, frame := s.coder.r, rate := s.settings.rate
    oldOnly := s.coder.mode == .insert && s.copy.isProtected s.coder.r }

theorem State.freshSlot_oldOnly (s : State) :
    s.freshSlot.oldOnly = (s.coder.mode == .insert && s.copy.isProtected s.coder.r) := rfl

/-- What the opening of frame R leaves (R20, R58, R133). -/
theorem State.openFrame_keeps (s : State) :
    s.openFrame.coder = { s.coder with
      slots := vset s.coder.slots s.coder.ringPtr s.freshSlot, ringPtr := s.coder.ringPtr + 1 } ∧
    s.openFrame.copy = { s.copy with
      contrib := vset s.copy.contrib s.coder.ringPtr Contribution.reset, recording := s.copy.derived } ∧
    s.openFrame.tape.evaluating = s.tape.evaluating ∧ s.rep.onlyMarks s.openFrame.rep := by
  refine ⟨by simp [State.openFrame, State.freshSlot], ?_, ?_, ?_⟩
  · simp [State.openFrame, State.samplePermission_copy]
  · simp [State.openFrame, State.retestHolds_evaluating]
  · obtain ⟨x, hx, hrep⟩ : ∃ x : State, s.openFrame = x.samplePermission.retestHolds.markRecord ∧ x.rep = s.rep :=
      ⟨_, rfl, rfl⟩
    have h := (x.onlyMarks_samplePermission.trans x.samplePermission.onlyMarks_retestHolds).trans
      x.samplePermission.retestHolds.onlyMarks_markRecord
    rw [hx, ← hrep]
    exact h

/-- Frame R opened in the slot at the ring pointer, bound to half `i`, which is the current one (R20, R22, R26, R30). -/
structure State.FrameOpened (s t : State) (i : Fin 2) : Prop where
  coder : t.coder = { s.coder with
    curHalf := some i, slots := vset s.coder.slots s.coder.ringPtr s.freshSlot, ringPtr := s.coder.ringPtr + 1
    halves := vset s.coder.halves i (.slot s.coder.ringPtr s.coder.r) }
  copy : t.copy = { s.copy with
    contrib := vset s.copy.contrib s.coder.ringPtr Contribution.reset, recording := s.copy.derived }
  evaluating : t.tape.evaluating = s.tape.evaluating
  causes : ∀ d, t.rep.isSet d = (s.rep.isSet d || (s.copy.isProtected s.coder.r && d == .protectedFrame))
  bus : t.bus = s.bus
  dec : t.dec = s.dec
  mon : t.mon = s.mon
  mem : t.mem = s.mem
  frame : s.sameBut [.coder, .tape, .copy, .rep] t

theorem State.beginFrame_frameOpened {s : State} (i : Fin 2)
    (hp : s.coder.mode = .assemble → s.copy.isProtected s.coder.r = false)
    (hf : s.coder.slots[s.coder.ringPtr].state = .free) : s.FrameOpened (s.beginFrame i) i := by
  obtain ⟨hcoder, hcopy, heval, hrep⟩ := (s.withCurHalf i).openFrame_keeps
  have hframe := (s.withCurHalf i).openFrame_frame
  rw [State.beginFrame_opened i hp hf]
  generalize (s.withCurHalf i).openFrame = u at *
  refine ⟨?_, ?_, ?_, fun d => ?_, ?_, ?_, ?_, ?_, ?_⟩
  · simp [hcoder, State.freshSlot]
  · simp [hcopy]
  · simp [heval]
  · simp [hrep.flags]
  · simp [hframe]
  · simp [hframe]
  · simp [hframe]
  · simp [hframe]
  · simp [State.sameBut_iff, State.agree, hframe]

theorem RecSlot.eq_with {x y : RecSlot} {w : Vector (BitVec 128) 12} {p : Vector (BitVec 128) 2}
    (h : x = { y with sums := x.sums, written := w, touched := p }) :
    x = { y with sums := x.sums, written := x.written, touched := x.touched } := by
  have hw : x.written = w := congrArg RecSlot.written h
  have hp : x.touched = p := congrArg RecSlot.touched h
  subst hw
  subst hp
  exact h

/-- The first word of a frame opened from `s`, of channel `c` of pair `n` in half `i`, has been stored in slot `k`,
leaving `t`. -/
structure State.FrameWritten (s t : State) (k : Fin 4) (i : Fin 2) (n : Nat) (c : Fin 2) (v : Word) : Prop where
  r : t.coder.r = s.coder.r
  job : t.coder.job = s.coder.job
  mode : t.coder.mode = s.coder.mode
  curHalf : t.coder.curHalf = some i
  halves : t.coder.halves = vset s.coder.halves i (.slot k s.coder.r)
  ringPtr : t.coder.ringPtr = k + 1
  close : t.coder.close = s.coder.close
  slot : t.coder.slots[k] = { s.freshSlot with
    sums := t.coder.slots[k].sums, written := t.coder.slots[k].written
    touched := t.coder.slots[k].touched }
  written : ∀ b p, t.coder.slots[k].isWritten b p = (b == blockOf n c.val && p == posOf n)
  slots : ∀ j : Fin 4, j ≠ k → t.coder.slots[j] = s.coder.slots[j]
  recPos : t.coder.recPos = some (768 * s.coder.r + n)
  recording : t.copy.recording = s.copy.derived
  echo : t.mon.echo = vset s.mon.echo c v
  mem : s.memSameBut [s.recAddr k (slotOffset (blockOf n c.val) (2 + posOf n)) % Config.memoryWords,
    s.recAddr k (slotOffset (12 + groupOf (blockOf n c.val)) (2 + posOf n)) % Config.memoryWords] t
  frame : s.sameBut [.port, .coder, .tape, .dec, .mon, .edit, .copy, .counters, .rep, .mem] t

section
variable {s t : State} {i : Fin 2} (n : Nat) (c : Fin 2) (v : Word)

/-- The first word of the frame finds its slot in the half (R21). -/
theorem State.FrameOpened.landWrite (h : s.FrameOpened t i)
    (hn : (t.coder.needsFetch n && t.tape.evaluating) = false) (x : Txn) :
    t.landWrite x i n c v = (t.echoIn c v).wordWrite s.coder.ringPtr n c v := by
  refine State.landWrite_word (f := s.coder.r) ?_ ?_ hn x c v
  · rw [h.coder]
    exact vset_same _ _ _
  · rw [h.coder]
    exact congrArg RecSlot.state (vset_same _ _ _)

theorem State.FrameOpened.written (h : s.FrameOpened t i) (hw : s.mem.wf = true) (hn : n < 768) :
    s.FrameWritten ((t.echoIn c v).wordWrite s.coder.ringPtr n c v) s.coder.ringPtr i n c v := by
  have hst := (t.echoIn c v).wordWrite_stored s.coder.ringPtr n c v (by simpa [h.mem] using hw) hn
  have hcoder := (t.echoIn c v).wordWrite_coder s.coder.ringPtr n c v
  have hslot : t.coder.slots[s.coder.ringPtr] = s.freshSlot := by
    rw [h.coder]
    exact vset_same _ _ _
  generalize (t.echoIn c v).wordWrite s.coder.ringPtr n c v = u at *
  have hrec : ∀ off, t.recAddr s.coder.ringPtr off = s.recAddr s.coder.ringPtr off :=
    State.recAddr_congr (by rw [h.bus]) _
  refine ⟨(congrArg RecordCoder.r hcoder :).trans (congrArg RecordCoder.r h.coder :),
    (congrArg RecordCoder.job hcoder :).trans (congrArg RecordCoder.job h.coder :),
    (congrArg RecordCoder.mode hcoder :).trans (congrArg RecordCoder.mode h.coder :),
    (congrArg RecordCoder.curHalf hcoder :).trans (congrArg RecordCoder.curHalf h.coder :),
    (congrArg RecordCoder.halves hcoder :).trans (congrArg RecordCoder.halves h.coder :),
    (congrArg RecordCoder.ringPtr hcoder :).trans (congrArg RecordCoder.ringPtr h.coder :),
    (congrArg RecordCoder.close hcoder :).trans (congrArg RecordCoder.close h.coder :),
    ?_, fun b p => ?_, fun j hj => ?_, ?_, ?_, ?_, ?_, ?_⟩
  · have h1 := RecSlot.eq_with hst.slot
    rw [show (t.echoIn c v).coder.slots[s.coder.ringPtr] = s.freshSlot from hslot] at h1
    exact h1
  · refine (congrArg (fun z : RecSlot => z.isWritten b p) hst.slot).trans
      ((setEntry_getLsbD _ (blockOf_lt n c.val) (posOf_lt hn) b p).trans ?_)
    change ((t.coder.slots[s.coder.ringPtr].isWritten b p) || _) = _
    rw [RecSlot.isWritten_reset (by rw [hslot]; rfl), Bool.false_or]
  · exact (hst.slots j hj).trans ((congrArg (fun z : RecordCoder => z.slots[j]) h.coder).trans (vset_other _ _ hj))
  · refine (congrArg RecordCoder.recPos hcoder :).trans ?_
    refine (if_pos (RecSlot.firstWrite_reset ?_ n)).trans ?_
    · exact (congrArg RecSlot.written hslot :)
    · exact (congrArg (fun z : RecordCoder => some (768 * z.r + n)) h.coder :)
  · exact (congrArg CopyControl.recording hst.copy :).trans (congrArg CopyControl.recording h.copy :)
  · exact (congrArg Monitor.echo hst.mon :).trans (by simp [h.mon])
  · intro a ha hm
    refine (hst.mem a ha ?_).trans (State.peek_congr h.mem a)
    change a ∉ [t.recAddr _ _ % _, t.recAddr _ _ % _]
    rwa [hrec, hrec]
  · exact ((h.frame.trans (qs := [.mon]) (by simp [State.sameBut_iff, State.agree])).trans hst.frame).narrow (by simp)

theorem RecordCoder.needsFetch_assemble {x : RecordCoder} (h : x.mode = .assemble) (n : Nat) :
    x.needsFetch n = false := by
  simp [RecordCoder.needsFetch, h]

/-- In ASSEMBLE mode the frame's first word is the resolved value, and nothing is fetched (R23). -/
theorem State.FrameOpened.assembled (h : s.FrameOpened t i) (hw : s.mem.wf = true) (hn : n < 768)
    (hm : s.coder.mode = .assemble) (d : Cause) (hd : d.group ≠ 2) (hr : d ≠ .refused) :
    let u := (t.echoIn c v).wordWrite s.coder.ringPtr n c v
    u.coder.latch = s.coder.latch ∧ u.dec.mix = s.dec.mix ∧
    u.dataValue s.coder.ringPtr (blockOf n c.val) (posOf n) = resolve s.copy.derived v ∧
    u.rep.isSet d = (s.rep.isSet d || (s.copy.isProtected s.coder.r && d == .protectedFrame)) := by
  intro u
  have hmode : (t.echoIn c v).coder.mode = .assemble := (congrArg RecordCoder.mode h.coder :).trans hm
  have hneeds : (t.echoIn c v).coder.needsFetch n = false := RecordCoder.needsFetch_assemble hmode n
  have hfetched := State.fetched_of_not hneeds
  have hcoder := (t.echoIn c v).wordWrite_coder s.coder.ringPtr n c v
  have hdec := (t.echoIn c v).wordWrite_dec s.coder.ringPtr n c v
  have hset := (t.echoIn c v).wordWrite_isSet s.coder.ringPtr n c v d hd
  have hst := (t.echoIn c v).wordWrite_stored s.coder.ringPtr n c v (by simpa [h.mem] using hw) hn
  have hword := State.writtenWord_assemble s.coder.ringPtr n c v hmode
  rw [hfetched] at hcoder hdec hset
  refine ⟨(congrArg RecordCoder.latch hcoder :).trans (congrArg RecordCoder.latch h.coder :),
    (congrArg DecodeService.mix hdec :).trans (congrArg DecodeService.mix h.dec :), ?_, ?_⟩
  · refine hst.data.trans ((congrArg Stored.word hword).trans ?_)
    exact (congrArg (fun z : CopyControl => resolve z.recording v) h.copy :)
  · refine hset.trans ?_
    rw [show (d == Cause.refused) = false by simpa using hr, Bool.and_false, Bool.or_false]
    exact h.causes d

/-- In INSERT mode the old values are fetched first, and the word stored is the one that the stored-word rule gives after
the frame's first pair event (R23, R25). -/
theorem State.FrameOpened.inserted (h : s.FrameOpened t i) (hw : s.mem.wf = true) (hn : n < 768)
    (hm : s.coder.mode = .insert) (hl : s.coder.latch = none) (d : Cause) (hd : d.group ≠ 2) (hr : d ≠ .refused)
    (hr' : d ≠ .rateMismatch) :
    let u := (t.echoIn c v).wordWrite s.coder.ringPtr n c v
    (∃ l, u.coder.latch = some l ∧ l.frame = s.coder.r ∧ l.pair = n ∧
      l.old = #v[u.dec.mix[(0 : Fin 2)].last, u.dec.mix[(1 : Fin 2)].last] ∧
      u.dataValue s.coder.ringPtr (blockOf n c.val) (posOf n) =
        if s.copy.isProtected s.coder.r then l.old[c]
        else (storedWord u.edit.punch u.edit.trans (768 * s.coder.r + n) (resolve s.copy.derived v) l.old[c]).word) ∧
    u.rep.isSet d = (s.rep.isSet d || (s.copy.isProtected s.coder.r && d == .protectedFrame)) := by
  intro u
  have hmode : (t.echoIn c v).coder.mode = .insert := (congrArg RecordCoder.mode h.coder :).trans hm
  have hlatch : (t.echoIn c v).coder.latch = none := (congrArg RecordCoder.latch h.coder :).trans hl
  have hneeds : (t.echoIn c v).coder.needsFetch n = true :=
    RecordCoder.needsFetch_of hmode fun l hl' => by rw [hlatch] at hl'; cases hl'
  have hfetched := State.fetched_of_needs hneeds
  have hcoder := (t.echoIn c v).wordWrite_coder s.coder.ringPtr n c v
  have hdec := (t.echoIn c v).wordWrite_dec s.coder.ringPtr n c v
  have hedit := (t.echoIn c v).wordWrite_edit s.coder.ringPtr n c v
  have hset := (t.echoIn c v).wordWrite_isSet s.coder.ringPtr n c v d hd
  have hst := (t.echoIn c v).wordWrite_stored s.coder.ringPtr n c v (by simpa [h.mem] using hw) hn
  have hflatch := congrArg RecordCoder.latch ((t.echoIn c v).fetchOld_coder n)
  rw [hfetched] at hcoder hdec hset
  have hword := State.writtenWord_insert s.coder.ringPtr n c v hmode (by rw [hfetched]; exact hflatch)
  refine ⟨⟨_, (congrArg RecordCoder.latch hcoder :).trans hflatch, ?_, rfl, ?_, ?_⟩, ?_⟩
  · exact (congrArg RecordCoder.r h.coder :)
  · have hmix : ∀ j : Fin 2, u.dec.mix[j] = _ := fun j =>
      (congrArg (fun z : DecodeService => z.mix[j]) hdec).trans ((t.echoIn c v).fetchOld_mix n j)
    rw [hmix 0, hmix 1]
  · have hold : (t.echoIn c v).coder.slots[s.coder.ringPtr].oldOnly = s.copy.isProtected s.coder.r :=
      (congrArg (fun z : RecordCoder => z.slots[s.coder.ringPtr].oldOnly) h.coder).trans
        ((congrArg RecSlot.oldOnly (vset_same _ _ _)).trans (by simp [State.freshSlot, hm]))
    rw [hold, ← hedit] at hword
    have hr : (t.echoIn c v).coder.r = s.coder.r := (congrArg RecordCoder.r h.coder :)
    have hcopy : (t.echoIn c v).copy.recording = s.copy.derived := (congrArg CopyControl.recording h.copy :)
    have hparts := (Stored.insert_parts hword).1
    rw [hcopy, hr] at hparts
    refine hst.data.trans ?_
    rw [hr]
    exact hparts
  · refine hset.trans ?_
    rw [show (d == Cause.refused) = false by simpa using hr, Bool.and_false, Bool.or_false, State.fetchOld_isSet,
      show (d == Cause.rateMismatch) = false by simpa using hr', Bool.and_false, Bool.or_false]
    exact h.causes d

end

/-- A frame that excepts the bus port does not see the wait counts. -/
theorem State.sameBut.withCounts {ps : List Part} {s t : State} (h : s.sameBut ps t) (hp : .port ∈ ps) (w : WaitCounts) :
    s.sameBut ps (t.withCounts w) := by
  intro p hn
  cases p with
  | port => exact absurd hp hn
  | _ => exact h _ hn

/-! ### The state in which a record-window write begins a frame (R22, R26) -/

/-- In `y` a record-window write taken in `s` begins frame `f`. -/
structure State.Begins (s y : State) (f : Nat) : Prop where
  coder : y.coder = { s.coder with r := f, latch := none, slots := y.coder.slots, close := y.coder.close }
  free : y.coder.slots[s.coder.ringPtr].state = .free
  causes : ∀ d, y.rep.isSet d = s.rep.isSet d
  held : y.bus.held = s.bus.held
  frame : s.sameBut [.port, .coder, .rep] y

theorem State.begins_first {s : State} (hl : s.coder.latch = none)
    (hf : s.coder.slots[s.coder.ringPtr].state = .free) : s.Begins s.freshAccesses s.coder.r where
  coder := by simp [← hl]
  free := hf
  causes _ := rfl
  held := rfl
  frame := by simp [State.sameBut_iff, State.agree]

theorem State.begins_turned {s : State} (hf : s.coder.slots[s.coder.ringPtr].state = .free) :
    s.Begins s.freshAccesses.turned (s.coder.r + 1) where
  coder := by
    conv => lhs; rw [State.turned_coder]
    conv => rhs; rw [State.turned_coder]
    rfl
  free := by
    rw [State.turned_coder]
    exact (s.freshAccesses.leaveHalf_keeps.2.2.2.1 _).mpr hf
  causes := s.freshAccesses.turned_rep.1.flags.2.2
  held := by simp
  frame := by simp [State.sameBut_iff, State.agree]

section
variable {s y : State} {f : Nat} (hb : s.Begins y f)
include hb

theorem State.Begins.parts : y.tape = s.tape ∧ y.dec = s.dec ∧ y.mon = s.mon ∧ y.copy = s.copy ∧
    y.settings = s.settings ∧ y.mem = s.mem ∧ y.bus.table = s.bus.table :=
  ⟨hb.frame .tape (by decide), hb.frame .dec (by decide), hb.frame .mon (by decide), hb.frame .copy (by decide),
    hb.frame .settings (by decide), hb.frame .mem (by decide), (hb.frame .bus (by decide)).2.2.2.1⟩

theorem State.Begins.fields : y.coder.r = f ∧ y.coder.ringPtr = s.coder.ringPtr ∧ y.coder.mode = s.coder.mode ∧
    y.coder.job = s.coder.job ∧ y.coder.halves = s.coder.halves ∧ y.coder.latch = none :=
  ⟨(congrArg RecordCoder.r hb.coder :), (congrArg RecordCoder.ringPtr hb.coder :), (congrArg RecordCoder.mode hb.coder :),
    (congrArg RecordCoder.job hb.coder :), (congrArg RecordCoder.halves hb.coder :), (congrArg RecordCoder.latch hb.coder :)⟩

/-- The frame begun there is opened, unless ASSEMBLE mode has it absorbed (R22, R30). -/
theorem State.Begins.opened (i : Fin 2) (hp : s.coder.mode = .assemble → s.copy.isProtected f = false) :
    y.FrameOpened (y.beginFrame i) i := by
  obtain ⟨hr, hring, hmode, -⟩ := hb.fields
  obtain ⟨-, -, -, hcopy, -⟩ := hb.parts
  refine State.beginFrame_frameOpened i (fun h => ?_) ?_
  · rw [hcopy, hr]
    exact hp (hmode.symm.trans h)
  · have h := hb.free
    simp only [← hring] at h
    exact h

/-- The write is served there, and nothing holds it. -/
theorem State.Begins.exec {a : BusAddr} {v : Word} (hport : s.portFree) (hreg : s.bus.regionOf a.toNat = .recordWindow)
    (hw : s.mem.wf = true) (hp : s.coder.mode = .assemble → s.copy.isProtected f = false)
    (hev : s.coder.mode = .insert → s.tape.evaluating = false)
    (e : ∀ t, s.freshAccesses.recordWrite t (s.bus.offset 0 a.toNat) v =
      (y.beginFrame (halfOf (s.bus.offset 0 a.toNat))).landWrite t (halfOf (s.bus.offset 0 a.toNat))
        (pairIn (s.bus.offset 0 a.toNat)) (chanIn (s.bus.offset 0 a.toNat)) v) :
    ∃ w, exec (.recordWindowWrite a v) s = .next
      ((((y.beginFrame (halfOf (s.bus.offset 0 a.toNat))).echoIn (chanIn (s.bus.offset 0 a.toNat)) v).wordWrite
        y.coder.ringPtr (pairIn (s.bus.offset 0 a.toNat)) (chanIn (s.bus.offset 0 a.toNat)) v).withCounts w) := by
  obtain ⟨htape, -, -, -, -, hmem, -⟩ := hb.parts
  obtain ⟨-, -, hmode, -⟩ := hb.fields
  have hop := hb.opened (halfOf (s.bus.offset 0 a.toNat)) hp
  have hneeds : ((y.beginFrame (halfOf (s.bus.offset 0 a.toNat))).coder.needsFetch (pairIn (s.bus.offset 0 a.toNat)) &&
      (y.beginFrame (halfOf (s.bus.offset 0 a.toNat))).tape.evaluating) = false := by
    rw [hop.evaluating, htape]
    have hm : (y.beginFrame (halfOf (s.bus.offset 0 a.toNat))).coder.mode = s.coder.mode :=
      (congrArg RecordCoder.mode hop.coder :).trans hmode
    cases hs : s.coder.mode with
    | assemble => rw [RecordCoder.needsFetch_assemble (hm.trans hs), Bool.false_and]
    | insert => rw [hev hs, Bool.and_false]
  refine State.exec_recordWindowWrite_eq hport hreg (fun t => (e t).trans (hop.landWrite _ _ v hneeds t)) ?_
  have hwritten := hop.written (pairIn (s.bus.offset 0 a.toNat)) (chanIn (s.bus.offset 0 a.toNat)) v
    (by rw [hmem]; exact hw) (pairIn_lt _)
  exact ((hwritten.frame .bus (by decide)).2.1.trans hb.held).trans hport.2.1

end

end Sys2Proof.Machine
end

section
/-! PROOFS. Events do not see what is held (R152): each operation of the engines and of the commands that can end a hold does
the same on the state with nothing held. -/

namespace Sys2Proof.Machine

@[simp] theorem State.unheld_frame (s : State) :
    s.unheld.bus = { s.bus with held := none } ∧ s.unheld.coder = s.coder ∧ s.unheld.tape = s.tape ∧
    s.unheld.dec = s.dec ∧ s.unheld.mon = s.mon ∧ s.unheld.edit = s.edit ∧ s.unheld.copy = s.copy ∧
    s.unheld.settings = s.settings ∧ s.unheld.counters = s.counters ∧ s.unheld.cmd = s.cmd ∧ s.unheld.rep = s.rep ∧
    s.unheld.mem = s.mem ∧ s.unheld.pending = s.pending :=
  ⟨rfl, rfl, rfl, rfl, rfl, rfl, rfl, rfl, rfl, rfl, rfl, rfl, rfl⟩

/-- An operation that does not see what is held: it does the same where nothing is. -/
def State.Unseeing (f : State → State) : Prop := ∀ s : State, f s.unheld = (f s).unheld

theorem State.Unseeing.comp {f g : State → State} (hg : State.Unseeing g) (hf : State.Unseeing f) :
    State.Unseeing fun s => g (f s) := fun s => (congrArg g (hf s)).trans (hg (f s))

theorem State.Unseeing.ite {p : State → Prop} [DecidablePred p] {f g : State → State} (hp : ∀ s : State, p s.unheld ↔ p s)
    (hf : State.Unseeing f) (hg : State.Unseeing g) : State.Unseeing fun s => if p s then f s else g s := fun s => by
  by_cases h : p s
  · simp only [if_pos h, if_pos ((hp s).mpr h), hf s]
  · simp only [if_neg h, if_neg (mt (hp s).mp h), hg s]

theorem State.unseeing_id : State.Unseeing id := fun _ => rfl

theorem State.unseeing_updateOutput : State.Unseeing State.updateOutput :=
  .ite (p := fun s => s.outputTarget = s.copy.output) (fun _ => .rfl) State.unseeing_id fun _ => rfl

theorem State.unseeing_rejudge : State.Unseeing State.rejudge :=
  .ite (p := fun s => s.effectiveOf = s.mon.effective) (fun _ => .rfl) State.unseeing_id
    (.comp (g := State.markPlayback) (fun _ => rfl) (.comp State.unseeing_updateOutput
      (.ite (p := fun s => s.effectiveOf = .decoded) (fun _ => .rfl) (fun _ => rfl) fun _ => rfl)))

theorem State.unseeing_count (c : Counter) (n : Nat) : State.Unseeing fun s => s.count c n :=
  .ite (p := fun s => countUp (s.counter c) n = s.counter c) (fun _ => .rfl) State.unseeing_id fun _ => rfl

/-- An operation chosen by a value read from the state. -/
theorem State.Unseeing.read {α : Type} {v : State → α} {f : α → State → State} (hv : ∀ s : State, v s.unheld = v s)
    (hf : ∀ a, State.Unseeing (f a)) : State.Unseeing fun s => f (v s) s :=
  fun s => (congrArg (fun a => f a s.unheld) (hv s)).trans (hf _ s)

/-! ### The close engine (R32, R33) -/

theorem State.unseeing_restJob : State.Unseeing State.restJob :=
  .ite (p := fun s => s.coder.job = .stopping ∧ s.coder.unfinished = false) (fun _ => .rfl)
    (.comp State.unseeing_rejudge (f := fun s => (s.modCoder fun c => { c with job := .idle }).markRecord) fun _ => rfl)
    State.unseeing_id

theorem State.unseeing_startPending : State.Unseeing State.startPending := fun s => by
  cases h : s.coder.pendingClose with
  | none => rw [State.startPending_none h, State.startPending_none (s := s.unheld) h]
  | some k => rw [State.startPending_some h, State.startPending_some (s := s.unheld) h]; rfl

theorem State.unseeing_finishClose (j : CloseJob) : State.Unseeing fun s => s.finishClose j :=
  .comp State.unseeing_restJob (.comp State.unseeing_startPending (.comp (State.unseeing_count .framesRecorded 1)
    (f := fun s => ((s.modCoder fun c => { c with close := none }).modRecSlot j.slot fun x =>
      { x with state := .ready }).markRecord) fun _ => rfl))

theorem State.unseeing_closeStages (j : CloseJob) : State.Unseeing fun s => s.closeStages j := fun s => by
  unfold State.closeStages
  split
  · rfl
  · cases j.underrun with
    | true => exact congrArg (State.setClose · _) (State.unseeing_count .recordUnderrun 1 (s.raise .underrun))
    | false => rfl

theorem State.unseeing_closeHead (j : CloseJob) (st : CopyStatus) : State.Unseeing fun s => s.closeHead j st := fun s => by
  unfold State.closeHead
  dsimp only
  repeat' split
  all_goals rfl

theorem State.unseeing_closeAccess (j : CloseJob) : State.Unseeing fun s => s.closeAccess j := fun s => by
  unfold State.closeAccess
  split
  · rfl
  · exact (congrArg (State.closeHead · _ _) (State.unseeing_closeStages j s)).trans (State.unseeing_closeHead _ _ _)

/-! ### The evaluation engine (R48 to R51) -/

theorem State.unseeing_evalAccess (j : EvalJob) : State.Unseeing fun s => s.evalAccess j := fun _ => rfl

theorem State.unseeing_markPlaybackIf (b : Bool) : State.Unseeing fun s => s.markPlaybackIf b := fun _ => by
  cases b <;> rfl

theorem State.unseeing_raiseOpt (c : Option Cause) : State.Unseeing fun s => s.raiseOpt c := fun _ => by
  cases c <;> rfl

theorem State.unseeing_lockStep (g : Nat) (a : Option Nat) : State.Unseeing fun s => s.lockStep g a :=
  .read (v := fun s => (s.tape.lock, s.tape.lock.step s.settings.quorum s.settings.flywheel g a)) (fun _ => rfl)
    (f := fun x s => (((s.modTape fun y => { y with lock := x.2.1 }).markPlaybackIf (x.2.1.differs x.1)).raiseOpt
      x.2.2).rejudge)
    fun x => .comp State.unseeing_rejudge (.comp (State.unseeing_raiseOpt _) (.comp (State.unseeing_markPlaybackIf _)
      (f := fun s => s.modTape fun y => { y with lock := x.2.1 }) fun _ => rfl))

theorem State.unseeing_rateTest : State.Unseeing State.rateTest :=
  .ite (p := fun s => s.settings.thresh < s.tape.windowSum ∧ s.tape.lock.state = .locked ∧ s.tape.rateArmed = true)
    (fun _ => .rfl)
    (.comp (State.unseeing_count .errorRate 1)
      (f := fun s => (s.modTape fun t => { t with rateArmed := false }).raise .errorRate) fun _ => rfl)
    (.ite (p := fun s => s.tape.windowSum ≤ s.settings.thresh / 2) (fun _ => .rfl) (fun _ => rfl) State.unseeing_id)

theorem State.unseeing_pushDamage (d : Nat) : State.Unseeing fun s => s.pushDamage d :=
  .comp State.unseeing_rateTest (f := fun s =>
      (s.modTape fun t => { t with window := pushWindow t.window s.settings.window d }).markPlaybackIf
        ((s.modTape fun t => { t with window := pushWindow t.window s.settings.window d }).tape.windowSum !=
          s.tape.windowSum))
    fun s => State.unseeing_markPlaybackIf _
      (s.modTape fun t => { t with window := pushWindow t.window s.settings.window d })

theorem State.unseeing_loseFrame (k : Fin 4) : State.Unseeing fun s => s.loseFrame k :=
  .comp (State.unseeing_count .framesLost 1) (f := fun s => s.modTapeSlot k fun x => { x with state := .free }) fun _ => rfl

theorem State.unseeing_acceptFrame (k : Fin 4) : State.Unseeing fun s => s.acceptFrame k :=
  .ite (p := fun s => 1 ≤ s.tape.slots[k].good) (fun _ => .rfl) (fun _ => rfl) fun _ => rfl

theorem State.unseeing_applyReturnTest : State.Unseeing State.applyReturnTest :=
  .ite (p := fun s => s.edit.returnTest = true) (fun _ => .rfl)
    (.ite (p := fun s => (returnTest s.coder.position s.edit.list).2.isEmpty = true) (fun _ => .rfl) (fun _ => rfl)
      fun _ => rfl) State.unseeing_id

theorem State.unseeing_armHead : State.Unseeing State.armHead :=
  .ite (p := fun s => s.edit.canArm = true) (fun _ => .rfl)
    (.comp (g := fun s => (s.modEdit EditEngine.armTop).markEdit) (fun _ => rfl) State.unseeing_applyReturnTest)
    State.unseeing_id

theorem State.unseeing_locateTest (a : Nat) : State.Unseeing fun s => s.locateTest a :=
  .ite (p := fun s => s.edit.owner = .locateWait ∧ (s.tape.lock.state = .locked ∨ s.tape.lock.state = .flywheel) ∧
      s.edit.target.any (fun t => decide (t ≤ a)) = true) (fun _ => .rfl)
    (.comp (g := fun s => s.markEdit.raise .located) (fun _ => rfl) (.comp State.unseeing_armHead
      (f := fun s => s.modEdit fun e => { e with owner := .idle, target := none, returnTest := true }) fun _ => rfl))
    State.unseeing_id

/-- The frame settled as a duplicate or as accepted (R51). -/
def State.frameJudged (s : State) (j : EvalJob) : State :=
  if s.tape.duplicates j.slot then (s.loseFrame j.slot).raise .duplicate else s.acceptFrame j.slot

theorem State.settleFrame_eq (s : State) (j : EvalJob) : s.settleFrame j =
    (((s.frameJudged j).lockStep s.tape.slots[j.slot].good (some s.tape.slots[j.slot].frame)).pushDamage
      j.damage).locateTest s.tape.slots[j.slot].frame := rfl

theorem State.unseeing_frameJudged (j : EvalJob) : State.Unseeing fun s => s.frameJudged j :=
  .ite (p := fun s => s.tape.duplicates j.slot = true) (fun _ => .rfl)
    (.comp (g := fun s => s.raise .duplicate) (fun _ => rfl) (State.unseeing_loseFrame _)) (State.unseeing_acceptFrame _)

section
variable (s : State)

theorem State.frameJudged_unheld (j : EvalJob) : s.unheld.frameJudged j = (s.frameJudged j).unheld :=
  State.unseeing_frameJudged j s

theorem State.loseFrame_unheld (k : Fin 4) : s.unheld.loseFrame k = (s.loseFrame k).unheld :=
  State.unseeing_loseFrame k s

theorem State.lockStep_unheld (g : Nat) (a : Option Nat) : s.unheld.lockStep g a = (s.lockStep g a).unheld :=
  State.unseeing_lockStep g a s

theorem State.pushDamage_unheld (d : Nat) : s.unheld.pushDamage d = (s.pushDamage d).unheld :=
  State.unseeing_pushDamage d s

theorem State.locateTest_unheld (a : Nat) : s.unheld.locateTest a = (s.locateTest a).unheld :=
  State.unseeing_locateTest a s

theorem State.modTape_unheld (f : Assembler → Assembler) : s.unheld.modTape f = (s.modTape f).unheld := rfl

theorem State.markPlayback_unheld : s.unheld.markPlayback = s.markPlayback.unheld := rfl

theorem State.settleFrame_unheld (j : EvalJob) : s.unheld.settleFrame j = (s.settleFrame j).unheld := by
  simp only [State.settleFrame_eq, State.unheld_frame, State.frameJudged_unheld, State.lockStep_unheld,
    State.pushDamage_unheld, State.locateTest_unheld]

theorem State.finishEvaluation_unheld (j : EvalJob) : s.unheld.finishEvaluation j = (s.finishEvaluation j).unheld := by
  unfold State.finishEvaluation
  cases j.discard
  all_goals
    simp only [State.modTape_unheld, State.settleFrame_unheld, State.loseFrame_unheld, State.markPlayback_unheld,
      State.lockStep_unheld, State.pushDamage_unheld, if_true, if_false, Bool.false_eq_true]

end

/-! ### The report unit and the command unit (R159, R160, R168) -/

theorem State.unseeing_passWrite (w : RepWrite) : State.Unseeing fun s => s.passWrite w := fun _ => by
  cases w <;> rfl

theorem State.unseeing_passAccess : State.Unseeing State.passAccess := fun s => by
  unfold State.passAccess
  split
  · next w rest h =>
    rw [show s.rep.pass = some (w :: rest) from h]
    exact congrArg (State.modRep · _) (State.unseeing_passWrite w s)
  · next h =>
    split
    · next h' => exact absurd h' (h _ _)
    · rfl

theorem State.unseeing_raiseIf (b : Bool) (c : Cause) : State.Unseeing fun s => s.raiseIf b c := fun _ => by
  cases b <;> rfl

theorem State.writeConsumer_unheld (s : State) (k : CmdKind) (r : Result) :
    s.unheld.writeConsumer k r = (s.writeConsumer k r).unheld :=
  State.unseeing_raiseIf (r != .done) .commandError
    (((s.poke (ctlAddr 0x051) ((s.cmd.consumer + 1).setWidth 16)).modCmd fun c =>
      ({ c with consumer := c.consumer + 1, prev := some k, phase := .idle } : CommandUnit).wake).raise .commandDone)

theorem State.unseeing_commandAccess : State.Unseeing State.commandAccess := fun s => by
  cases h : s.cmd.phase
  case written k r =>
    simp only [State.commandAccess, State.unheld_frame, h]
    exact s.writeConsumer_unheld k r
  case reading ws =>
    simp only [State.commandAccess, State.unheld_frame, h]
    rfl
  case due k r =>
    simp only [State.commandAccess, State.unheld_frame, h]
    rfl
  all_goals simp only [State.commandAccess, State.unheld_frame, h]

theorem State.unseeing_engineAccess (e : Engine) : State.Unseeing fun s => s.engineAccess e := fun s => by
  cases e with
  | close =>
    cases h : s.coder.close with
    | none => simp only [State.engineAccess, State.unheld_frame, h]
    | some j =>
      simp only [State.engineAccess, State.unheld_frame, h]
      exact State.unseeing_closeAccess j s
  | eval =>
    cases h : s.tape.eval with
    | none => simp only [State.engineAccess, State.unheld_frame, h]
    | some j =>
      simp only [State.engineAccess, State.unheld_frame, h]
      exact State.unseeing_evalAccess j s
  | report =>
    cases h : s.rep.pass with
    | none =>
      simp only [State.engineAccess, State.unheld_frame, h]
      exact State.unseeing_commandAccess s
    | some ws =>
      simp only [State.engineAccess, State.unheld_frame, h]
      exact State.unseeing_passAccess s

theorem State.grant_unheld (s : State) (e : Engine) : s.unheld.grant e = (s.grant e).unheld :=
  congrArg (fun x : State => x.modBus fun b => { b with counts := b.counts.put e 0 }) (State.unseeing_engineAccess e s)

/-! ### The commands (R38, R40, R59, R159) -/

theorem State.unseeing_releaseSlot (k : Fin 4) : State.Unseeing fun s => s.releaseSlot k :=
  .ite (p := fun s => s.tape.slots[k].state = .complete ∧ s.isHeld k = false) (fun _ => .rfl) (fun _ => rfl)
    State.unseeing_id

theorem State.releaseSlots_unheld (l : List (Fin 4)) (s : State) :
    l.foldl State.releaseSlot s.unheld = (l.foldl State.releaseSlot s).unheld := by
  induction l generalizing s with
  | nil => rfl
  | cons k l ih => exact (congrArg (l.foldl State.releaseSlot) (State.unseeing_releaseSlot k s)).trans (ih _)

theorem State.unseeing_retestHolds : State.Unseeing State.retestHolds := fun s => by
  unfold State.retestHolds
  exact State.releaseSlots_unheld slotNumbers s

theorem State.unseeing_recordCleared : State.Unseeing State.recordCleared := fun s => by
  unfold State.recordCleared
  cases hr : s.coder.restless <;>
    cases he : (s.coder.job != .idle || s.edit.shown != s.edit.stop.shown) <;>
    simp only [State.unheld_frame, State.modDec_edit, State.modEdit_edit, State.modCoder_edit, hr, he] <;> rfl

theorem State.unseeing_resetRecord : State.Unseeing State.resetRecord := fun s => by
  rw [State.resetRecord_eq, State.resetRecord_eq, State.unseeing_recordCleared, State.unseeing_retestHolds,
    State.unseeing_rejudge]

end Sys2Proof.Machine
end

section
/-! PROOFS. The end of a hold (R152): the event that ends it does what it does where nothing is held, and the transaction is then
served as if it arrived on the state so left. -/

namespace Sys2Proof.Machine

/-! ### A service that holds its transaction leaves it something to wait for (R28, R48, R82) -/

/-- What is held waits for something that the counts of R154 have no part in, and that has not come yet. -/
def State.blocked (s : State) : Prop := ∀ y, s.bus.held = some y → y.kind ≠ .guard ∧ s.ready y = false

theorem State.blocked_of_none {s : State} (h : s.bus.held = none) : s.blocked := fun y hy => by
  rw [h] at hy
  cases hy

theorem State.ready_congr {s t : State} {y : Held} (hg : y.kind ≠ .guard) (ho : t.bus.op = s.bus.op)
    (hb : t.bus.table = s.bus.table) (hc : t.coder = s.coder) (ht : t.tape = s.tape) : t.ready y = s.ready y := by
  have hoff : ∀ (k : Fin 4) (a : Nat), t.bus.offset k a = s.bus.offset k a := fun k a => by
    simp only [BusPath.offset, BusPath.base, hb]
  cases hk : y.kind with
  | guard => exact absurd hk hg
  | _ => simp only [State.ready, hk, ho, hc, ht, hoff]

theorem State.blocked.congr {s t : State} (h : s.blocked) (hh : t.bus.held = s.bus.held) (ho : t.bus.op = s.bus.op)
    (hb : t.bus.table = s.bus.table) (hc : t.coder = s.coder) (ht : t.tape = s.tape) : t.blocked := fun y hy => by
  obtain ⟨hg, hr⟩ := h y (hh ▸ hy)
  exact ⟨hg, (State.ready_congr hg ho hb hc ht).trans hr⟩

/-- A hold for an evaluation that runs. -/
theorem State.blocked_hold {s : State} (h : s.tape.evaluating = true) (t : Txn) {k : HoldKind}
    (hk : k = .decodeWrite ∨ k = .decodeRead ∨ k = .turnover) : (s.hold t k).blocked := fun y hy => by
  rw [State.hold_held, Option.some.injEq] at hy
  subst hy
  obtain rfl | rfl | rfl := hk
  all_goals exact ⟨HoldKind.noConfusion, by simp [State.ready, h]⟩

section
variable {s : State} (hn : s.bus.held = none) (t : Txn)
include hn

theorem State.blocked_landWrite (i : Fin 2) (n : Nat) (c : Fin 2) (v : Word) : (s.landWrite t i n c v).blocked := by
  unfold State.landWrite
  split
  · split
    · split
      · next h => exact State.blocked_hold (Bool.and_eq_true_iff.mp h).2 t (.inl rfl)
      · exact State.blocked_of_none (by simp [hn])
    · exact State.blocked_of_none (by simp [hn])
  all_goals exact State.blocked_of_none (by simp [hn])

theorem State.blocked_turnover (i : Fin 2) (n : Nat) (c : Fin 2) (v : Word) : (s.turnover t i n c v).blocked := by
  by_cases h : s.coder.r = Config.maxFrame
  · exact State.blocked_of_none (by simp [State.turnover, if_pos h, hn])
  · have e : s.turnover t i n c v = (s.turned.beginFrame i).landWrite t i n c v := if_neg h
    exact e ▸ State.blocked_landWrite (by simp [hn]) t i n c v

theorem State.blocked_recordWrite (v : Word) : (s.recordWrite t (s.bus.offset 0 t.addr.toNat) v).blocked := by
  by_cases hj : s.coder.job = .recording
  · cases hc : s.coder.curHalf with
    | none =>
      rw [State.recordWrite_first hj t v hc]
      exact State.blocked_landWrite (by simp [hn]) t _ _ _ v
    | some cur =>
      by_cases hh : halfOf (s.bus.offset 0 t.addr.toNat) = cur
      · rw [State.recordWrite_current hj t v (hh ▸ hc)]
        exact State.blocked_landWrite hn t _ _ _ v
      · cases hx : s.coder.halfClosing (halfOf (s.bus.offset 0 t.addr.toNat)) with
        | true =>
          rw [State.recordWrite_closing hj t v hc hh hx]
          intro y hy
          rw [State.hold_held, Option.some.injEq] at hy
          subst hy
          have hready : s.ready { txn := t, kind := .closing } = false := by simp [State.ready, hx]
          exact ⟨HoldKind.noConfusion, hready⟩
        | false =>
          rw [State.recordWrite_turnover hj t v hc hh hx]
          exact State.blocked_turnover hn t _ _ _ v
  · rw [State.recordWrite_idle hj t]
    exact State.blocked_of_none (by simp [hn])

theorem State.blocked_deliver (i : Fin 2) (n : Nat) (c : Fin 2) : (s.deliver t i n c).blocked := by
  unfold State.deliver
  split
  · split
    · next h => exact State.blocked_hold h t (.inr (.inl rfl))
    · exact State.blocked_of_none (by simp [hn])
  all_goals exact State.blocked_of_none (by simp [hn])

theorem State.blocked_playbackRead (o : Nat) : (s.playbackRead t o).blocked := by
  unfold State.playbackRead
  dsimp only
  split
  · exact State.blocked_deliver hn t _ _ _
  · split
    · next h =>
      exact State.blocked_hold (Bool.and_eq_true_iff.mp h).2 t (.inr (.inr rfl))
    · exact State.blocked_deliver (by simp [hn]) t _ _ _

theorem State.blocked_serve : (s.serve t).blocked := by
  unfold State.serve
  split
  · unfold State.serveWrite
    split
    case h_2 => exact State.blocked_recordWrite hn t _
    case h_5 =>
      split
      all_goals exact State.blocked_of_none (by simp [hn])
    all_goals exact State.blocked_of_none (by simp [hn])
  · unfold State.serveRead
    split
    case h_3 => exact State.blocked_playbackRead hn t _
    all_goals exact State.blocked_of_none (by simp [hn])

end

/-- A transaction that arrives where the port is free is served, and what holds it then goes on holding it. -/
theorem State.arrive_settled {u : State} (h : u.portFree) (t : Txn) : (u.arrive t).settle = (u.service t).normCounts := by
  have hb : (u.service t).blocked :=
    (State.blocked_serve (s := u.freshAccesses) (by simp [h.2.1]) t).congr (by simp [State.service])
      (by simp [State.service]) (by simp [State.service]) (by simp [State.service]) (by simp [State.service])
  rw [u.arrive_portFree h]
  cases hh : (u.service t).bus.held with
  | none => rw [State.settle_noneHeld _ ⟨hh, by simp [h.2.2.1]⟩]
  | some y =>
    obtain ⟨hg, hr⟩ := hb y hh
    rw [State.settle_held _ y hh ((State.ready_congr hg (by simp) (by simp) (by simp) (by simp)).trans hr)]

theorem State.exec_row {u : State} (h : u.portFree) (t : Txn) (ht : t.write = false → t.data = 0) :
    exec t.row u = .next (u.service t).normCounts := by
  rw [← State.arrive_settled h]
  obtain ⟨write, addr, data⟩ := t
  cases write with
  | true => rfl
  | false =>
    cases ht rfl
    rfl

/-! ### The event that ends a hold -/

/-- Event `e` leaves `m`, in which `y` is held, where it leaves `u` with nothing held. -/
structure State.Ended (s u : State) (e : Instr) (m : State) (y : Held) : Prop where
  leaves : exec e s = .next m.settle
  rest : u = m.unheld.normCounts
  op : m.bus.op = .running
  held : m.bus.held = some y
  waiting : m.bus.waiting = []
  table : m.bus.table = s.bus.table

theorem State.ended_of {s u m : State} {e : Instr} {y : Held} (he : exec e s = .next m.settle)
    (hu : exec e s.unheld = .next m.unheld.settle) (hx : exec e s.unheld = .next u) (ho : m.bus.op = .running)
    (hh : m.bus.held = some y) (hw : m.bus.waiting = []) (ht : m.bus.table = s.bus.table) : s.Ended u e m y := by
  refine ⟨he, ?_, ho, hh, hw, ht⟩
  rw [State.settle_noneHeld m.unheld ⟨rfl, hw⟩, hx] at hu
  exact Host.Outcome.next.inj hu

section
variable {s u m : State} {e : Instr} {y : Held} (h : s.Ended u e m y)
include h

theorem State.Ended.port (hg : u.bus.counts.guarded = false) : u.portFree :=
  ⟨by simp [h.rest, h.op], by simp [h.rest], by simp [h.rest, h.waiting], hg⟩

theorem State.Ended.parts : u.tape = m.tape ∧ u.coder = m.coder ∧ u.bus.table = s.bus.table ∧
    u.bus.counts = m.normCounts.bus.counts := by
  obtain ⟨-, rfl, -, -, -, ht⟩ := h
  exact ⟨by simp, by simp, by simp [ht], rfl⟩

/-- What is held is served from the state that the event leaves without it, once it has nothing left to wait for. -/
theorem State.Ended.resumed (hr : m.normCounts.ready y = true) : exec e s = .next (u.resume y).normCounts := by
  have hrel : m.normCounts.release = u.resume y := by
    have hh : m.normCounts.bus.held = some y := by simp [h.held]
    simp only [State.release, hh, hr, if_true]
    rw [h.rest]
    rfl
  have hwait : (u.resume y).normCounts.bus.waiting = [] := by
    have hu : u.bus.waiting = [] := by simp [h.rest, h.waiting]
    unfold State.resume
    dsimp only
    split
    all_goals simp [hu]
  have hset : m.settle = (u.resume y).normCounts := by
    simp only [State.settle, hrel, hwait]
    split
    · rfl
    · exact State.drain_nil _ hwait
  rw [h.leaves, hset]

/-- A transaction whose hold was for its whole service: it is served as it would be if it arrived now. -/
theorem State.Ended.arrives (hr : m.normCounts.ready y = true) (hg : u.bus.counts.guarded = false)
    (ht : y.txn.write = false → y.txn.data = 0) (hs : u.resume y = u.service y.txn) : exec e s = exec y.txn.row u := by
  rw [h.resumed hr, State.exec_row (h.port hg) _ ht, hs]

end

end Sys2Proof.Machine
end

section
/-! PROOFS. The events that can end a hold: CLOSE_END, EVALUATION_END, a grant of the port, and the commands SOFT_RESET RECORD,
PLAY_STOP and SOFT_RESET PLAYBACK (R28, R38, R48, R82, R154). -/

namespace Sys2Proof.Machine

theorem State.finishReads_unheld (s : State) : s.unheld.finishReads = s.finishReads.unheld := by
  cases h : s.cmd.phase with
  | reading ws =>
    simp only [State.finishReads, State.unheld_frame, h]
    rfl
  | _ => simp only [State.finishReads, State.unheld_frame, h]

/-- Which command is due does not depend on a hold that is not the guard's (R153, R159). -/
theorem State.dueCommand_unheld {s : State} (h : s.guarding = false) : s.unheld.dueCommand = s.dueCommand := by
  have hfree : s.unheld.commandFree = s.commandFree := by
    have hg : s.unheld.guarding = false := rfl
    simp only [State.commandFree, h, hg]
    rfl
  have hentry : ∀ ws, s.unheld.entryWith ws = s.entryWith ws := fun _ => rfl
  simp only [State.dueCommand, hfree, hentry, State.unheld_frame]

/-- What a command's owner is given: the state after its last reads, no record marked (R159, R168). -/
def State.forOwner (s : State) : State := s.finishReads.unmarked

theorem State.forOwner_unheld (s : State) : s.unheld.forOwner = s.forOwner.unheld := by
  simp only [State.forOwner, State.finishReads_unheld]
  rfl

section
variable {s v : State} {i : Instr} {k : CmdKind} {owner : State → State × Result} {r : Result}

/-- The phase of the command after its owner has left `v` (R168). -/
def State.phaseAfter (s v : State) (k : CmdKind) (r : Result) : CmdPhase :=
  if v.rep.touched s.rep then .waitPass k r else .due k r

theorem State.command_due (hd : s.dueCommand = some i) (ho : owner s.forOwner = (v, r)) :
    s.command i k owner = (s.finishReads.takenAs v (s.finishReads.phaseAfter v k r)).settle := by
  rw [State.command, if_pos hd, State.take_takenAs ho]
  rfl

theorem State.command_notDue (hd : s.dueCommand ≠ some i) : s.command i k owner = s := if_neg hd

end

/-- A command that can end a hold: where it is due, what its owner leaves, and what it leaves where nothing is held. -/
theorem State.ended_command {s u v : State} {x y : Held} {e i : Instr} {k : CmdKind} {owner : State → State × Result}
    {r : Result} (he : ∀ z : State, exec e z = .next (z.command i k owner)) (hop : s.bus.op = .running) (hs : s.holds x)
    (hg : x.kind ≠ .guard) (hx : exec e s.unheld = .next u) (ho : owner s.forOwner = (v, r))
    (hu : owner s.forOwner.unheld = (v.unheld, r)) (hb : v.bus = { s.forOwner.bus with held := some y }) :
    u = s.unheld ∨ s.Ended u e (s.finishReads.takenAs v (s.finishReads.phaseAfter v k r)) y := by
  obtain ⟨hheld, hwait, -⟩ := hs
  have hguard : s.guarding = false := by simpa [State.guarding, hheld] using hg
  have hdue := State.dueCommand_unheld hguard
  have hu' : owner s.unheld.forOwner = (v.unheld, r) := by
    rw [State.forOwner_unheld]
    exact hu
  by_cases hd : s.dueCommand = some i
  · right
    refine State.ended_of ((he s).trans (by rw [State.command_due hd ho])) ((he s.unheld).trans ?_) hx ?_ ?_ ?_ ?_
    · rw [State.command_due (hdue.trans hd) hu', State.finishReads_unheld]
      rfl
    all_goals simp [hb, State.forOwner, hop, hwait]
  · left
    have h := hx
    rw [he, State.command_notDue (hdue ▸ hd)] at h
    exact (Host.Outcome.next.inj h).symm

section
variable {s u : State} {x : Held} (hop : s.bus.op = .running) (hs : s.holds x)
include hop hs

theorem State.ended_closeEnd (hx : exec .closeEnd s.unheld = .next u) : u = s.unheld ∨ ∃ m, s.Ended u .closeEnd m x := by
  obtain ⟨hheld, hwait, -⟩ := hs
  have hsame : s.unheld.closeToEnd = s.closeToEnd := rfl
  have he : ∀ z : State, exec .closeEnd z = execCloseEnd z := fun _ => rfl
  cases hc : s.closeToEnd with
  | none =>
    left
    have h := hx
    rw [he, execCloseEnd, hsame, hc] at h
    exact (Host.Outcome.next.inj h).symm
  | some j =>
    right
    refine ⟨s.finishClose j, State.ended_of ?_ ?_ hx ?_ ?_ ?_ ?_⟩
    · rw [he, execCloseEnd, hc]
    · rw [he, execCloseEnd, hsame, hc]
      exact congrArg (fun z : State => Host.Outcome.next z.settle) (State.unseeing_finishClose j s)
    all_goals simp [hop, hheld, hwait]

theorem State.ended_evaluationEnd (hx : exec .evaluationEnd s.unheld = .next u) :
    u = s.unheld ∨ ∃ m, s.Ended u .evaluationEnd m x := by
  obtain ⟨hheld, hwait, -⟩ := hs
  have hsame : s.unheld.evalToEnd = s.evalToEnd := rfl
  have he : ∀ z : State, exec .evaluationEnd z = execEvaluationEnd z := fun _ => rfl
  cases hc : s.evalToEnd with
  | none =>
    left
    have h := hx
    rw [he, execEvaluationEnd, hsame, hc] at h
    exact (Host.Outcome.next.inj h).symm
  | some j =>
    right
    refine ⟨s.finishEvaluation j, State.ended_of ?_ ?_ hx ?_ ?_ ?_ ?_⟩
    · rw [he, execEvaluationEnd, hc]
    · rw [he, execEvaluationEnd, hsame, hc]
      exact congrArg (fun z : State => Host.Outcome.next z.settle) (s.finishEvaluation_unheld j)
    all_goals simp [hop, hheld, hwait]

theorem State.ended_grant (hx : exec .enginePortGrant s.unheld = .next u) (hg : s.grantee ≠ none)
    (hsame : s.grantee = s.unheld.grantee) : ∃ m, s.Ended u .enginePortGrant m x := by
  obtain ⟨hheld, hwait, -⟩ := hs
  have he : ∀ z : State, exec .enginePortGrant z = execEnginePortGrant z := fun _ => rfl
  obtain ⟨e, hc⟩ := Option.ne_none_iff_exists'.mp hg
  have hop' : s.unheld.bus.op = .running := hop
  refine ⟨s.grant e, State.ended_of ?_ ?_ hx ?_ ?_ ?_ ?_⟩
  · rw [he, execEnginePortGrant, if_pos hop, hc]
  · rw [he, execEnginePortGrant, if_pos hop', ← hsame, hc]
    exact congrArg (fun z : State => Host.Outcome.next z.settle) (s.grant_unheld e)
  all_goals simp [State.grant, hop, hheld, hwait]

theorem State.ended_softResetRecord (hg : x.kind ≠ .guard) (hx : exec .softResetRecord s.unheld = .next u) :
    u = s.unheld ∨ ∃ m, s.Ended u .softResetRecord m x :=
  (State.ended_command (v := s.forOwner.resetRecord) (y := x) (fun _ => rfl) hop hs hg hx rfl
    (by rw [State.unseeing_resetRecord]) (by
      have h : s.forOwner.bus.held = some x := by simp [State.forOwner, hs.1]
      simp [← h])).imp_right fun h => ⟨_, h⟩

end

end Sys2Proof.Machine
end

section
/-! PROOFS. What PLAY_STOP and SOFT_RESET PLAYBACK leave of a hold that waited for an evaluation (R48, R76, R82). -/

namespace Sys2Proof.Machine

/-- Every playback half unbound, the held reads abandoned, and the source re-judged: what PLAY_STOP and SOFT_RESET PLAYBACK make
of the rest once they have emptied the ring (R40, R59). -/
def State.abandoned (s : State) : State := (((s.modMon Monitor.unbind).modBus BusPath.abandonReads).markPlayback).rejudge

/-- PLAY_STOP is refused (R40). -/
abbrev State.refusesPlayStop (s : State) : Prop :=
  s.tape.run = .stopped ∨ (s.coder.job = .recording ∧ s.coder.mode = .insert)

/-- What PLAY_STOP empties before it abandons the reads (R40). -/
def State.tapeStopped (s : State) : State := s.modTape fun t => { t.emptyRing.restLock with fillPtr := 0, run := .stopped }

/-- What SOFT_RESET PLAYBACK empties before it abandons the reads (R59). -/
def State.tapeReset (s : State) : State :=
  (s.modTape fun t => { t.emptyRing.restLock with carriedRate := 0, carriedStatus := .free }).modDec fun d =>
    { d with mon := Vector.replicate 2 Ctx.reset }

theorem State.playStop_eq (s : State) :
    s.playStop = if s.refusesPlayStop then (s, .state) else (s.tapeStopped.abandoned, .done) := rfl

theorem State.resetPlayback_eq (s : State) : s.resetPlayback = s.tapeReset.abandoned := rfl

theorem State.abandoned_unheld (s : State) : s.unheld.abandoned = s.abandoned.unheld :=
  State.unseeing_rejudge (((s.modMon Monitor.unbind).modBus BusPath.abandonReads).markPlayback)

theorem State.playStop_unheld (s : State) : s.unheld.playStop = (s.playStop.1.unheld, s.playStop.2) := by
  by_cases h : s.refusesPlayStop
  · have h' : s.unheld.refusesPlayStop := h
    rw [State.playStop_eq, State.playStop_eq, if_pos h, if_pos h']
  · have h' : ¬ s.unheld.refusesPlayStop := h
    rw [State.playStop_eq, State.playStop_eq, if_neg h, if_neg h']
    exact congrArg (·, Result.done) s.tapeStopped.abandoned_unheld

/-- What is held, as an abandoned evaluation leaves it. -/
def Held.abandoned (x : Held) : Held := { x with kind := x.kind.abandoned }

theorem State.abandoned_bus {s : State} {x : Held} (h : s.bus.held = some x) :
    s.abandoned.bus = { s.bus with held := some x.abandoned } := by
  simp [State.abandoned, BusPath.abandonReads, h, Held.abandoned]

theorem State.abandoned_mon (s : State) : s.abandoned.mon.halves = Vector.replicate 2 none ∧
    s.abandoned.mon.lastHalf = none ∧ s.abandoned.mon.queue = [] := by
  simp [State.abandoned, State.rejudge_mon, Monitor.unbind]

theorem State.abandoned_last {s : State} (h : ∀ c : Fin 2, s.dec.mon[c].last = 0) (c : Fin 2) :
    s.abandoned.dec.mon[c].last = 0 := by
  have hre : ∀ z : State, z.rejudge.dec.mon = z.dec.mon ∨ z.rejudge.dec.mon = Vector.replicate 2 Ctx.reentry := fun z => by
    unfold State.rejudge
    dsimp only
    repeat' split
    all_goals simp
  obtain e | e := hre (((s.modMon Monitor.unbind).modBus BusPath.abandonReads).markPlayback)
  · exact (congrArg (fun v : Vector Ctx 2 => v[c].last) e).trans (h c)
  · refine (congrArg (fun v : Vector Ctx 2 => v[c].last) e).trans ?_
    simp [Ctx.reentry]

/-- Nothing is bound and nothing queued for playback, and the last half read is none (R40, R59, R85). -/
structure State.Unbound (u : State) : Prop where
  halves : u.mon.halves = Vector.replicate 2 none
  lastHalf : u.mon.lastHalf = none
  queue : u.mon.queue = []

theorem State.forOwner_held (s : State) : s.forOwner.bus.held = s.bus.held := by simp [State.forOwner]

section
variable {s u : State} {x : Held} (hop : s.bus.op = .running) (hs : s.holds x) (hg : x.kind ≠ .guard)
include hop hs hg

theorem State.ended_softResetPlayback (hx : exec .softResetPlayback s.unheld = .next u) :
    u = s.unheld ∨ ∃ m, s.Ended u .softResetPlayback m x.abandoned ∧ u.Unbound ∧ ∀ c : Fin 2, u.dec.mon[c].last = 0 := by
  have hzero : ∀ c : Fin 2, s.forOwner.tapeReset.dec.mon[c].last = 0 := fun c => by
    simp [State.tapeReset, Ctx.reset]
  have hlast := State.abandoned_last hzero
  obtain ⟨hhalves, hhalf, hqueue⟩ := s.forOwner.tapeReset.abandoned_mon
  obtain h | h := State.ended_command (v := s.forOwner.tapeReset.abandoned) (y := x.abandoned) (fun _ => rfl) hop hs hg hx
    (congrArg (·, Result.done) s.forOwner.resetPlayback_eq)
    (congrArg (·, Result.done) s.forOwner.tapeReset.abandoned_unheld)
    (State.abandoned_bus (s := s.forOwner.tapeReset) (s.forOwner_held.trans hs.1))
  · exact .inl h
  · refine .inr ⟨_, h, ?_⟩
    rw [h.rest]
    exact ⟨⟨hhalves, hhalf, hqueue⟩, hlast⟩

theorem State.ended_playStop (hx : exec .playStop s.unheld = .next u) :
    u.tape = s.tape ∨ ∃ m, s.Ended u .playStop m x.abandoned ∧ u.Unbound := by
  have hheld := s.forOwner_held.trans hs.1
  have hpair := s.forOwner.playStop_unheld
  have hrest := s.forOwner.playStop_eq
  by_cases hr : s.forOwner.refusesPlayStop
  · left
    rw [if_pos hr] at hrest
    rw [hrest] at hpair
    obtain h | h := State.ended_command (y := x) (fun _ => rfl) hop hs hg hx hrest hpair (by simp [← hheld])
    · rw [h]
      rfl
    · rw [h.rest]
      simp [State.forOwner]
  · rw [if_neg hr] at hrest
    rw [hrest] at hpair
    obtain ⟨hhalves, hhalf, hqueue⟩ := s.forOwner.tapeStopped.abandoned_mon
    obtain h | h := State.ended_command (fun _ => rfl) hop hs hg hx hrest hpair
      (State.abandoned_bus (s := s.forOwner.tapeStopped) hheld)
    · left
      rw [h]
      rfl
    · right
      refine ⟨_, h, ?_⟩
      rw [h.rest]
      exact ⟨hhalves, hhalf, hqueue⟩

/-- PLAY_STOP or SOFT_RESET PLAYBACK, where it is due and is not refused. -/
theorem State.ended_playback {e : Instr} (he : e = .playStop ∨ e = .softResetPlayback) (hx : exec e s.unheld = .next u)
    (hs' : s.tape.evaluating = true) (hu : u.tape.evaluating = false) :
    ∃ m, s.Ended u e m x.abandoned ∧ u.Unbound ∧ (e = .softResetPlayback → ∀ c : Fin 2, u.dec.mon[c].last = 0) := by
  have hne : u.tape ≠ s.tape := fun h => by
    rw [h, hs'] at hu
    cases hu
  obtain rfl | rfl := he
  · obtain h | ⟨m, h, hb⟩ := State.ended_playStop hop hs hg hx
    · exact absurd h hne
    · exact ⟨m, h, hb, Instr.noConfusion⟩
  · obtain h | ⟨m, h, hb, hl⟩ := State.ended_softResetPlayback hop hs hg hx
    · exact absurd (congrArg State.tape h) hne
    · exact ⟨m, h, hb, fun _ => hl⟩

end

end Sys2Proof.Machine
end

section
/-! PROOFS. A held transaction served: a decode request concealed (R76), a turnover delivered by the source that stands (R82), and
any other as if it arrived (R28, R48, R152, R154). -/

namespace Sys2Proof.Machine

/-! ### Concealment (R69, R70, R76) -/

theorem Ctx.deliver_lost_kind (x : Ctx) (limit : Nat) :
    (x.deliver limit none none).kind = .held ∨ (x.deliver limit none none).kind = .decayed := by
  unfold Ctx.deliver
  dsimp only
  repeat' split
  all_goals simp

theorem Ctx.deliver_lost_zero {x : Ctx} (h : x.last = 0) (limit : Nat) : (x.deliver limit none none).ctx.last = 0 := by
  unfold Ctx.deliver
  dsimp only
  repeat' split
  all_goals simp [Ctx.holdAt, Ctx.decay, decayWord, h]

/-- The delivery of a request that names no frame: held or decayed (R69, R70). -/
def State.concealment (s : State) (c : Fin 2) : Delivery := s.dec.mon[c].deliver s.settings.hold none none

theorem Assembler.classifyNext_none (t : Assembler) (x : Ctx) (n c : Nat) :
    t.classifyNext x .lost none none n c = .lost := by
  have hnext : (nextWord none n).1 = none := by
    unfold nextWord
    split <;> rfl
  unfold Assembler.classifyNext
  split
  · rw [hnext]
    rfl
  · rfl

section
variable (s : State) (n : Nat) (c : Fin 2)

theorem State.monitorRequest_none : s.monitorRequest none n c =
    ((s.modDec fun v => { v with mon := vset v.mon c (s.concealment c).ctx }).addAccesses 0).countDelivery
      (s.concealment c).kind .lost := by
  have hown : s.tape.classify none none n c = .lost := rfl
  simp only [State.monitorRequest, hown, Assembler.classifyNext_none]
  rfl

/-- What a request that names no frame leaves (R60, R75, R76). -/
structure State.Concealed (s t : State) (c : Fin 2) : Prop where
  held : t.bus.held = s.bus.held
  treatment : t.bus.treatment = .answered
  accesses : t.bus.accesses = s.bus.accesses
  data : t.bus.data = (s.concealment c).ctx.last
  dec : t.dec = { s.dec with mon := vset s.dec.mon c (s.concealment c).ctx }
  counters : ∀ d, countOf t.counters d =
    if d = .wordsHeld ∧ (s.concealment c).kind = .held ∨ d = .wordsMuted ∧ (s.concealment c).kind = .decayed
    then min 65535 (countOf s.counters d + 1) else countOf s.counters d
  raised : t.rep.raised = s.rep.raised
  frame : s.sameBut [.port, .dec, .counters, .rep] t

theorem State.decodeAnswer_none : s.Concealed (s.decodeAnswer none n c) c := by
  have hdec : (s.monitorRequest none n c).dec = { s.dec with mon := vset s.dec.mon c (s.concealment c).ctx } := by
    simp [State.monitorRequest_none]
  refine ⟨by simp, by simp [State.decodeAnswer], ?_, ?_, ?_, fun d => ?_, ?_, ?_⟩
  · simp [State.decodeAnswer, State.monitorRequest_none]
  · simp only [State.decodeAnswer, State.answer_port, hdec]
    exact congrArg Ctx.last (vset_same _ _ _)
  · simp [State.decodeAnswer, hdec]
  · have hcounter : deliveryCounter (s.concealment c).kind .lost = some d ↔
        d = .wordsHeld ∧ (s.concealment c).kind = .held ∨ d = .wordsMuted ∧ (s.concealment c).kind = .decayed := by
      obtain h | h := s.dec.mon[c].deliver_lost_kind s.settings.hold
      all_goals
        change (s.concealment c).kind = _ at h
        simp [h, deliveryCounter, eq_comm]
    simp only [State.decodeAnswer, State.answer_frame, State.monitorRequest_none, State.countDelivery_counters, hcounter]
    rfl
  · simp only [State.decodeAnswer, State.answer_frame, State.monitorRequest_none,
      (State.onlyMarks_countDelivery _ _ _).flags.1]
    rfl
  · simp [State.sameBut_iff, State.agree]

end

/-! ### Delivery by the source that stands (R82, R90 to R92) -/

/-- What the delivery of a read leaves, where no half is bound and no slot is EVALUATING. -/
structure State.Delivered (s t : State) (c : Fin 2) : Prop where
  held : t.bus.held = s.bus.held
  treatment : t.bus.treatment = .answered
  lastHalf : t.mon.lastHalf = s.mon.lastHalf
  halves : t.mon.halves = s.mon.halves
  queue : t.mon.queue = s.mon.queue
  raised : t.rep.raised = s.rep.raised
  underruns : countOf t.counters .monitorUnderrun = countOf s.counters .monitorUnderrun
  mute : s.mon.effective = .mute → t.bus.data = 0
  input : s.mon.effective = .input → t.bus.data = s.mon.echo[c]

theorem State.deliver_unbound {s : State} (he : s.tape.evaluating = false) {i : Fin 2} (hb : s.mon.halves[i] = none)
    (t : Txn) (n : Nat) (c : Fin 2) : s.Delivered (s.deliver t i n c) c := by
  cases h : s.mon.effective with
  | decoded =>
    have e : s.deliver t i n c = s.decodeAnswer none n c := by
      simp only [State.deliver, h, he, hb]
      rfl
    have hc := s.decodeAnswer_none n c
    rw [e]
    refine ⟨hc.held, hc.treatment, by simp, by simp, by simp, hc.raised, ?_, ?_, ?_⟩
    · rw [hc.counters]
      exact if_neg (by simp)
    · simp [h]
    · simp [h]
  | _ =>
    simp only [State.deliver, h]
    constructor
    all_goals simp [h]

/-! ### The served transaction -/

/-- What follows a service moves only the wait counts (R154). -/
theorem State.tookPort_withCounts (s u : State) : ∃ w, (s.tookPort u).normCounts = s.withCounts w := by
  unfold State.tookPort
  split
  all_goals exact ⟨_, rfl⟩

section
variable {s u m : State} {e : Instr} {x y : Held}

/-- What waited for an evaluation has nothing left to wait for once no slot is EVALUATING (R48, R82). -/
theorem State.Ended.ready_evaluated (h : s.Ended u e m y) (hu : u.tape.evaluating = false)
    (hk : y.kind = .decodeWrite ∨ y.kind = .decodeRead ∨ y.kind = .turnover ∨ y.kind = .conceal) :
    m.normCounts.ready y = true := by
  rw [h.parts.1] at hu
  obtain hk | hk | hk | hk := hk
  all_goals simp [State.ready, h.op, hk, hu]

theorem State.Ended.offset (h : s.Ended u e m y) (k : Fin 4) (a : Nat) : u.bus.offset k a = s.bus.offset k a := by
  simp only [BusPath.offset, BusPath.base, h.parts.2.2.1]

/-- A record-window write that waited for a close is served at the close's end (R28). -/
theorem State.Ended.closing (h : s.Ended u e m x) (hs : s.holds x) (hg : u.bus.counts.guarded = false)
    (hk : x.kind = .closing) (hc : u.coder.halfClosing (halfOf (s.bus.offset 0 x.txn.addr.toNat)) = false) :
    exec e s = exec x.txn.row u := by
  refine h.arrives ?_ hg hs.2.2 (by simp only [State.resume, hk])
  have hoff : m.normCounts.bus.offset 0 x.txn.addr.toNat = s.bus.offset 0 x.txn.addr.toNat := by
    simp only [BusPath.offset, BusPath.base, State.normCounts_frame, h.table]
  rw [h.parts.2.1] at hc
  simp only [State.ready, hk, hoff, State.normCounts_frame, h.op, hc]
  rfl

/-- A write that waited for an evaluation is served once no slot is EVALUATING (R48). -/
theorem State.Ended.decodeWrite (h : s.Ended u e m x) (hs : s.holds x) (hg : u.bus.counts.guarded = false)
    (hk : x.kind = .decodeWrite) (hu : u.tape.evaluating = false) : exec e s = exec x.txn.row u :=
  h.arrives (h.ready_evaluated hu (.inl hk)) hg hs.2.2 (by simp only [State.resume, hk])

/-- A transaction that the guard held is served once no count stands at 16 (R154). -/
theorem State.Ended.guard (h : s.Ended u e m x) (hs : s.holds x) (hg : u.bus.counts.guarded = false)
    (hk : x.kind = .guard) : exec e s = exec x.txn.row u := by
  refine h.arrives ?_ hg hs.2.2 (by simp only [State.resume, hk])
  rw [h.parts.2.2.2] at hg
  simp [State.ready, hk, h.op, hg]

/-- The service of a playback-window read (R80). -/
theorem State.service_playback {t : Txn} (hw : t.write = false) (hr : u.bus.regionOf t.addr.toNat = .playbackWindow) :
    u.service t = (u.freshAccesses.playbackRead t (u.bus.offset 1 t.addr.toNat)).tookPort u := by
  simp [State.service, State.serve, State.serveRead, hw, (u.freshAccesses_region 1 t.addr.toNat).1, hr,
    (u.freshAccesses_region 1 t.addr.toNat).2]

/-- A decode request that waited for an evaluation is made at its end (R48). -/
theorem State.Ended.decodeRead (h : s.Ended u e m x) (hs : s.holds x) (hg : u.bus.counts.guarded = false)
    (hk : x.kind = .decodeRead) (hu : u.tape.evaluating = false) (hw : x.txn.write = false)
    (hr : u.bus.regionOf x.txn.addr.toNat = .playbackWindow)
    (hl : u.mon.lastHalf = some (halfOf (s.bus.offset 1 x.txn.addr.toNat))) : exec e s = exec x.txn.row u := by
  refine h.arrives (h.ready_evaluated hu (.inr (.inl hk))) hg hs.2.2 ?_
  rw [State.service_playback hw hr]
  rw [← h.offset] at hl
  have hl' : u.freshAccesses.mon.lastHalf = some (halfOf (u.bus.offset 1 x.txn.addr.toNat)) := by simpa using hl
  simp only [State.resume, hk, State.playbackRead, if_pos hl']

/-- A turnover that waited for an evaluation goes on at its end (R82). -/
theorem State.Ended.turnover (h : s.Ended u e m x) (hs : s.holds x) (hg : u.bus.counts.guarded = false)
    (hk : x.kind = .turnover) (hu : u.tape.evaluating = false) (hw : x.txn.write = false)
    (hr : u.bus.regionOf x.txn.addr.toNat = .playbackWindow)
    (hl : u.mon.lastHalf ≠ some (halfOf (s.bus.offset 1 x.txn.addr.toNat)))
    (hb : u.mon.halves[halfOf (s.bus.offset 1 x.txn.addr.toNat)] = none) : exec e s = exec x.txn.row u := by
  refine h.arrives (h.ready_evaluated hu (.inr (.inr (.inl hk)))) hg hs.2.2 ?_
  rw [State.service_playback hw hr]
  rw [← h.offset] at hl
  have hb' : u.mon.halves[halfOf (u.bus.offset 1 x.txn.addr.toNat)] = none :=
    (congrArg (fun o => u.mon.halves[halfOf o]) (h.offset 1 _)).trans hb
  have hl' : u.freshAccesses.mon.lastHalf ≠ some (halfOf (u.bus.offset 1 x.txn.addr.toNat)) := by simpa using hl
  have hrel : u.freshAccesses.releaseHalf (halfOf (u.bus.offset 1 x.txn.addr.toNat)) = u.freshAccesses := by
    simp only [State.releaseHalf, State.freshAccesses_frame, hb']
  have hwaits : u.freshAccesses.turnoverWaits = false := by simp [State.turnoverWaits, hu]
  simp only [State.resume, hk, State.playbackRead, if_neg hl', hrel, hwaits]
  rfl

/-- A turnover that PLAY_STOP or SOFT_RESET PLAYBACK finds held binds nothing, and is delivered (R82). -/
theorem State.Ended.turnoverAbandoned (h : s.Ended u e m x.abandoned) (hk : x.kind = .turnover)
    (hu : u.tape.evaluating = false) (hb : u.Unbound) :
    ∃ v w, exec e s = .next (v.withCounts w) ∧ u.freshAccesses.Delivered v (chanIn (s.bus.offset 1 x.txn.addr.toNat)) := by
  have hk' : x.abandoned.kind = .decodeRead := by simp only [Held.abandoned, hk, HoldKind.abandoned]
  have hr := h.resumed (h.ready_evaluated hu (.inr (.inl hk')))
  have hd := State.deliver_unbound (s := u.freshAccesses) (by simpa using hu)
    (i := halfOf (s.bus.offset 1 x.txn.addr.toNat)) (by simp [hb.halves]) x.txn (pairIn (s.bus.offset 1 x.txn.addr.toNat))
    (chanIn (s.bus.offset 1 x.txn.addr.toNat))
  obtain ⟨w, hw⟩ := State.tookPort_withCounts (u.freshAccesses.deliver x.txn (halfOf (s.bus.offset 1 x.txn.addr.toNat))
    (pairIn (s.bus.offset 1 x.txn.addr.toNat)) (chanIn (s.bus.offset 1 x.txn.addr.toNat))) u
  refine ⟨_, w, hr.trans (congrArg _ (Eq.trans ?_ hw)), hd⟩
  simp only [State.resume, hk', h.offset]
  rfl

/-- A decode request that PLAY_STOP or SOFT_RESET PLAYBACK finds held is concealed (R76). -/
theorem State.Ended.decodeReadAbandoned (h : s.Ended u e m x.abandoned) (hk : x.kind = .decodeRead)
    (hu : u.tape.evaluating = false) :
    ∃ v w, exec e s = .next (v.withCounts w) ∧ u.freshAccesses.Concealed v (chanIn (s.bus.offset 1 x.txn.addr.toNat)) := by
  have hk' : x.abandoned.kind = .conceal := by simp only [Held.abandoned, hk, HoldKind.abandoned]
  have hr := h.resumed (h.ready_evaluated hu (.inr (.inr (.inr hk'))))
  have hc := u.freshAccesses.decodeAnswer_none (pairIn (s.bus.offset 1 x.txn.addr.toNat))
    (chanIn (s.bus.offset 1 x.txn.addr.toNat))
  obtain ⟨w, hw⟩ := State.tookPort_withCounts (u.freshAccesses.decodeAnswer none
    (pairIn (s.bus.offset 1 x.txn.addr.toNat)) (chanIn (s.bus.offset 1 x.txn.addr.toNat))) u
  refine ⟨_, w, hr.trans (congrArg _ (Eq.trans ?_ hw)), hc⟩
  simp only [State.resume, hk', h.offset]
  rfl

end

end Sys2Proof.Machine
end

section
/-! PROOFS. The holds of an upstream transaction (R28, R48, R152, R154, R156). -/

namespace Sys2Proof.Machine

/-! ### Holds at arrival (R154, R156) and behind a held transaction (R152) -/

/-- A transaction held at its arrival, for as long as it is not ready. -/
theorem State.settle_hold {s : State} {t : Txn} {k : HoldKind}
    (hr : (s.hold t k).normCounts.ready { txn := t, kind := k } = false) :
    ∃ w, (s.hold t k).settle = (s.hold t k).withCounts w :=
  ⟨_, State.settle_held _ _ (s.hold_held t k) hr⟩

theorem State.arrive_init {s : State} (hop : s.bus.op ≠ .running) (hn : s.noneHeld) (t : Txn) :
    ∃ w, (s.arrive t).settle = (s.hold t .init).withCounts w := by
  have ha : s.arrive t = s.hold t .init := by simp [State.arrive, hn.1, hop]
  rw [ha]
  exact State.settle_hold (by simp [State.ready, hop])

theorem State.arrive_guard {s : State} (hop : s.bus.op = .running) (hn : s.noneHeld) (hg : s.bus.counts.guarded = true)
    (hc : s.normCounts.bus.counts.guarded = true) (t : Txn) :
    ∃ w, (s.arrive t).settle = (s.hold t .guard).withCounts w := by
  have ha : s.arrive t = s.hold t .guard := by simp [State.arrive, hn.1, hop, hg]
  have hsame : (s.hold t .guard).normCounts.bus.counts = s.normCounts.bus.counts := rfl
  rw [ha]
  exact State.settle_hold (by simp [State.ready, hsame, hc])

/-- A transaction that comes behind a held one waits. -/
theorem State.arrive_behind {s : State} {x : Held} (hx : s.bus.held = some x) (hr : s.normCounts.ready x = false) (t : Txn) :
    ∃ w, (s.arrive t).settle = (s.modBus fun b => { b with waiting := b.waiting ++ [t] }).withCounts w := by
  have ha : s.arrive t = s.modBus fun b => { b with waiting := b.waiting ++ [t] } := by simp [State.arrive, hx]
  rw [ha]
  exact ⟨_, State.settle_held (s.modBus fun b => { b with waiting := b.waiting ++ [t] }) x hx hr⟩

/-! ### Holds by a service (R28, R48) -/

section
variable {s : State} {a : BusAddr} (h : s.portFree)
include h

/-- What the service of a record-window write leaves, held or not; then only the wait counts move. -/
theorem State.exec_recordWrite (v : Word) (hr : s.bus.regionOf a.toNat = .recordWindow) : ∃ w,
    exec (.recordWindowWrite a v) s = .next ((s.freshAccesses.recordWrite { write := true, addr := a, data := v }
      (s.bus.offset 0 a.toNat) v).withCounts w) := by
  have hrow : exec (.recordWindowWrite a v) s = .next (s.arrive { write := true, addr := a, data := v }).settle := rfl
  have hserve : s.freshAccesses.serve { write := true, addr := a, data := v } =
      s.freshAccesses.recordWrite { write := true, addr := a, data := v } (s.bus.offset 0 a.toNat) v := by
    simp [State.serve, State.serveWrite, (s.freshAccesses_region 0 a.toNat).1, hr, (s.freshAccesses_region 0 a.toNat).2]
  obtain ⟨w, hw⟩ := State.tookPort_withCounts (s.freshAccesses.serve { write := true, addr := a, data := v }) s
  refine ⟨w, ?_⟩
  rw [hrow, State.arrive_settled h, State.service, hw, hserve]

/-- What the service of a playback-window read leaves, held or not; then only the wait counts move. -/
theorem State.exec_playbackRead (hr : s.bus.regionOf a.toNat = .playbackWindow) : ∃ w,
    exec (.playbackWindowRead a) s = .next ((s.freshAccesses.playbackRead { write := false, addr := a, data := 0 }
      (s.bus.offset 1 a.toNat)).withCounts w) := by
  have hrow : exec (.playbackWindowRead a) s = .next (s.arrive { write := false, addr := a, data := 0 }).settle := rfl
  obtain ⟨w, hw⟩ := State.tookPort_withCounts (s.freshAccesses.playbackRead { write := false, addr := a, data := 0 }
    (s.bus.offset 1 a.toNat)) s
  refine ⟨w, ?_⟩
  rw [hrow, State.arrive_settled h, State.service_playback rfl hr, hw]

end

/-- A transaction has been held by its service from `s`, leaving `t`; the parts that this and its service before it touch are
those listed. -/
structure State.HeldFrom (s t : State) (x : Held) (ps : List Part) : Prop where
  held : t.bus.held = some x
  waiting : t.bus.waiting = s.bus.waiting
  op : t.bus.op = s.bus.op
  table : t.bus.table = s.bus.table
  valid : t.bus.valid = s.bus.valid
  frame : s.sameBut (.bus :: .port :: ps) t

/-- A hold from a state that differs from `s` in the listed parts. -/
theorem State.heldFrom_hold {s y : State} {ps : List Part} (hb : ∃ n, y.bus = { s.bus with accesses := n })
    (hf : s.sameBut (.bus :: .port :: ps) y) (t : Txn) (k : HoldKind) (w : WaitCounts) :
    s.HeldFrom ((y.hold t k).withCounts w) { txn := t, kind := k } ps := by
  obtain ⟨n, hb⟩ := hb
  refine ⟨by simp, by simp [hb], by simp [hb], by simp [hb], by simp [hb], fun p hp => ?_⟩
  have h := hf p hp
  simp only [List.mem_cons, not_or] at hp
  obtain ⟨hbus, hport, -⟩ := hp
  cases p with
  | bus => exact absurd rfl hbus
  | port => exact absurd rfl hport
  | _ => exact h

end Sys2Proof.Machine
end

section
/-! PROOFS. The holds that the services of the two windows make (R25, R28, R48, R81). -/

namespace Sys2Proof.Machine

section
variable {s : State} {a : BusAddr} (h : s.portFree)
include h

/-- A write into the half whose slot is CLOSING (R28). -/
theorem State.held_closing (v : Word) {cur : Fin 2} (hr : s.bus.regionOf a.toNat = .recordWindow)
    (hj : s.coder.job = .recording) (hc : s.coder.curHalf = some cur) (hn : halfOf (s.bus.offset 0 a.toNat) ≠ cur)
    (hx : s.coder.halfClosing (halfOf (s.bus.offset 0 a.toNat)) = true) :
    ∃ t, exec (.recordWindowWrite a v) s = .next t ∧
      s.HeldFrom t { txn := { write := true, addr := a, data := v }, kind := .closing } [] := by
  obtain ⟨w, hw⟩ := State.exec_recordWrite h v hr
  rw [State.recordWrite_closing (s := s.freshAccesses) (by simpa using hj) _ _ (by simpa using hc) hn (by simpa using hx)]
    at hw
  exact ⟨_, hw, State.heldFrom_hold ⟨0, rfl⟩ (by simp [State.sameBut_iff, State.agree]) _ _ w⟩

/-- A write that needs an old-audio fetch in the current half, while a slot is EVALUATING (R48). -/
theorem State.held_fetch (v : Word) {k : Fin 4} {f : Nat} (hr : s.bus.regionOf a.toNat = .recordWindow)
    (hj : s.coder.job = .recording) (hm : s.coder.mode = .insert) (he : s.tape.evaluating = true)
    (hc : s.coder.curHalf = some (halfOf (s.bus.offset 0 a.toNat)))
    (hb : s.coder.halves[halfOf (s.bus.offset 0 a.toNat)] = .slot k f) (hs : s.coder.slots[k].state = .opened)
    (hl : ∀ l, s.coder.latch = some l → ¬(l.frame = s.coder.r ∧ l.pair = pairIn (s.bus.offset 0 a.toNat))) :
    ∃ t, exec (.recordWindowWrite a v) s = .next t ∧
      s.HeldFrom t { txn := { write := true, addr := a, data := v }, kind := .decodeWrite } [] := by
  obtain ⟨w, hw⟩ := State.exec_recordWrite h v hr
  rw [State.recordWrite_current (s := s.freshAccesses) (by simpa using hj) _ _ (by simpa using hc),
    State.landWrite_held (s := s.freshAccesses) hb hs
      (Bool.and_eq_true_iff.mpr ⟨RecordCoder.needsFetch_of hm hl, he⟩)] at hw
  exact ⟨_, hw, State.heldFrom_hold ⟨0, rfl⟩ (by simp [State.sameBut_iff, State.agree]) _ _ w⟩

/-- A frame's first write, held after the frame is opened, while a slot is EVALUATING (R48). -/
theorem State.held_first (v : Word) (hr : s.bus.regionOf a.toNat = .recordWindow) (hj : s.coder.job = .recording)
    (hm : s.coder.mode = .insert) (he : s.tape.evaluating = true) (hc : s.coder.curHalf = none)
    (hl : s.coder.latch = none) (hf : s.coder.slots[s.coder.ringPtr].state = .free) :
    ∃ t, exec (.recordWindowWrite a v) s = .next t ∧
      s.HeldFrom t { txn := { write := true, addr := a, data := v }, kind := .decodeWrite }
        [.coder, .tape, .mon, .copy, .rep] ∧
      t.coder = { s.coder with
        curHalf := some (halfOf (s.bus.offset 0 a.toNat)), ringPtr := s.coder.ringPtr + 1
        slots := vset s.coder.slots s.coder.ringPtr s.freshSlot
        halves := vset s.coder.halves (halfOf (s.bus.offset 0 a.toNat)) (.slot s.coder.ringPtr s.coder.r) } := by
  obtain ⟨w, hw⟩ := State.exec_recordWrite h v hr
  have hopened := State.beginFrame_frameOpened (s := s.freshAccesses) (halfOf (s.bus.offset 0 a.toNat))
    (fun hm' => by rw [show s.freshAccesses.coder.mode = .insert from hm] at hm'; cases hm') hf
  rw [State.recordWrite_first (s := s.freshAccesses) (by simpa using hj) _ _ (by simpa using hc)] at hw
  generalize s.freshAccesses.beginFrame (halfOf (s.bus.offset 0 a.toNat)) = y at hw hopened
  have hcoder := hopened.coder
  have hneeds : y.coder.needsFetch (pairIn (s.bus.offset 0 a.toNat)) = true :=
    RecordCoder.needsFetch_of ((congrArg RecordCoder.mode hcoder :).trans hm) fun l hl' => by
      rw [(congrArg RecordCoder.latch hcoder :).trans hl] at hl'
      cases hl'
  rw [State.landWrite_held (s := y) (k := s.coder.ringPtr) (f := s.coder.r)
    ((congrArg (fun z : RecordCoder => z.halves[halfOf (s.bus.offset 0 a.toNat)]) hcoder).trans (vset_same _ _ _))
    ((congrArg (fun z : RecordCoder => z.slots[s.coder.ringPtr].state) hcoder).trans
      (congrArg RecSlot.state (vset_same _ _ _)))
    (Bool.and_eq_true_iff.mpr ⟨hneeds, hopened.evaluating.trans he⟩)] at hw
  have hframe : s.sameBut [.bus, .port, .coder, .tape, .mon, .copy, .rep] y :=
    (State.sameBut.trans (ps := [.port]) (by simp [State.sameBut_iff, State.agree]) hopened.frame).narrow (by simp)
  exact ⟨_, hw, State.heldFrom_hold ⟨0, hopened.bus⟩ hframe _ _ w, hcoder⟩

/-- A read that makes a decode request in the half last read, while a slot is EVALUATING (R48). -/
theorem State.held_decode (hr : s.bus.regionOf a.toNat = .playbackWindow) (hd : s.mon.effective = .decoded)
    (he : s.tape.evaluating = true) (hl : s.mon.lastHalf = some (halfOf (s.bus.offset 1 a.toNat))) :
    ∃ t, exec (.playbackWindowRead a) s = .next t ∧
      s.HeldFrom t { txn := { write := false, addr := a, data := 0 }, kind := .decodeRead } [] := by
  obtain ⟨w, hw⟩ := State.exec_playbackRead h hr
  have hl' : s.freshAccesses.mon.lastHalf = some (halfOf (s.bus.offset 1 a.toNat)) := hl
  have hd' : s.freshAccesses.mon.effective = .decoded := hd
  have he' : s.freshAccesses.tape.evaluating = true := he
  simp only [State.playbackRead, if_pos hl', State.deliver, hd', if_pos he'] at hw
  exact ⟨_, hw, State.heldFrom_hold ⟨0, rfl⟩ (by simp [State.sameBut_iff, State.agree]) _ _ w⟩

/-- A turnover that binds the queue's head and makes a decode request, while a slot is EVALUATING (R48, R81). -/
theorem State.held_turnover {k : Fin 4} {rest : List (Fin 4)} (hr : s.bus.regionOf a.toNat = .playbackWindow)
    (hd : s.mon.effective = .decoded) (he : s.tape.evaluating = true)
    (hl : s.mon.lastHalf ≠ some (halfOf (s.bus.offset 1 a.toNat))) (hrun : s.tape.run = .running)
    (hq : s.mon.queue = k :: rest) (hb : s.mon.halves[halfOf (s.bus.offset 1 a.toNat)] = none) :
    ∃ t, exec (.playbackWindowRead a) s = .next t ∧
      s.HeldFrom t { txn := { write := false, addr := a, data := 0 }, kind := .decodeRead } [.mon, .copy, .rep] ∧
      t.mon = { s.mon with
        queue := rest, halves := vset s.mon.halves (halfOf (s.bus.offset 1 a.toNat)) (some k)
        lastHalf := some (halfOf (s.bus.offset 1 a.toNat)) } := by
  obtain ⟨w, hw⟩ := State.exec_playbackRead h hr
  have hl' : s.freshAccesses.mon.lastHalf ≠ some (halfOf (s.bus.offset 1 a.toNat)) := hl
  have hrel : s.freshAccesses.releaseHalf (halfOf (s.bus.offset 1 a.toNat)) = s.freshAccesses := by
    simp only [State.releaseHalf, State.freshAccesses_frame, hb]
  have hwaits : s.freshAccesses.turnoverWaits = false := by simp [State.turnoverWaits, hq]
  have hbound : s.freshAccesses.bindTurnover (halfOf (s.bus.offset 1 a.toNat)) =
      ((s.freshAccesses.modMon fun m => { m with
        queue := rest, halves := vset m.halves (halfOf (s.bus.offset 1 a.toNat)) (some k)
        lastHalf := some (halfOf (s.bus.offset 1 a.toNat)) }).updateOutput).markPlayback := by
    simp only [State.bindTurnover, State.freshAccesses_frame, hrun, hq, if_true]
    rfl
  simp only [State.playbackRead, if_neg hl', hrel, hwaits, hbound, Bool.false_eq_true, if_false, State.deliver] at hw
  simp only [State.markPlayback_frame, State.updateOutput_frame, State.modMon_mon, State.modMon_tape,
    State.freshAccesses_frame, hd, he, if_true] at hw
  exact ⟨_, hw, State.heldFrom_hold ⟨0, by simp [State.freshAccesses]⟩ (by simp [State.sameBut_iff, State.agree]) _ _ w,
    by simp⟩

end

/-! ### The release of a hold by the event that ends it -/

section
variable {s u : State} {x : Held} {e : Instr} (hop : s.bus.op = .running) (hs : s.holds x)
include hop hs

/-- An evaluation end after which no slot is EVALUATING has ended the one that ran. -/
theorem State.ended_evaluationEnd_of (he : e = .evaluationEnd) (hx : exec e s.unheld = .next u)
    (hv : s.tape.evaluating = true) (hu : u.tape.evaluating = false) : ∃ m, s.Ended u e m x := by
  subst he
  refine (State.ended_evaluationEnd hop hs hx).resolve_left fun h => ?_
  rw [h] at hu
  exact Bool.false_ne_true (hu.symm.trans hv)

theorem State.released_closing (hx : exec e s.unheld = .next u) (hg : u.bus.counts.guarded = false)
    (hk : x.kind = .closing) (he : e = .closeEnd ∨ e = .softResetRecord)
    (hc : s.coder.halfClosing (halfOf (s.bus.offset 0 x.txn.addr.toNat)) = true)
    (hu : u.coder.halfClosing (halfOf (s.bus.offset 0 x.txn.addr.toNat)) = false) : exec e s = exec x.txn.row u := by
  have hne : u ≠ s.unheld := fun h => by
    rw [h] at hu
    exact Bool.false_ne_true (hu.symm.trans hc)
  obtain ⟨m, h⟩ : ∃ m, s.Ended u e m x := by
    obtain rfl | rfl := he
    · exact (State.ended_closeEnd hop hs hx).resolve_left hne
    · exact (State.ended_softResetRecord hop hs (by simp [hk]) hx).resolve_left hne
  exact h.closing hs hg hk hu

theorem State.released_decodeWrite (hx : exec e s.unheld = .next u) (hg : u.bus.counts.guarded = false)
    (hk : x.kind = .decodeWrite) (he : e = .evaluationEnd ∨ e = .playStop ∨ e = .softResetPlayback)
    (hv : s.tape.evaluating = true) (hu : u.tape.evaluating = false) : exec e s = exec x.txn.row u := by
  obtain he | he := he
  · obtain ⟨m, h⟩ := State.ended_evaluationEnd_of hop hs he hx hv hu
    exact h.decodeWrite hs hg hk hu
  · obtain ⟨m, h, -, -⟩ := State.ended_playback hop hs (by simp [hk]) he hx hv hu
    have hsame : x.abandoned = x := by
      obtain ⟨txn, kind⟩ := x
      subst hk
      rfl
    rw [hsame] at h
    exact h.decodeWrite hs hg hk hu

end

end Sys2Proof.Machine
end

section
/-! PROOFS. The obligations on the record path, settled. -/

open Sys2Proof Sys2Proof.Machine

/-- Settles O2: each law read off the reset value of the block that it speaks of. -/
theorem resetKeepsTheLaws : Obligations.ResetKeepsTheLaws := by
  have hring : State.reset.cmd.sound := ⟨by decide, fun h => absurd h (by decide)⟩
  have hcounters : countersSound State.reset.counters := fun c => by cases c <;> decide
  have hsettings : State.reset.settings.sound := by unfold Settings.sound; decide
  have hwaits : State.reset.bus.counts.sound := by unfold WaitCounts.sound; decide
  have hdistinct : State.reset.tape.distinct := fun j _ _ hj => by fin_cases j <;> cases hj
  refine ⟨⟨rfl, hring, hcounters, hsettings, hwaits, by decide⟩, hdistinct, ?_, ?_, ?_⟩
  · exact ⟨List.nodup_nil, fun _ h => (List.not_mem_nil h).elim, fun _ h => by cases h⟩
  · exact ⟨Nat.zero_le _, List.Pairwise.nil⟩
  · exact ⟨fun _ h => (by cases h), List.isChain_nil, fun _ => rfl⟩

/-- Settles O4: the reset values of the blocks, and the causes and counters one by one. -/
theorem resetValues : Obligations.ResetValues := by
  have hc : ∀ c : Counter, State.reset.counter c = 0 := fun c => by cases c <;> rfl
  have hs : ∀ c : Cause, State.reset.isRaised c = false ∧ State.reset.isPosted c = false := fun c => by
    cases c <;> decide
  simp only [Obligations.ResetValues, hc, hs]
  simp [State.reset, RecordCoder.reset, RecSlot.reset, Assembler.reset, TapeSlot.reset, BlockRec.reset,
    Lock.reset, DecodeService.reset, Ctx.reset, Monitor.reset, EditEngine.reset, OutcomeRec.reset, CopyControl.reset,
    Contribution.reset, Settings.reset, BusPath.reset, CommandUnit.reset, CommandUnit.busy, ReportUnit.reset,
    Config.resetPages, Config.resetMasks]

/-- Settles O16: a word write in ASSEMBLE mode needs no fetch and settles the resolved value. -/
theorem recordWindowWriteStores : Obligations.RecordWindowWriteStores := by
  intro s a v k f hwf hport hreg hjob hmode hcur hhalf hopen o b p g x y
  have hfetch : s.coder.needsFetch (pairIn o) = false := by simp [RecordCoder.needsFetch, hmode]
  obtain ⟨w, hw⟩ := State.exec_wordWrite v hport hreg hjob hcur hhalf hopen (by rw [hfetch]; rfl)
  refine ⟨_, hw, ?_⟩
  have hword : (s.received (chanIn o) v).writtenWord k (pairIn o) (chanIn o) v = Stored.ofNew x :=
    State.writtenWord_assemble k _ _ v hmode
  have hfetched : (s.received (chanIn o) v).fetched (pairIn o) = s.received (chanIn o) v := State.fetched_of_not hfetch
  have hst := (s.received (chanIn o) v).wordWrite_stored k (pairIn o) (chanIn o) v hwf (pairIn_lt o)
  have hcoder := (s.received (chanIn o) v).wordWrite_coder k (pairIn o) (chanIn o) v
  have hcount := (s.received (chanIn o) v).wordWrite_counters k (pairIn o) (chanIn o) v .refusedFrames
  have hset := (s.received (chanIn o) v).wordWrite_isSet k (pairIn o) (chanIn o) v .refused (by decide)
  rw [hword] at hst
  rw [hfetched] at hcount hset hcoder
  generalize ht : (s.received (chanIn o) v).wordWrite k (pairIn o) (chanIn o) v = t at *
  have hb : b < 12 := blockOf_lt _ _
  have hp : p < 128 := posOf_lt (pairIn_lt o)
  have hcontrib := hst.contrib
  rw [Contribution.add_ofNew] at hcontrib
  refine ⟨hst.treatment, hst.data, hst.parity, hst.mem, fun b' p' _ _ => ?_, fun g' p' _ _ => ?_, fun m => ?_,
    (congrArg RecSlot.state hst.slot).trans hopen, (congrArg RecSlot.frame hst.slot :), hst.slots, fun hr ho => ⟨?_,
        fun hn => ?_⟩, ?_,
    hst.copy, hst.contribs, ?_, ?_, (congrArg Monitor.echo hst.mon :), (congrArg RecordCoder.job hcoder :),
    (congrArg RecordCoder.r hcoder :), (congrArg RecordCoder.halves hcoder :), (congrArg RecordCoder.curHalf hcoder :),
    (congrArg RecordCoder.ringPtr hcoder :), ?_⟩
  · exact (congrArg (fun z : RecSlot => z.isWritten b' p') hst.slot).trans (setEntry_getLsbD _ hb hp _ _)
  · exact (congrArg (fun z : RecSlot => z.isTouched g' p') hst.slot).trans (setEntry_getLsbD _ (groupOf_lt b) hp _ _)
  · exact (hst.sums m).trans (by rw [hst.parity]; rfl)
  · refine (congrArg Contribution.refused hcontrib).trans ?_
    simp [hr, ho, -Fin.getElem_fin]
  · refine hset.trans ?_
    simp [hr, ho, hn, -Fin.getElem_fin]
  · refine hcontrib.trans ?_
    by_cases hr : s.copy.recording = .none <;> simp [hr, -Fin.getElem_fin]
  · refine hcount.trans ?_
    simp [and_assoc, -Fin.getElem_fin]
  · exact (congrArg RecordCoder.recPos hcoder :)
  · exact State.sameBut_served (by decide) (by decide) hst.frame w

/-- Settles O17: with the latch holding the pair nothing is fetched; else both channels are, left first, and the word that is
stored is the one settled after the pair event. -/
theorem insertWriteStoresTheMix : Obligations.InsertWriteStoresTheMix := by
  intro s a v k f hwf hport hreg hjob hmode hcur hhalf hopen o n b p x stepped refuses
  have hst := (s.received (chanIn o) v).wordWrite_stored k n (chanIn o) v hwf (pairIn_lt o)
  have hcoder := (s.received (chanIn o) v).wordWrite_coder k n (chanIn o) v
  have hdec := (s.received (chanIn o) v).wordWrite_dec k n (chanIn o) v
  have hedit := (s.received (chanIn o) v).wordWrite_edit k n (chanIn o) v
  have hcount := (s.received (chanIn o) v).wordWrite_counters k n (chanIn o) v
  have hset := (s.received (chanIn o) v).wordWrite_isSet k n (chanIn o) v
  have hprep := ((s.received (chanIn o) v).prepared_keeps k n).2.2.2.2.2.2
  constructor
  · intro l hl hlr hln hfirst w fresh kept
    have hfetch : s.coder.needsFetch n = false := by
      simp [RecordCoder.needsFetch, RecordCoder.latchHolds, hl, hlr, hln]
    obtain ⟨wc, hw⟩ := State.exec_wordWrite v hport hreg hjob hcur hhalf hopen (by rw [hfetch]; rfl)
    refine ⟨_, hw, ?_⟩
    have hfetched : (s.received (chanIn o) v).fetched n = s.received (chanIn o) v := State.fetched_of_not hfetch
    have hsrc := State.prepared_oldSource (s := s.received (chanIn o) v) k n (chanIn o) (l := l) (by rw [hfetched]; exact hl)
    have hword := State.writtenWord_insert (s := s.received (chanIn o) v) k n (chanIn o) v hmode (l := l)
      (by rw [hfetched]; exact hl)
    have hbegun := hprep hfirst
    rw [hbegun, hfetched] at hword hedit
    obtain ⟨hW, hnew, hold, hsat⟩ := Stored.insert_parts (oldOnly := s.coder.slots[k].oldOnly) (w := w) hword
    rw [hsrc] at hst
    generalize (s.received (chanIn o) v).writtenWord k n (chanIn o) v = W at *
    change decide (0 < W.wNew) = fresh at hnew
    change decide (0 < W.wOld) = kept at hold
    have hcontrib := hst.contrib
    have hdec' : ((s.received (chanIn o) v).wordWrite k n (chanIn o) v).dec = s.dec := by
      rw [State.wordWrite_eq, hbegun, hfetched]
      simp
    rw [hfetched] at hcoder hcount
    generalize (s.received (chanIn o) v).wordWrite k n (chanIn o) v = t at *
    refine ⟨hst.data.trans hW, hst.mem, hedit, hdec', (congrArg RecordCoder.latch hcoder :),
      (congrArg RecordCoder.job hcoder :), (congrArg RecordCoder.r hcoder :), (congrArg RecordCoder.halves hcoder :),
          hst.slots,
      ?_, ?_, ?_, ?_, ?_, ?_, ?_, ?_, ?_⟩
    · exact (congrArg Contribution.refused hcontrib :)
    · refine (congrArg Contribution.gotNew hcontrib).trans ?_
      rw [← hnew]
      rfl
    · refine (congrArg Contribution.gotOld hcontrib).trans ?_
      rw [← hold]
      rfl
    · refine (congrArg Contribution.newStatus hcontrib).trans ?_
      refine (Contribution.add_newStatus _ _ _ _ _).trans ?_
      simp only [← hnew, decide_eq_true_eq]
      rfl
    · refine (congrArg (fun z => z.oldStatus.code) hcontrib).trans ?_
      refine (Contribution.add_oldStatus _ _ _ _ _ _).trans ?_
      simp only [← hold, decide_eq_true_eq]
      rfl
    · refine (hcount .saturation).trans ?_
      rw [hsat]
      simp [stepped]
    · refine (hcount .refusedFrames).trans ?_
      simp only [reduceCtorEq, false_and, true_and, if_false]
      rfl
    · intro d h1 h2
      refine (hcount d).trans ?_
      simp [h1, h2]
    · exact (State.sameBut_served (by decide) (by decide) hst.frame wc).narrow (by simp [State.agree, hedit, hdec'])
  · intro hno hev hopenSlot r rate own next d apart clash
    have hneeds : s.coder.needsFetch n = true := RecordCoder.needsFetch_of hmode hno
    have hrate : (s.received (chanIn o) v).recordRate = rate := by
      simp [State.recordRate, hopenSlot, rate, -Fin.getElem_fin]
    have hvalue := State.classValue_congr (s := s) (t := s.received (chanIn o) v) rfl rfl
    have hown : ∀ c, (s.received (chanIn o) v).mixOwn r n c = own c := fun c => by simp only [State.mixOwn, hrate]; rfl
    have hnext : ∀ c, (s.received (chanIn o) v).mixNext r n c = next c := fun c => by
      simp only [State.mixNext, hrate, hown]; rfl
    have hd : ∀ c, (s.received (chanIn o) v).mixDelivery r n c = d c := fun c => by
      simp only [State.mixDelivery, hown, hnext, hvalue]; rfl
    have hclash : ((s.received (chanIn o) v).mixClash r n 0 || (s.received (chanIn o) v).mixClash r n 1) = clash := by
      rw [State.mixClash_both, hown, hown, hrate]
      simp only [Assembler.rateClash_eq, rate, clash, List.any_cons, List.any_nil, Bool.or_false]
      rfl
    have hfetched := State.fetched_of_needs (s := s.received (chanIn o) v) hneeds
    have hfsource := (s.received (chanIn o) v).fetchOld_source n
    have hflatch := congrArg RecordCoder.latch ((s.received (chanIn o) v).fetchOld_coder n)
    have hfdec := (s.received (chanIn o) v).fetchOld_dec n
    have hfmix := (s.received (chanIn o) v).fetchOld_mix n
    have hfset := (s.received (chanIn o) v).fetchOld_isSet n .rateMismatch
    have hnone : ∀ D, D ∉ _ → _ := fun D hD => (s.received (chanIn o) v).fetchOld_counter_other n (d := D) hD
    have htwo : ∀ D g, _ → _ := fun D g h => (s.received (chanIn o) v).fetchOld_stepped n (d := D) (g := g) h
    have hwhich := (s.received (chanIn o) v).mixDelivery_counter n r
    have hr : (s.received (chanIn o) v).coder.r = r := rfl
    simp only [hr, hd, hown, hnext, hclash] at hfsource hflatch hfdec hfmix hfset hnone htwo hwhich
    rw [← hfetched] at hfsource hflatch hfdec hfmix hfset hnone htwo
    have hword := State.writtenWord_insert (s := s.received (chanIn o) v) k n (chanIn o) v hmode hflatch
    rw [← hedit] at hword
    have hlast : (#v[(d 0).ctx.last, (d 1).ctx.last] : Vector Word 2)[chanIn o] = (d (chanIn o)).ctx.last :=
      vec2_getElem (fun c => (d c).ctx.last) _
    rw [hlast] at hword
    obtain ⟨hW, -, -, hsat⟩ := Stored.insert_parts (oldOnly := s.coder.slots[k].oldOnly) hword
    obtain ⟨wc, hw⟩ := State.exec_wordWrite v hport hreg hjob hcur hhalf hopen (by rw [hev, Bool.and_false])
    refine ⟨_, hw, ?_⟩
    generalize (s.received (chanIn o) v).writtenWord k n (chanIn o) v = W at *
    generalize (s.received (chanIn o) v).wordWrite k n (chanIn o) v = t at *
    have hset' := hset .rateMismatch (by decide)
    rw [hfset] at hset'
    have hsteps : ∀ D, D ≠ .saturation → D ≠ .refusedFrames →
        countOf t.counters D = countOf ((s.received (chanIn o) v).fetched n).counters D := fun D h1 h2 => by
      rw [hcount, if_neg (fun h => h1 h.1), if_neg (fun h => h2 h.1)]
    have hsource : ∀ c, t.coder.source[c] = sourceAfter s.tape s.coder.source[c] (d c).kind (own c) (next c) := fun c =>
      (congrArg (fun z : RecordCoder => z.source[c]) hcoder).trans (hfsource c)
    have hlatch : t.coder.latch = some
        { frame := r, pair := n, old := #v[(d 0).ctx.last, (d 1).ctx.last], source := t.coder.source } :=
      ((congrArg RecordCoder.latch hcoder).trans hflatch).trans (by rw [congrArg RecordCoder.source hcoder])
    refine ⟨fun c => ⟨?_, fun j hk hs => ?_, fun j hk hs => ?_, fun hk => ?_, fun ha => ?_⟩, ?_, ?_, fun h1 h2 => ?_,
      fun h => ?_,
      ⟨?_, ?_, ?_, ?_, ?_, ?_, ?_, fun d' hd' => ?_⟩, fun h1 => ?_, fun h1 => ?_, hst.mem,
          (congrArg RecordCoder.job hcoder :),
      (congrArg RecordCoder.r hcoder :), (congrArg RecordCoder.halves hcoder :), hst.slots, ?_⟩
    · exact (congrArg (fun z : DecodeService => z.mix[c]) hdec).trans (hfmix c)
    · exact (hsource c).trans (by simp [hk, sourceAfter, hs])
    · exact (congrArg CopyStatus.code (hsource c)).trans (by simp [hk, sourceAfter, hs, CopyStatus.most_code])
    · exact (hsource c).trans (sourceAfter_concealed hk _ _ _ _)
    · have hr : s.tape.rateClash rate (some r) = true := (s.tape.rateClash_eq _ _).trans ha
      obtain ⟨h1, h2⟩ := State.rateClash_held hr s.dec.mix[c] s.coder.source[c] s.settings.hold n c.val
      exact ⟨h1, (hsource c).trans h2⟩
    · exact hlatch
    · exact (congrArg DecodeService.rateMark (hdec.trans (by rw [hfdec])) :)
    · refine hset'.trans ?_
      simp [h1, h2]
    · refine hset'.trans ?_
      rcases h with h | h <;> simp [h]
    · exact hst.data.trans hW
    · refine (hcount .saturation).trans ?_
      rw [hnone _ (by decide), hsat]
      simp only [true_and, reduceCtorEq, false_and, if_false]
      rfl
    · refine (hcount .refusedFrames).trans ?_
      rw [hnone _ (by decide)]
      simp only [true_and, reduceCtorEq, false_and, if_false]
      rfl
    · refine (hsteps .wordsCorrected (by decide) (by decide)).trans (htwo _ (fun c => match own c with
        | .rebuilt _ _ _ => true
        | _ => false) fun c => ?_)
      simp only [hwhich, true_and, reduceCtorEq, false_and, or_false]
      cases own c <;> simp
    · exact (hsteps .wordsInterpolated (by decide) (by decide)).trans
        (htwo _ (fun c => (d c).kind == .interpolated) fun c => by simp [hwhich])
    · exact (hsteps .wordsHeld (by decide) (by decide)).trans
        (htwo _ (fun c => (d c).kind == .held) fun c => by simp [hwhich])
    · exact (hsteps .wordsMuted (by decide) (by decide)).trans
        (htwo _ (fun c => (d c).kind == .decayed) fun c => by simp [hwhich])
    · simp only [List.mem_cons, List.not_mem_nil, or_false, not_or] at hd'
      obtain ⟨h1, h2, hrest⟩ := hd'
      exact (hsteps d' h1 h2).trans (hnone d' (by simpa using hrest))
    · exact (congrArg RecordCoder.recPos hcoder :).trans (if_pos h1)
    · exact ⟨hedit.trans (by rw [hprep h1]; simp),
        (congrArg RecordCoder.recPos hcoder :).trans (if_neg (by simpa using h1))⟩
    · exact (State.sameBut_served (by decide) (by decide) hst.frame wc).narrow (by simp)

/-- Settles O21: the drop, with the echo and the cause. -/
theorem idleWriteIsDropped : Obligations.IdleWriteIsDropped := by
  intro s a v h hr hjob
  have hj : s.coder.job ≠ .recording := by rcases hjob with hj | hj <;> rw [hj] <;> decide
  have e := fun t => State.recordWrite_idle (s := s.freshAccesses) hj t (s.bus.offset 0 a.toNat) v
  obtain ⟨w, hw⟩ := State.exec_recordWindowWrite v h hr (by rw [e]; exact h.2.1)
  rw [e] at hw
  refine ⟨_, hw, rfl, rfl, ?_, rfl, rfl, ?_⟩
  · simp [State.idleWrite]
  · simp [State.sameBut_iff, State.agree]

/-- Settles O22, by the binding of the half and the payload-written entry. -/
theorem recordWindowReadReturnsStored : Obligations.RecordWindowReadReturnsStored := by
  intro s a h hr o b p
  obtain ⟨w, hw⟩ := State.exec_recordWindowRead h hr
  have hchan : (chanIn o).val = o % 1536 % 2 := by
    unfold chanIn Config.halfWords
    split <;> simp <;> omega
  have hword : ((s.freshAccesses.recordRead o).withCounts w).bus.data = s.recordReadWord o := rfl
  have hcost : ((s.freshAccesses.recordRead o).withCounts w).bus.accesses = s.recordReadCost o := Nat.zero_add _
  refine ⟨_, hw, by simp [State.sameBut_iff, State.agree], rfl, ?_⟩
  rw [hword, hcost, State.recordReadWord, State.recordReadCost, hchan]
  cases hb : s.coder.halves[halfOf o] with
  | unbound => exact ⟨rfl, rfl⟩
  | absorbed f => exact ⟨rfl, rfl⟩
  | slot k f =>
    have hoff : slotOffset b (2 + p) = 132 * b + 2 + p := (Nat.add_assoc _ _ _).symm
    change if s.coder.slots[k].isWritten b p = true then
        s.recOld k (slotOffset b (2 + p)) (s.coder.slots[k].isWritten b p) = _ ∧
          (if s.coder.slots[k].isWritten b p = true then 1 else 0) = 1
      else s.recOld k (slotOffset b (2 + p)) (s.coder.slots[k].isWritten b p) = 0 ∧
          (if s.coder.slots[k].isWritten b p = true then 1 else 0) = 0
    split
    · next hset => rw [hset, hoff]; exact ⟨rfl, rfl⟩
    · next hset => rw [Bool.eq_false_iff.mpr hset]; exact ⟨rfl, rfl⟩

/-- Settles O24: the watched read releases at the final word of a READY slot and nowhere else. -/
theorem finalWordReadReleases : Obligations.FinalWordReadReleases := by
  intro s a h hr y
  obtain ⟨w, hw⟩ := State.exec_recordImageRead h hr
  refine ⟨fun k hk hready => ⟨_, hw, ?_⟩, fun hno => ⟨_, hw, ?_⟩⟩
  · have e : (s.freshAccesses.passRead a).watchRelease y = (s.freshAccesses.passRead a).releaseRecord k := by
      rw [State.watchRelease, (finalWordOf_iff y k).mpr hk]
      exact if_pos hready
    rw [e]
    refine ⟨rfl, rfl, vmod_same _ _ _, fun j hj => vmod_other _ _ hj, fun i hi => ?_, fun i f hi => ?_, rfl, rfl, ?_⟩
    · have hv := vimap_getElem (fun _ b => b.unbindFrom k) s.coder.halves i
      exact hv ▸ Binding.unbindFrom_changes (fun e => hi (hv.trans e))
    · have hv := vimap_getElem (fun _ b => b.unbindFrom k) s.coder.halves i
      exact Binding.unbindFrom_ne _ k f (hv.symm.trans hi)
    · simp [State.sameBut_iff, State.agree]
  · have e : (s.freshAccesses.passRead a).watchRelease y = s.freshAccesses.passRead a := by
      unfold State.watchRelease
      split
      · next k hk => exact if_neg (hno k ((finalWordOf_iff y k).mp hk))
      · rfl
    rw [e]
    exact ⟨rfl, rfl, by simp [State.sameBut_iff, State.agree]⟩

/-- Settles O25: the grant goes to the close engine, and each of its accesses writes one word. -/
theorem closeEngineWrites : Obligations.CloseEngineWrites := by
  refine ⟨Contribution.decided_code, fun s j hwf hr hn hc => ⟨fun o rest hfill => ?_, fun hfill hdone => ?_,
    fun b hfill hdone => ?_, fun b hfill hdone hst => ?_⟩⟩
  · obtain ⟨w, hw⟩ := State.exec_closeGrant hr hn hc (by simp [CloseJob.wanting, hfill])
    rw [State.closeAccess_fill hfill] at hw
    obtain ⟨hread, hmem⟩ := State.poked_word hwf (s.recAddr j.slot o) 0
      (t := ((s.poke (s.recAddr j.slot o) 0).setClose { j with fill := rest }).withCounts w) rfl
    exact ⟨_, hw, hread, hmem, rfl, by simp [State.sameBut_iff, State.agree, State.setClose]⟩
  · obtain ⟨w, hw⟩ := State.exec_closeGrant hr hn hc (by simp [CloseJob.wanting, hfill]; omega)
    intro st x at_
    obtain ⟨hcoder, hmem, hbus, hun, hno, hframe⟩ := State.closeStages_keeps hc
    have haddr := State.recAddr_congr (s := s) (t := s.closeStages j) (by rw [hbus]) j.slot
    rw [State.closeAccess_head hfill, State.closeHead_header _ _ hdone, haddr, hcoder] at hw
    generalize s.closeStages j = u at *
    obtain ⟨hread, hmem'⟩ := State.poked_word hwf at_ (x.headWord j.done st)
      (t := ((u.setClose { j with status := some st, done := j.done + 1 }).poke at_ (x.headWord j.done st)).withCounts w)
      (by simp [State.setClose, State.poke, hmem])
    refine ⟨_, hw, hread, hmem', ?_, hun, fun h => ?_, ?_⟩
    · simp [State.setClose, hcoder, st]
    · exact ((hno h).trans (qs := [.port, .coder, .mem]) (by simp [State.sameBut_iff, State.agree, State.setClose])).narrow
        (by simp)
    · exact (hframe.trans (qs := [.port, .coder, .mem]) (by simp [State.sameBut_iff, State.agree, State.setClose])).narrow
        (by simp)
  · intro x st σ hst
    obtain ⟨st', hst'⟩ := Option.ne_none_iff_exists'.mp hst
    obtain ⟨w, hw⟩ := State.exec_closeGrant hr hn hc (by simp [CloseJob.wanting, hfill]; omega)
    have hσ : x.completeSums b st = σ := by simp only [RecSlot.completeSums, vget_fin, σ]
    rw [State.closeAccess_head hfill, State.closeStages_settled hst, State.closeHead_s1 _ _ hdone] at hw
    obtain ⟨hread, hmem⟩ := State.poked_word hwf (s.recAddr j.slot (slotOffset b.val 130))
      (word (x.completeSums b.val st).s1)
      (t := (State.poke _ _ _).withCounts w) rfl
    refine ⟨_, hw, hread.trans (by rw [hσ]), hmem, ?_, ?_, ?_⟩
    · refine Eq.trans ?_ hσ
      simp only [State.withCounts_frame, State.poke_frame, State.modRecSlot_coder, vmod_same, vput_getElem, if_true]
      rfl
    · simp [State.setClose, hst']
    · simp [State.sameBut_iff, State.agree, State.setClose]
  · obtain ⟨st, hst'⟩ := Option.ne_none_iff_exists'.mp hst
    obtain ⟨w, hw⟩ := State.exec_closeGrant hr hn hc (by simp [CloseJob.wanting, hfill]; omega)
    rw [State.closeAccess_head hfill, State.closeStages_settled hst, State.closeHead_s2 _ _ hdone, vget_fin] at hw
    obtain ⟨hread, hmem⟩ := State.poked_word hwf (s.recAddr j.slot (slotOffset b.val 131))
      (word s.coder.slots[j.slot].sums[b].s2)
      (t := ((s.setClose { j with
        status := some (j.status.getD s.copy.contrib[j.slot].decided), done := j.done + 1 }).poke _ _).withCounts w) rfl
    refine ⟨_, hw, hread, hmem, ?_, ?_⟩
    · simp [State.setClose, hst']
    · simp [State.sameBut_iff, State.agree, State.setClose]

/-- Settles O26: the slot marked READY, the waiting slot taken, and the job rested. -/
theorem closeEndMarksReady : Obligations.CloseEndMarksReady := by
  intro s j hr hn hc hfill hdone
  obtain ⟨w, hw⟩ := State.exec_closeEnd hr hn hc (by simp [CloseJob.wanting, hfill, hdone])
  obtain ⟨hready, hpending, hnone⟩ := s.finishClose_coder j
  obtain ⟨hjob, hcount, hmark, htape, hedit⟩ := s.finishClose_keeps j
  have hframe := s.finishClose_frame j
  generalize s.finishClose j = t at *
  refine ⟨_, hw, congrArg RecSlot.state hready, hready, (hcount _).trans (if_pos rfl),
      fun c h => (hcount c).trans (if_neg h),
    fun k hk hp => ?_, fun _ hp => hnone hp, fun h => hjob.trans (if_pos h), fun h => hjob.trans (if_neg h), hmark, ?_⟩
  · obtain ⟨hslot, hclose⟩ := hpending k hk hp
    exact ⟨congrArg RecSlot.state hslot, congrArg RecSlot.closePending hslot, hclose⟩
  · simp [State.sameBut_iff, State.agree, htape, hedit, hframe]

/-- Settles O13: the tests one by one, and what is left of the start. -/
theorem recordStartJudgedAndTaken : Obligations.RecordStartJudgedAndTaken := by
  refine ⟨fun s m hi lo h r hr => ?_, fun s m hi lo h hjob hvalid hmode hframe hprot => ?_⟩
  · obtain ⟨t, ht, hcmd, hkeep⟩ := State.command_refused (k := .recordStart) (owner := fun x => x.recordStart m hi lo)
      (r := r) h (State.recordStart_refused hr)
    exact ⟨t, congrArg _ ht, hcmd, hkeep⟩
  · obtain ⟨hcoder, hedit, hdec, hcopy, hmon, hraised, hposted, hmark⟩ :=
      s.unmarked.startRecording_keeps (if m = 0 then .assemble else .insert) (frameOf hi lo)
    have hframes := s.unmarked.startRecording_frame (if m = 0 then .assemble else .insert) (frameOf hi lo)
    have hstart := s.edit.start_keeps (if m = 0 then .assemble else .insert)
    rw [show s.edit.start _ = _ from hedit.symm] at hstart
    obtain ⟨w, hw⟩ := State.command_marked (k := .recordStart) (owner := fun x => x.recordStart m hi lo) h
      (State.recordStart_taken (s := s.unmarked) hjob hvalid hmode hframe hprot) hframes.1
      (ReportUnit.touched_of_record hmark)
    generalize s.unmarked.startRecording (if m = 0 then .assemble else .insert) (frameOf hi lo) = v at *
    obtain ⟨hpunch, htrans, hdeadline, hprev, hrearm, htarget, hreturn, hparam, hlist, hassemble⟩ := hstart
    have heffmon : v.mon.effective = v.effectiveOf := (congrArg Monitor.effective hmon :)
    have heff : ((s.takenAs v (.waitPass .recordStart .done)).withCounts w).effectiveOf = v.effectiveOf :=
      State.effectiveOf_congr rfl rfl rfl rfl rfl
    refine ⟨_, congrArg Host.Outcome.next hw, ?_, hcoder, hpunch, htrans, hdeadline, hprev, hrearm, htarget, hreturn,
        hparam, hlist, fun hm => ?_, fun hm => ?_,
      (congrArg DecodeService.rateMark hdec :), (congrArg DecodeService.mix hdec :), (congrArg CopyControl.sealed hcopy :),
      (congrArg CopyControl.recording hcopy :), (congrArg CopyControl.derived hcopy :), (congrArg CopyControl.input hcopy :),
      (congrArg CopyControl.analog hcopy :), (congrArg CopyControl.contrib hcopy :), ?_, ?_, hraised, hposted, ?_, ?_⟩
    · simp [hframes, CommandUnit.takenMarked]
    · obtain ⟨harm, hwait⟩ := hassemble (if_pos hm)
      exact ⟨harm, hwait⟩
    · refine hedit.trans ?_
      rw [if_neg hm]
      rfl
    · rw [heff]
      exact heffmon
    · exact hmon.trans (by rw [← heffmon]; rfl)
    · simp [Marks.union, hmark]
    · simp [State.sameBut_iff, State.agree, hframes]

/-- Settles O14: the laws of a stop, carried through the taking of the command. -/
theorem recordStopStops : Obligations.RecordStopStops := by
  refine fun s h => ⟨fun hjob => ?_, fun hjob => ?_⟩
  · obtain ⟨t, ht, hcmd, hkeep⟩ := State.command_refused (k := .recordStop) (owner := State.recordStop) (r := .state) h
      (if_neg hjob)
    exact ⟨t, congrArg _ ht, hcmd, hkeep⟩
  · have hstop := s.unmarked.stopJob_stopped
    have hframe := s.unmarked.stopJob_frame
    obtain ⟨w, hw⟩ := State.command_marked (k := .recordStop) (owner := State.recordStop) (v := s.unmarked.stopJob)
      (r := .done) h (if_pos hjob) hframe.1 (ReportUnit.touched_of_record hstop.record)
    generalize s.unmarked.stopJob = v at *
    obtain ⟨hedit, hholds, hsource⟩ :=
      State.stopLaws_taken (.waitPass .recordStop .done) w hstop.edit hstop.holds hstop.source
    have hcoder := hstop.coder
    rw [State.leaveHalf_coder_congr (s := s) (t := s.unmarked) rfl] at hcoder
    obtain ⟨hkeeps, -, hother, -, hnone⟩ := s.leaveHalf_keeps
    obtain ⟨hstart, hwait⟩ := s.leaveHalf_close
    have hslots : v.coder.slots = s.leaveHalf.coder.slots := (congrArg RecordCoder.slots hcoder :)
    have hclose : v.coder.close = s.leaveHalf.coder.close := (congrArg RecordCoder.close hcoder :)
    rw [← hslots] at hstart hwait hother
    rw [← hclose] at hstart hwait hnone
    have hjob' : v.coder.job = if v.coder.unfinished then .stopping else .idle := (congrArg RecordCoder.job hcoder :)
    refine ⟨_, congrArg Host.Outcome.next hw, ?_, hjob', ?_, hstart, hwait, hnone, hother,
      hedit, hholds, hsource, (congrArg DecodeService.mix hstop.dec :), (congrArg DecodeService.rateMark hstop.dec :),
      ?_, ?_, hstop.rep.flags.1, ?_⟩
    · simp [hframe, CommandUnit.takenMarked]
    · refine hcoder.trans ?_
      rw [hkeeps, ← hjob', ← hslots, ← hclose]
      rfl
    · simp [Marks.union, hstop.record]
    · simp [Marks.union, hstop.editMark]
    · simp [State.sameBut_iff, State.agree, hframe]

/-- Settles O15: the laws of a stop again, with the command quiet where no field of a record moves (R171). -/
theorem softResetRecordRests : Obligations.SoftResetRecordRests := by
  intro s h
  have hreset := s.unmarked.resetRecord_reset
  have hframe := s.unmarked.resetRecord_frame
  obtain ⟨w, hw⟩ := State.command_takenAs (k := .softReset) (owner := fun x => (x.resetRecord, .done))
    (v := s.unmarked.resetRecord) (r := .done) h rfl hframe.1
  generalize s.unmarked.resetRecord = v at *
  generalize hphase : (if v.rep.touched s.rep = true then CmdPhase.waitPass .softReset .done else .due .softReset .done) = p at *
  obtain ⟨hedit, hholds, hmon, hkeep, hset, hreentry, hstay⟩ :=
    State.stopLaws_taken p w hreset.edit hreset.holds hreset.source
  have hmarked : v.rep.touched s.rep = true → p = .waitPass .softReset .done := fun ht => by rw [← hphase, if_pos ht]
  have hquiet : v.rep.touched s.rep = false → p = .due .softReset .done := fun ht => by
    rw [← hphase, if_neg (Bool.eq_false_iff.mp ht)]
  have hcmd : ∀ q, p = q → ((s.takenAs v p).withCounts w).cmd = { s.cmd with phase := q } := fun q hq => by
    simp [hframe, hq]
  have hcoder := hreset.coder
  have heff : ((s.takenAs v p).withCounts w).effectiveOf = v.effectiveOf := State.effectiveOf_congr rfl rfl rfl rfl rfl
  have hhalf : ∀ i : Fin 2, v.coder.halves[i] = s.coder.keptBinding s.coder.halves[i] := fun i =>
    (congrArg (fun z : RecordCoder => z.halves[i]) hcoder).trans (vimap_getElem _ _ i)
  have hcopy : v.copy = { s.copy with output := v.copy.output } := by
    by_cases he : ((s.takenAs v p).withCounts w).effectiveOf = s.mon.effective
    · rw [show v.copy = s.copy from hkeep he]
    · exact (hset he).1.2.2.2.1
  refine ⟨_, congrArg Host.Outcome.next hw, fun hj => ?_, fun hu => ?_, fun hj hu ht hm ha ho hp htr hout => ?_, ?_,
    hreset.rep.flags.1, hmon, hkeep, fun he => ?_, hreentry, hstay, (congrArg RecordCoder.job hcoder :),
    (congrArg RecordCoder.latch hcoder :), (congrArg RecordCoder.curHalf hcoder :), (congrArg RecordCoder.close hcoder :),
    (congrArg RecordCoder.mode hcoder :), (congrArg RecordCoder.r hcoder :), (congrArg RecordCoder.ringPtr hcoder :),
    (congrArg RecordCoder.sticky hcoder :), fun k => ?_, fun i k f hb hs => ?_, fun i k f hb hs => ?_, fun i f hb => ?_,
    hedit, hholds.1, hholds.2.1, fun c => ⟨?_, ?_⟩, (congrArg DecodeService.rateMark hreset.dec :),
    (congrArg CopyControl.contrib hcopy :), (congrArg CopyControl.recording hcopy :),
        (congrArg CopyControl.sealed hcopy :), ?_⟩
  · have hrecord := hreset.record (by simpa [RecordCoder.restless] using .inl hj)
    refine ⟨hcmd _ (hmarked (ReportUnit.touched_of_record hrecord)), ?_, ?_⟩
    · simp [Marks.union, hrecord]
    · simp [Marks.union, hreset.editMark hj]
  · have hrecord := hreset.record (by simp [RecordCoder.restless, hu])
    exact ⟨hcmd _ (hmarked (ReportUnit.touched_of_record hrecord)), by simp [Marks.union, hrecord]⟩
  · have hrep := hreset.quiet (by simp [RecordCoder.restless, hj, hu]) ht hm (by
      simp only [EditEngine.shown, Prod.mk.injEq]
      exact ⟨ha, ho, hp, htr, hout⟩)
    refine ⟨hcmd _ (hquiet (by rw [hrep]; exact s.touched_unmarked)), ?_⟩
    simp [hrep, Marks.union, Marks.clear]
  · cases ht : v.rep.touched s.rep with
    | true => exact .inl (hcmd _ (hmarked ht))
    | false => exact .inr (hcmd _ (hquiet ht))
  · have hplay : v.rep.marks.playback = true := by
      obtain ⟨-, -, hchanged, -⟩ := hreset.source
      exact (hchanged (heff ▸ he)).2
    exact ⟨(hset he).1, hcmd _ (hmarked (ReportUnit.touched_of_playback hplay)), (hset he).2⟩
  · exact ((congrArg (fun z : RecordCoder => z.slots[k]) hcoder).trans (vimap_getElem _ _ k)).trans (RecSlot.abandon_eq _)
  · exact (hhalf i).trans ((congrArg _ hb).trans ((s.coder.keptBinding_cases k f).1 hs))
  · exact (hhalf i).trans ((congrArg _ hb).trans ((s.coder.keptBinding_cases k f).2.1 hs))
  · exact (hhalf i).trans ((congrArg _ hb).trans (s.coder.keptBinding_cases 0 f).2.2)
  · exact (congrArg (fun z : DecodeService => z.mix[c]) hreset.dec).trans (by simp)
  · exact (congrArg (fun z : RecordCoder => z.source[c]) hcoder).trans (by simp)
  · simp [State.sameBut_iff, State.agree, hframe]

/-- Settles O19, clause by clause: what the frame begun or the range end leaves, and then the absorbed write. -/
theorem overrunAndRangeEnd : Obligations.OverrunAndRangeEnd := by
  refine ⟨fun s a v hport hreg hjob hcur hprot hslot => ?_, fun s a v cur hport hreg hjob hcur hne hclosing hr => ?_,
    fun s a v cur hport hreg hjob hcur hne hclosing hr => ?_, fun s a v hport hreg hjob => ?_⟩
  · intro o
    have e : ∀ t, s.freshAccesses.recordWrite t o v =
        (((s.freshAccesses.withCurHalf (halfOf o)).recordOverrun.bindHalf (halfOf o) (.absorbed s.coder.r)).echoIn
          (chanIn o) v).treat .absorbed := fun t => by
      rw [State.recordWrite_first (by simpa using hjob) t v (by simpa using hcur),
        State.beginFrame_overrun _ (by simpa using hprot) (by simpa using hslot),
        State.landWrite_absorbed (f := s.coder.r) (by simp [vset_same, -Fin.getElem_fin])]
      simp
    obtain ⟨w, hw⟩ := State.exec_recordWindowWrite_eq hport hreg e (by simpa using hport.2.1)
    refine ⟨_, hw, rfl, ?_, ?_, ?_, ?_, fun c hc => ?_, ?_, ?_⟩
    · simp
    · simp
    · simp [State.recordOverrun_isSet]
    · simp
    · simp [hc]
    · simp
    · simp [State.sameBut_iff, State.agree]
  · have e : ∀ t, s.freshAccesses.recordWrite t (s.bus.offset 0 a.toNat) v =
        ((s.received (chanIn (s.bus.offset 0 a.toNat)) v).ended.stopJob).treat .dropped := fun t => by
      rw [State.recordWrite_turnover (by simpa using hjob) t v (by simpa using hcur) hne (by simpa using hclosing)]
      exact if_pos hr
    obtain ⟨w, hw⟩ := State.exec_recordWindowWrite_eq hport hreg e (by simpa using hport.2.1)
    have hstop := (s.received (chanIn (s.bus.offset 0 a.toNat)) v).ended.stopJob_stopped
    have hframe := (s.received (chanIn (s.bus.offset 0 a.toNat)) v).ended.stopJob_frame
    generalize (s.received (chanIn (s.bus.offset 0 a.toNat)) v).ended.stopJob = t at *
    obtain ⟨hcoder, hedit, hholds, hsource, hset⟩ := State.stopped_ended hstop
    rw [State.leaveHalf_coder_congr (s := s) (t := s.received _ v) rfl] at hcoder
    obtain ⟨hclosing', hother⟩ := s.leaveHalf_slots
    have hkeeps := s.leaveHalf_keeps.1
    have hslots : t.coder.slots = s.leaveHalf.coder.slots := (congrArg RecordCoder.slots hcoder :)
    rw [← hslots] at hclosing' hother
    refine ⟨_, hw, rfl, hset, ?_, (congrArg RecordCoder.job hcoder :), (congrArg RecordCoder.latch hcoder :), hclosing',
      hother, State.editStopped_congr hedit rfl rfl, State.mixHoldsLapsed_congr hholds rfl rfl rfl rfl id,
          State.sourceJudged_congr hsource rfl rfl rfl ?_ rfl rfl rfl rfl id fun b hb => hb, ?_⟩
    · exact (congrArg RecordCoder.r hcoder :).trans ((congrArg RecordCoder.r hkeeps :).trans hr)
    · exact State.effectiveOf_congr rfl rfl rfl rfl rfl
    · simp [State.sameBut_iff, State.agree, hframe]
  · intro o begins
    obtain ⟨hclosing', hother⟩ := s.leaveHalf_slots
    have hturn := s.freshAccesses.turned_coder
    have hrep := s.freshAccesses.turned_rep
    have hframe := s.freshAccesses.turned_frame
    have e : ∀ t, s.freshAccesses.recordWrite t o v =
        (s.freshAccesses.turned.beginFrame (halfOf o)).landWrite t (halfOf o) (pairIn o) (chanIn o) v := fun t => by
      rw [State.recordWrite_turnover (by simpa using hjob) t v (by simpa using hcur) hne (by simpa using hclosing),
        State.turnover_next (by simpa using hr)]
    rw [State.leaveHalf_coder_congr (s := s) (t := s.freshAccesses) rfl] at hturn
    have hfree := s.leaveHalf_keeps.2.2.2.1
    generalize s.freshAccesses.turned = u at *
    refine ⟨fun hprot hslot => ?_, fun hmode hprot => ?_⟩
    · have e' : ∀ t, s.freshAccesses.recordWrite t o v =
          (((u.withCurHalf (halfOf o)).recordOverrun.bindHalf (halfOf o) (.absorbed (s.coder.r + 1))).echoIn
            (chanIn o) v).treat .absorbed := fun t => by
        rw [e, State.beginFrame_overrun _ (by simpa [hturn, hframe] using hprot) (fun h => hslot ((hfree _).mp
            ((congrArg (fun z : RecordCoder => z.slots[z.ringPtr].state) hturn).symm.trans h))),
          State.landWrite_absorbed (f := s.coder.r + 1) (by simp [hturn, vset_same, -Fin.getElem_fin])]
        simp [hturn]
      obtain ⟨w, hw⟩ := State.exec_recordWindowWrite_eq hport hreg e' (by simpa [hframe] using hport.2.1)
      refine ⟨_, hw, ⟨rfl, ?_, ?_, ?_, ?_, ?_, ?_, ?_, fun k hk hc => ?_, fun k hk => ?_, ?_, ?_⟩, ?_, ?_, ?_,
          fun c hc => ?_, ?_⟩
      · simp [hframe]
      · simp [hturn]
      · simp [hturn]
      · simp [hturn]
      · simp [hturn]
      · simp [hturn]
      · simpa [hturn] using hjob
      · simpa [hturn] using hclosing' k hk hc
      · simpa [hturn] using hother k hk
      · simp [hframe]
      · exact State.recordOverrun_record hrep.2
      · simp [hturn]
      · simp [State.recordOverrun_isSet]
      · simp [hframe]
      · simp [hframe, hc]
      · simp [State.sameBut_iff, State.agree, hframe]
    · have e' : ∀ t, s.freshAccesses.recordWrite t o v =
          ((((u.withCurHalf (halfOf o)).bindHalf (halfOf o) (.absorbed (s.coder.r + 1))).raise .protectedFrame).echoIn
            (chanIn o) v).treat .absorbed := fun t => by
        rw [e, State.beginFrame_protected _ (by simpa [hturn] using hmode) (by simpa [hturn, hframe] using hprot),
          State.landWrite_absorbed (f := s.coder.r + 1) (by simp [hturn, vset_same, -Fin.getElem_fin])]
        simp [hturn]
      obtain ⟨w, hw⟩ := State.exec_recordWindowWrite_eq hport hreg e' (by simpa [hframe] using hport.2.1)
      refine ⟨_, hw, ⟨rfl, ?_, ?_, ?_, ?_, ?_, ?_, ?_, fun k hk hc => ?_, fun k hk => ?_, ?_, ?_⟩, ?_, ?_, ?_, ?_⟩
      · simp [hframe]
      · simp [hturn]
      · simp [hturn]
      · simp [hturn]
      · simp [hturn]
      · simp [hturn]
      · simpa [hturn] using hjob
      · simpa [hturn] using hclosing' k hk hc
      · simpa [hturn] using hother k hk
      · simp [hframe]
      · simp [hrep.2]
      · simp [hturn]
      · simp
      · simp [hrep.1.flags]
      · simp [State.sameBut_iff, State.agree, hframe]
  · intro o
    refine ⟨fun hcur hmode hprot => ?_, fun f hcur hhalf => ?_⟩
    · have e : ∀ t, s.freshAccesses.recordWrite t o v =
          ((((s.freshAccesses.withCurHalf (halfOf o)).bindHalf (halfOf o) (.absorbed s.coder.r)).raise
            .protectedFrame).echoIn (chanIn o) v).treat .absorbed := fun t => by
        rw [State.recordWrite_first (by simpa using hjob) t v (by simpa using hcur),
          State.beginFrame_protected _ (by simpa using hmode) (by simpa using hprot),
          State.landWrite_absorbed (f := s.coder.r) (by simp [vset_same, -Fin.getElem_fin])]
        simp
      obtain ⟨w, hw⟩ := State.exec_recordWindowWrite_eq hport hreg e (by simpa using hport.2.1)
      refine ⟨_, hw, rfl, ?_, ?_, rfl, ?_, ?_, ?_⟩
      · simp
      · simp
      · simp
      · simp
      · simp [State.sameBut_iff, State.agree]
    · have e : ∀ t, s.freshAccesses.recordWrite t o v = (s.freshAccesses.echoIn (chanIn o) v).treat .absorbed :=
        fun t => by
          rw [State.recordWrite_current (by simpa using hjob) t v (by simpa using hcur),
            State.landWrite_absorbed (f := f) (by simpa using hhalf)]
      obtain ⟨w, hw⟩ := State.exec_recordWindowWrite_eq hport hreg e (by simpa using hport.2.1)
      refine ⟨_, hw, rfl, ?_, ?_, ?_⟩
      · simp
      · simp
      · simp [State.sameBut_iff, State.agree]

/-- Settles O18: the frame is begun in the state before the write or in the one that the turnover leaves, and its first word is
stored in its slot. -/
theorem turnoverOpensNextFrame : Obligations.TurnoverOpensNextFrame := by
  intro s a v hwf hport hreg hjob hfree o n b p x opens assembles inserts
  have hopens : ∀ {y t : State} {f : Nat} (w : WaitCounts), s.Begins y f →
      y.FrameWritten t n (halfOf o) (pairIn o) (chanIn o) v → opens f (t.withCounts w) := fun {y t f} w hb ht => by
    obtain ⟨hr, -, hmode, hjob', hhalves, -⟩ := hb.fields
    obtain ⟨-, -, hmon, hcopy, hset, hmem, htable⟩ := hb.parts
    have hrec : ∀ off, y.recAddr n off = s.recAddr n off := State.recAddr_congr htable n
    refine ⟨ht.r.trans hr, (ht.job.trans hjob').trans hjob,
      ht.mode.trans hmode, ht.curHalf, ht.halves.trans ?_, ht.ringPtr, ?_, ?_, ?_,
      fun b' p' _ _ => ht.written b' p', ht.recPos.trans (by rw [hr]), ht.recording.trans (by rw [hcopy]),
      ht.echo.trans (by rw [hmon]), fun a' ha hm => (ht.mem a' ha ?_).trans (State.peek_congr hmem a')⟩
    · rw [hr, hhalves]
    · exact (congrArg RecSlot.state ht.slot :)
    · exact (congrArg RecSlot.frame ht.slot :).trans hr
    · exact (congrArg RecSlot.rate ht.slot :).trans (by simp [State.freshSlot, hset])
    · rwa [hrec, hrec]
  have hassembles : ∀ {y : State} {f : Nat}, s.Begins y f → s.coder.mode = .assemble → s.copy.isProtected f = false →
      (∀ t, s.freshAccesses.recordWrite t o v = (y.beginFrame (halfOf o)).landWrite t (halfOf o) (pairIn o) (chanIn o) v) →
      ∃ t, exec (.recordWindowWrite a v) s = .next t ∧ assembles f t ∧ t.coder.close = y.coder.close ∧
        ∀ j : Fin 4, j ≠ n → t.coder.slots[j] = y.coder.slots[j] := fun {y f} hb hm hp e => by
    obtain ⟨hr, hring, hmode, -, -, hlatch⟩ := hb.fields
    obtain ⟨-, hdec, -, hcopy, -, hmem, -⟩ := hb.parts
    have hop := hb.opened (halfOf o) fun _ => hp
    obtain ⟨w, hw⟩ := hb.exec hport hreg hwf (fun _ => hp) (fun h => absurd (hm.symm.trans h) (by decide)) e
    have hwritten := hop.written (pairIn o) (chanIn o) v (by rw [hmem]; exact hwf) (pairIn_lt o)
    obtain ⟨hl, hmix, hdata, hset⟩ := hop.assembled (pairIn o) (chanIn o) v (by rw [hmem]; exact hwf) (pairIn_lt o)
      (hmode.trans hm) .protectedFrame (by decide) (by decide)
    generalize ((y.beginFrame (halfOf o)).echoIn (chanIn o) v).wordWrite y.coder.ringPtr (pairIn o) (chanIn o) v = t at *
    rw [hring] at hwritten hdata
    refine ⟨_, hw, ⟨hopens w hb hwritten, hl.trans hlatch, ?_, ?_, ?_, hmix.trans (by rw [hdec]), ?_⟩, hwritten.close,
        hwritten.slots⟩
    · exact (congrArg RecSlot.oldOnly hwritten.slot :).trans (by rw [y.freshSlot_oldOnly, hmode, hm]; rfl)
    · refine hdata.trans ?_
      rw [hcopy]
      rfl
    · refine hset.trans ?_
      rw [hcopy, hr, hp, Bool.false_and, Bool.or_false]
      exact hb.causes _
    · exact ((hb.frame.trans hwritten.frame).narrow (by simp)).withCounts (by simp) w
  have hinserts : ∀ {y : State} {f : Nat}, s.Begins y f → s.coder.mode = .insert → s.tape.evaluating = false →
      (∀ t, s.freshAccesses.recordWrite t o v = (y.beginFrame (halfOf o)).landWrite t (halfOf o) (pairIn o) (chanIn o) v) →
      ∃ t, exec (.recordWindowWrite a v) s = .next t ∧ inserts f t ∧ t.coder.close = y.coder.close ∧
        ∀ j : Fin 4, j ≠ n → t.coder.slots[j] = y.coder.slots[j] := fun {y f} hb hm hev e => by
    obtain ⟨hr, hring, hmode, -, -, hlatch⟩ := hb.fields
    obtain ⟨-, -, -, hcopy, -, hmem, -⟩ := hb.parts
    have hasm : s.coder.mode = .assemble → s.copy.isProtected f = false := fun h => absurd (hm.symm.trans h) (by decide)
    have hop := hb.opened (halfOf o) hasm
    obtain ⟨w, hw⟩ := hb.exec hport hreg hwf hasm (fun _ => hev) e
    have hwritten := hop.written (pairIn o) (chanIn o) v (by rw [hmem]; exact hwf) (pairIn_lt o)
    obtain ⟨⟨l, hl, hlr, hln, hold, hdata⟩, hset⟩ := hop.inserted (pairIn o) (chanIn o) v (by rw [hmem]; exact hwf)
      (pairIn_lt o) (hmode.trans hm) hlatch .protectedFrame (by decide) (by decide) (by decide)
    generalize ((y.beginFrame (halfOf o)).echoIn (chanIn o) v).wordWrite y.coder.ringPtr (pairIn o) (chanIn o) v = t at *
    rw [hring] at hwritten hdata
    rw [hcopy, hr] at hset hdata
    refine ⟨_, hw, ⟨hopens w hb hwritten, ?_, fun hp => hset.trans ?_, fun hp => hset.trans ?_,
      ⟨l, hl, hlr.trans hr, hln, hold, hdata⟩, ?_⟩, hwritten.close, hwritten.slots⟩
    · exact (congrArg RecSlot.oldOnly hwritten.slot :).trans (by rw [y.freshSlot_oldOnly, hmode, hm, hr, hcopy]; rfl)
    · rw [hp]
      simp
    · rw [hp, Bool.false_and, Bool.or_false]
      exact hb.causes _
    · exact ((hb.frame.trans hwritten.frame).narrow (by simp)).withCounts (by simp) w
  have hne : ∀ k, s.coder.currentOpen = some k → k ≠ n := fun k hk e => by
    have := RecordCoder.currentOpen_opened hk
    rw [e, hfree] at this
    cases this
  have hturned : ∀ cur, s.coder.curHalf = some cur → halfOf o ≠ cur → s.coder.halfClosing (halfOf o) = false →
      s.coder.r < 1048575 → ∀ t, s.freshAccesses.recordWrite t o v =
        (s.freshAccesses.turned.beginFrame (halfOf o)).landWrite t (halfOf o) (pairIn o) (chanIn o) v :=
    fun cur hcur hne hclosing hr t => by
      rw [State.recordWrite_turnover (by simpa using hjob) t v (by simpa using hcur) hne (by simpa using hclosing),
        State.turnover_next (by simpa using hr)]
  have hfirst : s.coder.curHalf = none → ∀ t, s.freshAccesses.recordWrite t o v =
      (s.freshAccesses.beginFrame (halfOf o)).landWrite t (halfOf o) (pairIn o) (chanIn o) v := fun hcur t =>
    State.recordWrite_first (by simpa using hjob) t v (by simpa using hcur)
  have hclose : s.freshAccesses.turned.coder.close = s.leaveHalf.coder.close := by
    rw [State.turned_coder, State.leaveHalf_coder_congr (s := s) (t := s.freshAccesses) rfl]
  have hslots : s.freshAccesses.turned.coder.slots = s.leaveHalf.coder.slots := by
    rw [State.turned_coder, State.leaveHalf_coder_congr (s := s) (t := s.freshAccesses) rfl]
  refine ⟨fun cur hcur hcurne hclosing hr =>
      ⟨fun k hmode hprot hk hnone => ?_, fun hmode hprot hk => ?_, fun hmode heval => ?_⟩,
    fun hcur hlatch => ⟨fun hmode hprot => ?_, fun hmode heval => ?_⟩⟩
  · obtain ⟨t, ht, ha, hc, hs⟩ := hassembles (State.begins_turned hfree) hmode hprot (hturned cur hcur hcurne hclosing hr)
    obtain ⟨h1, h2⟩ := s.leaveHalf_close.1 k hk hnone
    refine ⟨t, ht, ha, ?_, hc.trans (hclose.trans h2)⟩
    rw [hs k (hne k hk), hslots, h1]
  · obtain ⟨t, ht, ha, hc, hs⟩ := hassembles (State.begins_turned hfree) hmode hprot (hturned cur hcur hcurne hclosing hr)
    rw [State.leaveHalf_none hk] at hclose hslots
    exact ⟨t, ht, ha, hc.trans hclose, fun j hj => (hs j hj).trans (by rw [hslots])⟩
  · obtain ⟨t, ht, ha, hc, hs⟩ := hinserts (State.begins_turned hfree) hmode heval (hturned cur hcur hcurne hclosing hr)
    refine ⟨t, ht, ha, fun k hk hnone => ?_⟩
    obtain ⟨h1, h2⟩ := s.leaveHalf_close.1 k hk hnone
    refine ⟨?_, hc.trans (hclose.trans h2)⟩
    rw [hs k (hne k hk), hslots, h1]
  · exact hassembles (y := s.freshAccesses) (State.begins_first hlatch hfree) hmode hprot (hfirst hcur)
  · exact hinserts (y := s.freshAccesses) (State.begins_first hlatch hfree) hmode heval (hfirst hcur)

/-- Settles O20: a service that holds its transaction leaves it something to wait for, so a hold lasts; and an event does not see
what is held, so the transaction that it frees is served from the state it leaves where nothing is held. Clause by clause. -/
theorem transactionsAreHeld : Obligations.TransactionsAreHeld := by
  refine ⟨fun s a v hop hn => ?_, fun s a hop hn hg hc => ?_, fun s a v cur hp hr hj hc hn hx => ?_,
    fun s a v hp hr hj hm he => ⟨fun k f hc hb hs hl => ?_, fun hc hl hf => ?_⟩,
    fun s a hp hr hd he => ⟨fun hl => ?_, fun k rest hl hrun hq hb => ?_⟩, fun s x a hx hr => ?_,
    fun s u x e hop hs hu hg => ⟨fun hk hc he hu' => ?_, fun hk hv he hu' => ?_, fun hk hv he hu' hw hr hl => ?_,
      fun hk hv he hu' hw hr hl hb => ?_, fun hk hv he hu' => ?_, fun hk hv he hu' => ?_, fun hk he hgr hsame => ?_⟩⟩
  -- RESET and INIT
  · obtain ⟨w, hw⟩ := State.arrive_init hop hn { write := true, addr := a, data := v }
    exact ⟨_, congrArg Host.Outcome.next hw, by simp [State.sameBut_iff, State.agree], by simp, by simp, by simp,
      by simp [hn.2], by simp⟩
  -- the starvation guard
  · obtain ⟨w, hw⟩ := State.arrive_guard hop hn hg hc { write := false, addr := a, data := 0 }
    exact ⟨_, congrArg Host.Outcome.next hw, by simp [State.sameBut_iff, State.agree], by simp [hop], by simp, by simp,
      by simp [hn.2], by simp⟩
  -- the half's slot CLOSING
  · obtain ⟨t, ht, h⟩ := State.held_closing hp v hr hj hc hn hx
    exact ⟨t, ht, h.frame, h.held, h.waiting.trans hp.2.2.1, h.op, h.table, h.valid⟩
  -- an old-audio fetch in the current half
  · obtain ⟨t, ht, h⟩ := State.held_fetch hp v hr hj hm he hc hb hs hl
    exact ⟨t, ht, ⟨h.held, h.waiting.trans hp.2.2.1, h.op, h.table, h.valid⟩, h.frame⟩
  -- a frame's first write
  · obtain ⟨t, ht, h, hcoder⟩ := State.held_first hp v hr hj hm he hc hl hf
    have hslot : t.coder.slots[s.coder.ringPtr] = s.freshSlot :=
      (congrArg (fun z : RecordCoder => z.slots[s.coder.ringPtr]) hcoder).trans (vset_same _ _ _)
    exact ⟨t, ht, ⟨h.held, h.waiting.trans hp.2.2.1, h.op, h.table, h.valid⟩, (congrArg RecordCoder.curHalf hcoder :),
      (congrArg RecordCoder.halves hcoder :), (congrArg RecSlot.state hslot :), (congrArg RecSlot.frame hslot :),
      (congrArg RecordCoder.ringPtr hcoder :), (congrArg RecordCoder.latch hcoder :).trans hl, h.frame⟩
  -- a decode request
  · obtain ⟨t, ht, h⟩ := State.held_decode hp hr hd he hl
    exact ⟨t, ht, ⟨h.held, h.waiting.trans hp.2.2.1, h.op, h.table, h.valid⟩, h.frame⟩
  -- a turnover that binds the queue's head
  · obtain ⟨t, ht, h, hmon⟩ := State.held_turnover hp hr hd he hl hrun hq hb
    exact ⟨t, ht, ⟨h.held, h.waiting.trans hp.2.2.1, h.op, h.table, h.valid⟩, hmon, h.frame⟩
  -- behind a held transaction
  · obtain ⟨w, hw⟩ := State.arrive_behind hx hr { write := false, addr := a, data := 0 }
    exact ⟨_, congrArg Host.Outcome.next hw, by simp [State.sameBut_iff, State.agree], by simp [hx], by simp, by simp,
      by simp, by simp⟩
  -- released by the close's end or SOFT_RESET RECORD
  · exact State.released_closing hop hs hu hg hk he hc hu'
  -- a write that waited for an evaluation
  · exact State.released_decodeWrite hop hs hu hg hk he hv hu'
  -- a decode request at the evaluation's end
  · obtain ⟨m, h⟩ := State.ended_evaluationEnd_of hop hs he hu hv hu'
    exact h.decodeRead hs hg hk hu' hw hr hl
  -- a turnover at the evaluation's end
  · obtain ⟨m, h⟩ := State.ended_evaluationEnd_of hop hs he hu hv hu'
    exact h.turnover hs hg hk hu' hw hr hl hb
  -- a turnover abandoned
  · obtain ⟨m, h, hb, -⟩ := State.ended_playback hop hs (by simp [hk]) he hu hv hu'
    obtain ⟨t, w, ht, hd⟩ := h.turnoverAbandoned hk hu' hb
    exact ⟨_, ht, hd.held.trans (h.port hg).2.1, hd.treatment, hd.lastHalf.trans hb.lastHalf, fun j => by
      simp [hd.halves, hb.halves], hd.queue.trans hb.queue, hd.raised, hd.underruns, hd.mute, hd.input⟩
  -- a decode request concealed
  · intro c d
    obtain ⟨m, h, -, hlast⟩ := State.ended_playback hop hs (by simp [hk]) he hu hv hu'
    obtain ⟨t, w, ht, hc⟩ := h.decodeReadAbandoned hk hu'
    refine ⟨_, ht, hc.held.trans (h.port hg).2.1, hc.treatment, hc.accesses, hc.data, hc.dec,
      fun hr => hc.data.trans (Ctx.deliver_lost_zero (hlast hr c) _), ?_, ?_, fun k h1 h2 => ?_, hc.raised, ?_⟩
    · refine (hc.counters .wordsHeld).trans ?_
      simp [d, c, State.concealment]
    · refine (hc.counters .wordsMuted).trans ?_
      simp [d, c, State.concealment]
    · refine (hc.counters k).trans ?_
      simp [h1, h2]
    · exact ((State.sameBut.trans (ps := [.port]) (by simp [State.sameBut_iff, State.agree]) hc.frame).narrow
        (by simp)).withCounts (by simp) w
  -- released by the guard
  · subst he
    obtain ⟨m, h⟩ := State.ended_grant hop hs hu hgr hsame
    exact h.guard hs hg hk

end

section
/-! PROOFS. What each operation of the off-tape assembler makes of it, said once (R42 to R57). -/

namespace Sys2Proof.Machine

@[simp] theorem State.lockStep_tape (s : State) (g : Nat) (a : Option Nat) : (s.lockStep g a).tape =
    { s.tape with lock := (s.tape.lock.step s.settings.quorum s.settings.flywheel g a).1 } := by
  simp [State.lockStep]

/-- The arming that the test of R57 leaves. -/
def Assembler.armedAfter (t : Assembler) (thresh : Nat) : Bool :=
  if thresh < t.window.sum ∧ t.lock.state = .locked ∧ t.rateArmed = true then false
  else t.rateArmed || decide (2 * t.window.sum ≤ thresh)

@[simp] theorem State.rateTest_tape (s : State) :
    s.rateTest.tape = { s.tape with rateArmed := s.tape.armedAfter s.settings.thresh } := by
  unfold State.rateTest Assembler.armedAfter Assembler.windowSum
  split
  · simp
  · split
    · next h => simp [show 2 * s.tape.window.sum ≤ s.settings.thresh by omega]
    · next h => simp [show ¬2 * s.tape.window.sum ≤ s.settings.thresh by omega]

/-- The off-tape assembler with a count pushed into its window (R56). -/
def Assembler.pushed (t : Assembler) (w d : Nat) : Assembler := { t with window := pushWindow t.window w d }

@[simp] theorem State.pushDamage_tape (s : State) (d : Nat) : (s.pushDamage d).tape =
    { s.tape.pushed s.settings.window d with
      rateArmed := (s.tape.pushed s.settings.window d).armedAfter s.settings.thresh } := by
  simp [State.pushDamage, Assembler.pushed]

/-- The judgement leaves the slot EVALUATING until it ends (R48). -/
theorem TapeSlot.judged_state (x : TapeSlot) (l : Lock) (rate : Nat) (st : CopyStatus) :
    (x.judged l rate st).state = x.state := by
  unfold TapeSlot.judged
  dsimp only
  repeat' split
  all_goals rfl

theorem State.takeEvaluation_tape (s : State) (k : Fin 4) (rest : List (Fin 4)) :
    let y := s.tape.slots[k].judged s.tape.lock s.tape.carriedRate s.tape.carriedStatus
    (s.takeEvaluation k rest).tape = { s.tape with
      slots := vmod s.tape.slots k fun x => x.judged s.tape.lock s.tape.carriedRate s.tape.carriedStatus
      evalQueue := rest
      eval := some
        { slot := k, discard := y.discarded s.tape.lock
          damage := countStatus y.blocks.toList .bad + countStatus y.blocks.toList .missing, done := 0 } } := by
  simp only [State.takeEvaluation, State.count_frame, State.modTape_tape, State.modTapeSlot_tape, vmod]

/-! ### The slots filled and sent to evaluation (R42, R43, R46 to R48) -/

/-- Slot `k`, if FILLING, EVALUATING and at the tail of the evaluation queue (R48). -/
def Assembler.sent (t : Assembler) (k : Fin 4) : Assembler :=
  if t.slots[k].state = .filling then
    { t with slots := vmod t.slots k fun x => { x with state := .evaluating }, evalQueue := t.evalQueue ++ [k] }
  else t

/-- Slot `k` FILLING with its block records at their reset values (R42, R43). -/
def Assembler.begun (t : Assembler) (k : Fin 4) : Assembler :=
  { t with slots := vmod t.slots k fun x => { x with state := .filling, blocks := Vector.replicate 14 BlockRec.reset } }

/-- A write of `v` to word `j` taken into the record of block `b` of slot `k` (R46, R47). -/
def Assembler.taken (t : Assembler) (k : Fin 4) (b j : Nat) (v : Word) : Assembler :=
  { t with slots := vmod t.slots k fun x =>
      { x with blocks := vput x.blocks b ((vget x.blocks b BlockRec.reset).take b j v) } }

/-- Every block of slot `k` has been judged (R47). -/
def Assembler.allSettled (t : Assembler) (k : Fin 4) : Bool := t.slots[k].blocks.toList.all fun r => r.status.settled

/-- The write taken, and the slot sent to evaluation after a word 131 that leaves every block judged (R47). -/
def Assembler.took (t : Assembler) (k : Fin 4) (b j : Nat) (v : Word) : Assembler :=
  if j = 131 ∧ (t.taken k b j v).allSettled k = true then (t.taken k b j v).sent k else t.taken k b j v

/-- The fill pointer at the next slot, the slot before it sent to evaluation (R43). -/
def Assembler.moved (t : Assembler) : Assembler := { t.sent t.fillPtr with fillPtr := nextSlot t.fillPtr }

theorem nextSlot_ne (k : Fin 4) : nextSlot k ≠ k := by
  revert k
  decide

theorem Assembler.sent_slot_other (t : Assembler) {j k : Fin 4} (h : j ≠ k) : (t.sent k).slots[j] = t.slots[j] := by
  unfold Assembler.sent
  split
  · exact vmod_other _ _ h
  · rfl

@[simp] theorem State.sendToEvaluation_tape (s : State) (k : Fin 4) : (s.sendToEvaluation k).tape = s.tape.sent k := by
  unfold State.sendToEvaluation Assembler.sent
  split <;> rfl

@[simp] theorem State.beginFill_tape (s : State) (k : Fin 4) : (s.beginFill k).tape = s.tape.begun k := rfl

/-- The word written to memory and taken into its block's record, before the slot is tested (R42, R46). -/
def State.wordTaken (s : State) (k : Fin 4) (b j : Nat) (v : Word) : State :=
  let x := vget s.tape.slots[k].blocks b BlockRec.reset
  let s1 := ((s.upPoke (s.tapeAddr k (slotOffset b j)) v).treat .passed).modTapeSlot k fun y =>
    { y with blocks := vput y.blocks b (x.take b j v) }
  if x.status = (x.take b j v).status then s1 else s1.markPlayback

theorem State.takeTapeWord_eq (s : State) (k : Fin 4) (b j : Nat) (v : Word) : s.takeTapeWord k b j v =
    if j = 131 ∧ (s.wordTaken k b j v).tape.allSettled k = true then (s.wordTaken k b j v).sendToEvaluation k
    else s.wordTaken k b j v := rfl

theorem State.wordTaken_tape (s : State) (k : Fin 4) (b j : Nat) (v : Word) :
    (s.wordTaken k b j v).tape = s.tape.taken k b j v := by
  unfold State.wordTaken
  dsimp only
  split <;> simp [Assembler.taken, vmod]

@[simp] theorem State.takeTapeWord_tape (s : State) (k : Fin 4) (b j : Nat) (v : Word) :
    (s.takeTapeWord k b j v).tape = s.tape.took k b j v := by
  rw [State.takeTapeWord_eq, apply_ite State.tape, State.sendToEvaluation_tape, State.wordTaken_tape]
  rfl

@[simp] theorem State.advanceFill_tape (s : State) (b j : Nat) (v : Word) :
    (s.advanceFill b j v).tape =
      (s.tape.moved.begun (nextSlot s.tape.fillPtr)).took (nextSlot s.tape.fillPtr) b j v := by
  simp [State.advanceFill, Assembler.moved]

@[simp] theorem State.beginOverrun_tape (s : State) :
    s.beginOverrun.tape = { s.tape.sent s.tape.fillPtr with wait := some 0, sticky := true } := by
  simp [State.beginOverrun]

theorem mem_slotNumbers (k : Fin 4) : k ∈ slotNumbers := by
  revert k
  decide

/-! ### The end of an evaluation (R51) -/

@[simp] theorem State.loseFrame_tape (s : State) (k : Fin 4) : (s.loseFrame k).tape =
    { s.tape with slots := vmod s.tape.slots k fun x => { x with state := .free } } := by
  simp [State.loseFrame]

@[simp] theorem State.acceptFrame_tape (s : State) (k : Fin 4) : (s.acceptFrame k).tape = { s.tape with
    slots := vmod s.tape.slots k fun x => { x with state := .complete }
    carriedRate := if 1 ≤ s.tape.slots[k].good then s.tape.slots[k].rate else s.tape.carriedRate
    carriedStatus := if 1 ≤ s.tape.slots[k].good then s.tape.slots[k].status else s.tape.carriedStatus } := by
  unfold State.acceptFrame
  dsimp only
  split <;> simp

/-- Some other COMPLETE slot has slot `k`'s address (R51). -/
theorem Assembler.duplicates_iff (t : Assembler) (k : Fin 4) : t.duplicates k = true ↔
    ∃ j : Fin 4, j ≠ k ∧ t.slots[j].state = .complete ∧ t.slots[j].frame = t.slots[k].frame := by
  simp only [Assembler.duplicates, List.any_eq_true, Bool.and_eq_true, bne_iff_ne, beq_iff_eq, and_assoc]
  exact ⟨fun ⟨j, _, h⟩ => ⟨j, h⟩, fun ⟨j, h⟩ => ⟨j, mem_slotNumbers j, h⟩⟩

/-! ### Gap frames (R44) -/

@[simp] theorem State.gapSteps_tape (n : Nat) (s : State) : (s.gapSteps n).tape = { s.tape with
    lock := (fun x => (x.step s.settings.quorum s.settings.flywheel 0 none).1)^[n] s.tape.lock } := by
  induction n generalizing s with
  | zero => rfl
  | succ n ih => simp [State.gapSteps, ih]

theorem State.gapPushes_tape (n : Nat) (s : State) : (s.gapPushes n).tape = { s.tape with
    window := (fun w => pushWindow w s.settings.window 14)^[n] s.tape.window
    rateArmed := (s.gapPushes n).tape.rateArmed } := by
  induction n generalizing s with
  | zero => rfl
  | succ n ih =>
    rw [State.gapPushes, ih]
    simp [Assembler.pushed]

/-- The end of an overrun wait, before the fill pointer advances (R44). -/
def State.waitEnded (s : State) (gap : Nat) : State :=
  ((s.gapSteps gap).gapPushes gap).modTape fun t => { t with wait := none }

theorem State.waitEnded_tape (s : State) (gap : Nat) : (s.waitEnded gap).tape = { s.tape with
    wait := none
    lock := (fun x => (x.step s.settings.quorum s.settings.flywheel 0 none).1)^[gap] s.tape.lock
    window := (fun w => pushWindow w s.settings.window 14)^[gap] s.tape.window
    rateArmed := (s.waitEnded gap).tape.rateArmed } := by
  unfold State.waitEnded
  rw [State.modTape_tape, State.gapPushes_tape]
  simp

/-! ### A change of a setting (R56, R57, R165) -/

theorem State.settingEffect_tape (s : State) (k : Fin 7) :
    ∃ b, (s.settingEffect k).tape = { s.tape with window := if k = 4 then [] else s.tape.window, rateArmed := b } := by
  unfold State.settingEffect
  split
  · exact ⟨_, by rw [State.rateTest_tape, State.markPlaybackIf_frame _ _ |>.2.2.1]; rfl⟩
  · split
    · exact ⟨_, s.rateTest_tape⟩
    · exact ⟨_, rfl⟩

/-- A capture of a setting moves the error-rate window and its arming alone. -/
theorem State.captureSetting_tape (s : State) (k : Fin 7) (v : Word) :
    ∃ w b, (s.captureSetting k v).tape = { s.tape with window := w, rateArmed := b } := by
  obtain ⟨b, e⟩ := (s.modSettings fun x => x.put k (settingValue k (s.settings.get k) v.toNat)).settingEffect_tape k
  unfold State.captureSetting
  dsimp only
  repeat' split
  · exact ⟨_, _, rfl⟩
  · exact ⟨_, _, e⟩
  · exact ⟨_, _, rfl⟩
  · exact ⟨_, _, e⟩

end Sys2Proof.Machine
end

section
/-! PROOFS. The laws of the off-tape slots (R48, R51): the frame addresses of COMPLETE slots are distinct, and the slots of the
evaluation engine and its queue are EVALUATING, each once. What of an assembler the laws depend on, the operations that move it,
and every other operation by the operations it is made of. -/

namespace Sys2Proof.Machine

/-! ### What the laws depend on -/

/-- The two laws of the off-tape slots together (R48, R51). -/
def Assembler.lawful (t : Assembler) : Prop := t.distinct ∧ t.evalSound

/-- The evaluation engine and its queue are as before, no slot has become COMPLETE, and none has left EVALUATING. -/
structure Assembler.Follows (t u : Assembler) : Prop where
  queue : u.evalQueue = t.evalQueue
  eval : u.eval = t.eval
  complete : ∀ k : Fin 4, u.slots[k].state = .complete →
    t.slots[k].state = .complete ∧ u.slots[k].frame = t.slots[k].frame
  evaluating : ∀ k : Fin 4, t.slots[k].state = .evaluating → u.slots[k].state = .evaluating

theorem Assembler.Follows.distinct {t u : Assembler} (h : t.Follows u) (ht : t.distinct) : u.distinct := fun j k hne hj hk => by
  obtain ⟨hj, ej⟩ := h.complete j hj
  obtain ⟨hk, ek⟩ := h.complete k hk
  rw [ej, ek]
  exact ht j k hne hj hk

theorem Assembler.Follows.lawful {t u : Assembler} (h : t.Follows u) (ht : t.lawful) : u.lawful := by
  obtain ⟨hd, hn, hq, he⟩ := ht
  refine ⟨h.distinct hd, by rwa [h.queue], fun k hk => h.evaluating k (hq k (h.queue ▸ hk)), fun j hj => ?_⟩
  rw [h.eval] at hj
  rw [h.queue]
  exact ⟨h.evaluating _ (he j hj).1, (he j hj).2⟩

/-- What leaves the slots, the evaluation engine and its queue keeps the laws. -/
theorem Assembler.lawful_congr {t u : Assembler} (hs : u.slots = t.slots) (hq : u.evalQueue = t.evalQueue)
    (he : u.eval = t.eval) (ht : t.lawful) : u.lawful :=
  Assembler.Follows.lawful ⟨hq, he, fun k h => by rw [hs] at h ⊢; exact ⟨h, rfl⟩, fun k h => by rwa [hs]⟩ ht

/-- One slot changed: it is not made COMPLETE, and it stays EVALUATING if it was. -/
theorem Assembler.follows_slot (t : Assembler) (k : Fin 4) (f : TapeSlot → TapeSlot)
    (hc : (f t.slots[k]).state = .complete → t.slots[k].state = .complete ∧ (f t.slots[k]).frame = t.slots[k].frame)
    (he : t.slots[k].state = .evaluating → (f t.slots[k]).state = .evaluating) :
    t.Follows { t with slots := vmod t.slots k f } where
  queue := rfl
  eval := rfl
  complete j hj := by
    by_cases h : j = k
    · subst h
      simp only [vmod_same] at hj ⊢
      exact hc hj
    · rw [vmod_other _ _ h] at hj ⊢
      exact ⟨hj, rfl⟩
  evaluating j hj := by
    by_cases h : j = k
    · subst h
      simp only [vmod_same]
      exact he hj
    · rwa [vmod_other _ _ h]

/-- An assembler with every slot FREE and no evaluation (R40, R59). -/
theorem Assembler.lawful_empty {t : Assembler} (hs : ∀ k : Fin 4, t.slots[k].state = .free) (hq : t.evalQueue = [])
    (he : t.eval = none) : t.lawful := by
  refine ⟨fun j _ _ hj => ?_, by rw [hq]; exact List.nodup_nil, fun k hk => ?_, fun j hj => ?_⟩
  · rw [hs] at hj; cases hj
  · rw [hq] at hk; cases hk
  · rw [he] at hj; cases hj

theorem Assembler.emptyRing_slots (t : Assembler) (k : Fin 4) :
    t.emptyRing.slots[k] = { t.slots[k] with state := .free } := by
  simp [Assembler.emptyRing, vimap]

/-! ### The operations that move it -/

section
variable {t : Assembler} (h : t.lawful)
include h

/-- A COMPLETE slot freed (R58). -/
theorem Assembler.lawful_free {k : Fin 4} (hk : t.slots[k].state = .complete) :
    Assembler.lawful { t with slots := vmod t.slots k fun x => { x with state := .free } } :=
  (t.follows_slot k _ (fun e => by cases e) fun e => by rw [hk] at e; cases e).lawful h

/-- A slot that is not EVALUATING begins to fill (R42, R43). -/
theorem Assembler.lawful_begun {k : Fin 4} (hk : t.slots[k].state ≠ .evaluating) : (t.begun k).lawful :=
  (t.follows_slot k _ (fun e => by cases e) fun e => absurd e hk).lawful h

/-- A FILLING slot joins the queue, in which it was not, since the slots of the queue are EVALUATING (R48). -/
theorem Assembler.lawful_sent (k : Fin 4) : (t.sent k).lawful := by
  unfold Assembler.sent
  split
  · next hk =>
    obtain ⟨hd, hn, hq, he⟩ := h
    have hnot : k ∉ t.evalQueue := fun hm => by rw [hq k hm] at hk; cases hk
    have hf := t.follows_slot k (fun x => { x with state := .evaluating }) (fun e => by cases e) fun _ => rfl
    have hin : (vmod t.slots k fun x => { x with state := TapeSlotState.evaluating })[k].state = .evaluating := by
      rw [vmod_same]
    refine ⟨hf.distinct hd, List.nodup_append.mpr ⟨hn, List.nodup_singleton k, ?_⟩, fun j hj => ?_, fun j hj => ?_⟩
    · rintro a ha b hb rfl
      exact hnot (List.mem_singleton.mp hb ▸ ha)
    · rcases List.mem_append.mp hj with hj | hj
      · exact hf.evaluating j (hq j hj)
      · rw [List.mem_singleton.mp hj]
        exact hin
    · obtain ⟨h1, h2⟩ := he j hj
      refine ⟨hf.evaluating _ h1, fun hm => ?_⟩
      rcases List.mem_append.mp hm with hm | hm
      · exact h2 hm
      · obtain rfl := List.mem_singleton.mp hm
        rw [hk] at h1
        cases h1
  · exact h

theorem Assembler.lawful_took (k : Fin 4) (b j : Nat) (v : Word) : (t.took k b j v).lawful := by
  have ht : (t.taken k b j v).lawful := (t.follows_slot k _ (fun e => ⟨e, rfl⟩) id).lawful h
  unfold Assembler.took
  split
  · exact Assembler.lawful_sent ht k
  · exact ht

/-- The next slot, which is FREE and so is not the one that goes to evaluation, begins to fill (R43). -/
theorem Assembler.lawful_advanced {b j : Nat} {v : Word} (hn : t.slots[nextSlot t.fillPtr].state = .free) :
    ((t.moved.begun (nextSlot t.fillPtr)).took (nextSlot t.fillPtr) b j v).lawful := by
  have hm : t.moved.lawful := Assembler.lawful_congr rfl rfl rfl (Assembler.lawful_sent h t.fillPtr)
  refine Assembler.lawful_took (Assembler.lawful_begun hm ?_) _ _ _ _
  rw [Assembler.moved, Assembler.sent_slot_other _ (nextSlot_ne _), hn]
  simp

/-- The slot whose evaluation has ended is settled; it is made COMPLETE only where no other COMPLETE slot has its address
(R51). -/
theorem Assembler.lawful_settled (he : t.eval = none) {k : Fin 4} (hk : k ∉ t.evalQueue)
    {st : TapeSlotState} (hc : st = .complete → ∀ j : Fin 4, j ≠ k → t.slots[j].state = .complete →
      t.slots[j].frame ≠ t.slots[k].frame) :
    Assembler.lawful { t with slots := vmod t.slots k fun x => { x with state := st } } := by
  obtain ⟨hd, hn, hq, -⟩ := h
  have hother : ∀ j, j ≠ k → (vmod t.slots k fun x => { x with state := st })[j] = t.slots[j] := fun j hj =>
    vmod_other _ _ hj
  have hsame : (vmod t.slots k fun x => { x with state := st })[k] = { t.slots[k] with state := st } := vmod_same _ _ _
  refine ⟨fun i j hne hi hj => ?_, hn, fun j hj => ?_, fun j hj => by rw [he] at hj; cases hj⟩
  · by_cases h1 : i = k
    · subst h1
      rw [hsame] at hi ⊢
      rw [hother j hne.symm] at hj ⊢
      exact (hc hi j hne.symm hj).symm
    · rw [hother i h1] at hi ⊢
      by_cases h2 : j = k
      · subst h2
        rw [hsame] at hj ⊢
        exact hc hj i h1 hi
      · rw [hother j h2] at hj ⊢
        exact hd i j hne hi hj
  · rw [hother j fun e => hk (e ▸ hj)]
    exact hq j hj

end

/-- The engine takes the slot at the head of its queue, which stays EVALUATING while it is judged (R48, R49). -/
theorem State.lawful_takeEvaluation {s : State} (h : s.tape.lawful) {k : Fin 4} {rest : List (Fin 4)}
    (hk : s.tape.evalQueue = k :: rest) : (s.takeEvaluation k rest).tape.lawful := by
  obtain ⟨hd, hn, hq, -⟩ := h
  rw [hk] at hn hq
  have hstate : s.tape.slots[k].state = .evaluating := hq k List.mem_cons_self
  have hjudged := s.tape.slots[k].judged_state s.tape.lock s.tape.carriedRate s.tape.carriedStatus
  have hf := s.tape.follows_slot k
    (fun x => x.judged s.tape.lock s.tape.carriedRate s.tape.carriedStatus)
    (fun e => by rw [hjudged, hstate] at e; cases e) fun e => hjudged.trans e
  obtain ⟨hnot, hn⟩ := List.nodup_cons.mp hn
  rw [State.takeEvaluation_tape]
  refine ⟨hf.distinct hd, hn, fun j hj => hf.evaluating j (hq j (List.mem_cons_of_mem k hj)), fun j hj => ?_⟩
  obtain rfl := Option.some.inj hj
  exact ⟨hf.evaluating k hstate, hnot⟩

end Sys2Proof.Machine
end

section
/-! PROOFS. The laws of the off-tape slots (R48, R51) under each operation, by the operations it is made of. -/

namespace Sys2Proof.Machine

/-! ### The off-tape assembler -/

theorem Assembler.lawful_emptyRing {t : Assembler} : t.emptyRing.lawful :=
  Assembler.lawful_empty (fun k => congrArg TapeSlot.state (t.emptyRing_slots k)) rfl rfl

section
variable {s : State} (h : s.tape.lawful)
include h

@[simp] theorem State.lawful_releaseSlot {k : Fin 4} : (s.releaseSlot k).tape.lawful := by
  unfold State.releaseSlot
  split
  · next hk => exact Assembler.lawful_free h hk.1
  · exact h

theorem State.lawful_releaseSlots (l : List (Fin 4)) : (l.foldl State.releaseSlot s).tape.lawful := by
  induction l generalizing s with
  | nil => exact h
  | cons k l ih => exact ih (State.lawful_releaseSlot h)

@[simp] theorem State.lawful_retestHolds : s.retestHolds.tape.lawful := State.lawful_releaseSlots h _

@[simp] theorem State.lawful_lockStep {g : Nat} {a : Option Nat} : (s.lockStep g a).tape.lawful := by
  rw [State.lockStep_tape]
  exact Assembler.lawful_congr rfl rfl rfl h

@[simp] theorem State.lawful_rateTest : s.rateTest.tape.lawful := by
  rw [State.rateTest_tape]
  exact Assembler.lawful_congr rfl rfl rfl h

@[simp] theorem State.lawful_pushDamage {d : Nat} : (s.pushDamage d).tape.lawful := by
  rw [State.pushDamage_tape]
  exact Assembler.lawful_congr rfl rfl rfl h

/-- A write during an overrun wait: dropped, or taken by the next slot after the gap frames, which leave the slots (R44). -/
@[simp] theorem State.lawful_waitWrite {gap k b j : Nat} {v : Word} : (s.waitWrite gap k b j v).tape.lawful := by
  unfold State.waitWrite
  dsimp only
  split
  · next hn =>
    have e := s.waitEnded_tape gap
    change ((s.waitEnded gap).advanceFill b j v).tape.lawful
    rw [State.advanceFill_tape]
    have hs : (s.waitEnded gap).tape.slots = s.tape.slots := (congrArg Assembler.slots e :)
    have hp : (s.waitEnded gap).tape.fillPtr = s.tape.fillPtr := (congrArg Assembler.fillPtr e :)
    refine Assembler.lawful_advanced (Assembler.lawful_congr hs (congrArg Assembler.evalQueue e :)
      (congrArg Assembler.eval e :) h) ?_
    simpa only [hp, hs] using hn.2
  · split
    · exact Assembler.lawful_congr rfl rfl rfl h
    · exact h

/-- A write outside an overrun wait (R42). -/
@[simp] theorem State.lawful_fillWrite {k b j : Nat} {v : Word} : (s.fillWrite k b j v).tape.lawful := by
  unfold State.fillWrite
  dsimp only
  split
  · split
    · next hp =>
      rw [State.takeTapeWord_tape]
      exact Assembler.lawful_took (Assembler.lawful_begun h (by rw [hp]; simp)) _ _ _ _
    · rw [State.takeTapeWord_tape]
      exact Assembler.lawful_took h _ _ _ _
    · simpa using h
    · simpa using h
  · split
    · split
      · next hn =>
        rw [State.advanceFill_tape]
        exact Assembler.lawful_advanced h hn
      · rw [State.beginOverrun_tape]
        exact Assembler.lawful_congr rfl rfl rfl (Assembler.lawful_sent h s.tape.fillPtr)
    · simpa using h

@[simp] theorem State.lawful_formatterWrite {y : Nat} {v : Word} : (s.formatterWrite y v).tape.lawful := by
  unfold State.formatterWrite
  split <;> simp [h]

/-- The slot of the evaluation that ends was EVALUATING and not in the queue; no other COMPLETE slot has its address where it
is accepted (R51). -/
theorem State.lawful_finishEvaluation {j : EvalJob} (hj : s.tape.eval = some j) : (s.finishEvaluation j).tape.lawful := by
  have hnot : j.slot ∉ s.tape.evalQueue := (h.2.2.2 j hj).2
  have h0 : Assembler.lawful { s.tape with eval := none } :=
    ⟨h.1, h.2.1, h.2.2.1, fun i hi => by cases hi⟩
  have hfree : Assembler.lawful { s.tape with eval := none, slots := vmod s.tape.slots j.slot fun x =>
      { x with state := .free } } := Assembler.lawful_settled h0 rfl hnot (fun e => by cases e)
  unfold State.finishEvaluation
  dsimp only
  split
  · refine State.lawful_pushDamage (State.lawful_lockStep ?_)
    simp only [State.markPlayback_frame, State.loseFrame_tape, State.modTape_tape]
    exact hfree
  · simp only [State.markPlayback_frame, State.settleFrame_eq, State.locateTest_frame]
    refine State.lawful_pushDamage (State.lawful_lockStep ?_)
    unfold State.frameJudged
    split
    · simp only [State.raise_frame, State.loseFrame_tape, State.modTape_tape]
      exact hfree
    · next hd =>
      rw [State.acceptFrame_tape]
      refine Assembler.lawful_congr rfl rfl rfl (Assembler.lawful_settled h0 rfl hnot
        (st := .complete) fun _ i hi hc => ?_)
      exact fun e => hd ((Assembler.duplicates_iff _ _).mpr ⟨i, hi, hc, e⟩)

@[simp] theorem State.lawful_playStart : s.playStart.1.tape.lawful := by
  unfold State.playStart
  split
  · exact h
  · simp only [State.rejudge_frame, State.markPlayback_frame, State.modMon_tape, State.modTape_tape]
    exact Assembler.lawful_congr rfl rfl rfl h

@[simp] theorem State.lawful_playStop : s.playStop.1.tape.lawful := by
  unfold State.playStop
  split
  · exact h
  · simp only [State.rejudge_frame, State.markPlayback_frame, State.modMon_tape, State.modTape_tape, State.modBus_tape]
    exact Assembler.lawful_congr rfl rfl rfl Assembler.lawful_emptyRing

end

end Sys2Proof.Machine
end

section
/-! PROOFS. The laws of the off-tape slots under the record path, the bus path, the engines' accesses and the commands. -/

namespace Sys2Proof.Machine

section
variable {s : State} (h : s.tape.lawful)
include h

/-! ### The record path -/

omit h in
@[simp] theorem State.lawful_resetPlayback : s.resetPlayback.tape.lawful := by
  simp only [State.resetPlayback, State.rejudge_frame, State.markPlayback_frame, State.modMon_tape, State.modTape_tape,
    State.modBus_tape, State.modDec_tape]
  exact Assembler.lawful_congr rfl rfl rfl Assembler.lawful_emptyRing

@[simp] theorem State.lawful_stopJob : s.stopJob.tape.lawful := by
  simp [State.stopJob, h]

@[simp] theorem State.lawful_recordStop : s.recordStop.1.tape.lawful := by
  unfold State.recordStop
  split <;> simp [h]

@[simp] theorem State.lawful_resetRecord : s.resetRecord.tape.lawful := by
  simp [State.resetRecord, h]

@[simp] theorem State.lawful_beginFrame {i : Fin 2} : (s.beginFrame i).tape.lawful := by
  unfold State.beginFrame
  dsimp only
  repeat' split
  all_goals simp [State.openFrame, h]

@[simp] theorem State.lawful_turnover {t : Txn} {i : Fin 2} {n : Nat} {c : Fin 2} {v : Word} :
    (s.turnover t i n c v).tape.lawful := by
  unfold State.turnover
  split <;> simp [State.rangeEnd, h]

@[simp] theorem State.lawful_recordWrite {t : Txn} {o : Nat} {v : Word} : (s.recordWrite t o v).tape.lawful := by
  unfold State.recordWrite
  dsimp only
  repeat' split
  all_goals simp [h]

@[simp] theorem State.lawful_finishClose {j : CloseJob} : (s.finishClose j).tape.lawful := by
  rw [(s.finishClose_keeps j).2.2.2.1]
  exact h

/-! ### The bus path -/

@[simp] theorem State.lawful_captureSetting {k : Fin 7} {v : Word} : (s.captureSetting k v).tape.lawful := by
  obtain ⟨w, b, e⟩ := s.captureSetting_tape k v
  rw [e]
  exact Assembler.lawful_congr rfl rfl rfl h

@[simp] theorem State.lawful_controlWrite {a : BusAddr} {v : Word} : (s.controlWrite a v).tape.lawful := by
  unfold State.controlWrite
  split <;> simp [h]

@[simp] theorem State.lawful_releaseHalf {i : Fin 2} : (s.releaseHalf i).tape.lawful := by
  unfold State.releaseHalf
  split <;> simp [h]

@[simp] theorem State.lawful_playbackRead {t : Txn} {o : Nat} : (s.playbackRead t o).tape.lawful := by
  unfold State.playbackRead
  dsimp only
  repeat' split
  all_goals simp [h]

@[simp] theorem State.lawful_serve {t : Txn} : (s.serve t).tape.lawful := by
  unfold State.serve State.serveWrite State.serveRead
  repeat' split
  all_goals simp [h]

@[simp] theorem State.lawful_service {t : Txn} : (s.service t).tape.lawful := by
  simp [State.service, h]

@[simp] theorem State.lawful_arrive {t : Txn} : (s.arrive t).tape.lawful := by
  unfold State.arrive
  repeat' split
  all_goals simp [h]

@[simp] theorem State.lawful_resume {x : Held} : (s.resume x).tape.lawful := by
  unfold State.resume
  dsimp only
  split <;> simp [h]

@[simp] theorem State.lawful_release : s.release.tape.lawful := by
  unfold State.release
  split
  · exact h
  · split
    · exact State.lawful_resume (by simpa using h)
    · exact h

@[simp] theorem State.lawful_drain {l : List Txn} : (s.drain l).tape.lawful := by
  induction l generalizing s with
  | nil => simp [State.drain, h]
  | cons t rest ih =>
    unfold State.drain
    split
    · simp [h]
    · exact ih (by simp [h])

/-- What follows every event keeps the laws (R152, R154). -/
@[simp] theorem State.lawful_settle : s.settle.tape.lawful := by
  unfold State.settle
  dsimp only
  split <;> simp [h]

/-! ### The engines and the commands -/

/-- An access of the evaluation engine leaves it on the slot it has (R48). -/
@[simp] theorem State.lawful_evalAccess {j : EvalJob} (hj : s.tape.eval = some j) : (s.evalAccess j).tape.lawful := by
  obtain ⟨hd, hn, hq, he⟩ := h
  refine ⟨hd, hn, hq, fun i hi => ?_⟩
  obtain rfl := Option.some.inj hi
  exact he j hj

@[simp] theorem State.lawful_grant {e : Engine} : (s.grant e).tape.lawful := by
  unfold State.grant State.engineAccess
  repeat' split
  all_goals simp [*]

/-- A ring command's row keeps the laws where its owner does (R159). -/
theorem State.lawful_command {i : Instr} {k : CmdKind} {o : State → State × Result}
    (ho : ∀ x : State, x.tape.lawful → (o x).1.tape.lawful) : (s.command i k o).tape.lawful := by
  unfold State.command
  split
  · refine State.lawful_settle ?_
    rw [(State.take_parts _ k o).2.2.1]
    exact ho _ (by simpa using h)
  · exact h

end

/-- Every slot is FREE after the RESET input (R41). -/
theorem Assembler.lawful_reset : Assembler.reset.lawful :=
  ⟨resetKeepsTheLaws.2.1, resetKeepsTheLaws.2.2.1⟩

end Sys2Proof.Machine
end

section
/-! PROOFS. Every command keeps the laws of the off-tape slots (R48, R51). -/

namespace Sys2Proof.Machine

/-- An evaluation ends once its 21 words are written (R48, R51). -/
theorem State.evalToEnd_some {s : State} {j : EvalJob} (h : s.evalToEnd = some j) :
    s.bus.op = .running ∧ s.tape.eval = some j ∧ 21 ≤ j.done := by
  unfold State.evalToEnd at h
  split at h
  · next hop =>
    obtain ⟨h1, h2⟩ := Option.filter_eq_some_iff.mp h
    exact ⟨hop, h1, of_decide_eq_true h2⟩
  · cases h

section
variable {s : State} (h : s.tape.lawful)
include h

@[simp] theorem State.lawful_upWrite {a : BusAddr} {v : Word} : (s.upWrite a v).tape.lawful :=
  State.lawful_settle (State.lawful_arrive h)

@[simp] theorem State.lawful_upRead {a : BusAddr} : (s.upRead a).tape.lawful :=
  State.lawful_settle (State.lawful_arrive h)

theorem State.lawful_completion {k : CmdKind} {r : Result} {w : Bool} : (s.complete k r w).settle.tape.lawful :=
  State.lawful_settle (by simpa using h)

@[simp] theorem State.lawful_clearSticky : s.clearSticky.tape.lawful :=
  Assembler.lawful_congr rfl rfl rfl h

/-- The rows of the part's own engines (R33, R48, R51, R153, R160, R168). -/
theorem State.lawful_engines {i : Instr} {t : State} (hi : i = .commandCompletion ∨ i = .enginePortGrant ∨ i = .closeEnd ∨
    i = .evaluationTake ∨ i = .evaluationEnd ∨ i = .reportPassBegin ∨ i = .reportPassEnd)
    (ht : exec i s = .next t) : t.tape.lawful := by
  rcases hi with rfl | rfl | rfl | rfl | rfl | rfl | rfl <;> obtain rfl := Host.Outcome.next.inj ht
  case inl =>
    split
    · split
      · exact State.lawful_completion h
      · exact State.lawful_completion h
      · exact h
    · exact h
  case inr.inl =>
    repeat' split
    all_goals simp [h]
  case inr.inr.inl =>
    split <;> simp [h]
  case inr.inr.inr.inl =>
    split
    · split
      · next hq => exact State.lawful_settle (State.lawful_takeEvaluation h hq)
      · exact h
    · exact h
  case inr.inr.inr.inr.inl =>
    split
    · next j hj => exact State.lawful_settle (State.lawful_finishEvaluation h (State.evalToEnd_some hj).2.1)
    · exact h
  all_goals split <;> simp [h]

end

/-- Every command keeps the laws. -/
theorem State.lawful_exec {s t : State} (h : s.tape.lawful) (i : Instr) (ht : exec i s = .next t) : t.tape.lawful := by
  cases i
  case commandCompletion | enginePortGrant | closeEnd | evaluationTake | evaluationEnd | reportPassBegin | reportPassEnd =>
    exact State.lawful_engines h (by simp) ht
  case resetAsserted =>
    obtain rfl := Host.Outcome.next.inj ht
    exact ⟨resetKeepsTheLaws.2.1, resetKeepsTheLaws.2.2.1⟩
  case resetReleased =>
    obtain rfl := Host.Outcome.next.inj ht
    split <;> simp [h]
  case initEnd =>
    obtain rfl := Host.Outcome.next.inj ht
    split
    · exact State.lawful_settle (by simpa [State.endInit] using h)
    · exact h
  case nop | recordStart | recordStop | playStart | playStop | monitorSelect | editLoad | editParam | editCancel | editArm |
      editDisarm | locate | locateCancel | policySeal | clearCounters | clearSticky | softResetRecord | softResetPlayback |
      softResetEdit | softResetCounters | unknownCommand =>
    obtain rfl := Host.Outcome.next.inj ht
    exact State.lawful_command h fun x hx => by simp [hx]
  all_goals
    obtain rfl := Host.Outcome.next.inj ht
    simp [h]

end Sys2Proof.Machine
end

section
/-! PROOFS. Upstream writes of the off-tape image and of the control area that find the port free: which operation serves them
(R42, R145, R147), and what a passed write leaves. -/

namespace Sys2Proof.Machine

/-! ### Addresses of the control area (R145, R147, R175) -/

theorem ctlBus_toNat {off : Nat} (h : off < 4096) : (ctlBus off).toNat = 0x7F000 + off := by
  simp only [ctlBus, ctlAddr, Config.controlBase, BitVec.toNat_ofNat]
  omega

theorem ctlOffset_ctlBus {off : Nat} (h : off < 4096) : ctlOffset (ctlBus off) = off := by
  rw [ctlOffset, ctlBus_toNat h, Config.controlWords]
  omega

theorem BusPath.regionOf_ctlBus (b : BusPath) {off : Nat} (h : off < 4096) : b.regionOf (ctlBus off).toNat = .control := by
  rw [ctlBus_toNat h, BusPath.regionOf, if_pos (by simp only [Config.controlBase]; omega)]

/-! ### The service of a write (R145) -/

section
variable {s : State} (h : s.portFree)
include h

theorem State.upWrite_served {u : State} {a : BusAddr} {v : Word}
    (e : s.freshAccesses.serveWrite { write := true, addr := a, data := v } = u) (hu : u.bus.held = none) :
    ∃ w, s.upWrite a v = u.withCounts w := by
  have e' : s.freshAccesses.serve { write := true, addr := a, data := v } = u := (if_pos rfl).trans e
  obtain ⟨w, hw⟩ := State.arrive_served h { write := true, addr := a, data := v } (by rw [e']; exact hu)
  rw [e'] at hw
  exact ⟨w, hw⟩

theorem State.upWrite_control {off : Nat} {v : Word} (hoff : off < 4096)
    (hu : (s.freshAccesses.controlWrite (ctlBus off) v).bus.held = none) :
    ∃ w, s.upWrite (ctlBus off) v = (s.freshAccesses.controlWrite (ctlBus off) v).withCounts w :=
  State.upWrite_served h (by simp only [State.serveWrite, s.freshAccesses.bus.regionOf_ctlBus hoff]) hu

/-- A write of the off-tape image is a plain one while STOPPED, and the formatter's while RUNNING (R39, R42). -/
theorem State.exec_offTapeImageWrite {a : BusAddr} (v : Word) (hr : s.bus.regionOf a.toNat = .offTapeImage) :
    ∃ w, exec (.offTapeImageWrite a v) s = .next
      ((if s.tape.run = .running then s.freshAccesses.formatterWrite (s.bus.offset 3 a.toNat) v
        else s.freshAccesses.passWord a v).withCounts w) := by
  have hheld : (if s.tape.run = .running then s.freshAccesses.formatterWrite (s.bus.offset 3 a.toNat) v
      else s.freshAccesses.passWord a v).bus.held = none := by
    split <;> simp [h.2.1]
  obtain ⟨w, hw⟩ := State.upWrite_served (a := a) (v := v) h
    (by simp only [State.serveWrite, (s.freshAccesses_region 3 a.toNat).1, hr]; rfl) hheld
  exact ⟨w, congrArg Host.Outcome.next hw⟩

end

/-! ### A passed write (R146) -/

theorem busAddr_lt (a : BusAddr) : a.toNat < Config.memoryWords := a.isLt

/-- A write passed to memory writes its word there, makes one access, and changes nothing else (R146, R155). -/
theorem State.passWord_passed {s : State} (hwf : s.mem.wf = true) (a : BusAddr) (v : Word) (w : WaitCounts) :
    let t := (s.freshAccesses.passWord a v).withCounts w
    t.bus.treatment = .passed ∧ t.bus.accesses = 1 ∧ t.peek a.toNat = v ∧ s.memSameBut [a.toNat] t ∧
      s.sameBut [.port, .mem] t := by
  obtain ⟨hword, hmem⟩ := State.poked_word (s := s) (t := (s.freshAccesses.passWord a v).withCounts w) hwf a.toNat v rfl
  rw [Nat.mod_eq_of_lt (busAddr_lt a)] at hmem
  exact ⟨rfl, rfl, hword, hmem, by simp [State.sameBut_iff, State.agree, State.passWord]⟩

/-- A word that no record's capture names (R147). -/
theorem controlWord_of_not_capture {off : Nat} (h : captureOffset off = false) :
    (∃ k, controlWord off = .cause k) ∨ controlWord off = .other := by
  simp only [captureOffset, Bool.or_eq_false_iff, Bool.and_eq_false_iff, decide_eq_false_iff_not, beq_eq_false_iff_ne] at h
  obtain ⟨⟨⟨⟨⟨hset, hmask⟩, htable⟩, hinput⟩, hpolicy⟩, hproducer⟩ := h
  unfold controlWord
  split
  · exact .inl ⟨_, rfl⟩
  · iterate 4 (split; · omega)
    exact .inr rfl

end Sys2Proof.Machine
end

section
/-! PROOFS. The playback commands (R39, R40, R59): what is left by a command whose owner re-judges the effective source last. -/

namespace Sys2Proof.Machine

/-- What is left of state `z` once the playback status record is marked and the effective source re-judged (R89, R171). -/
structure State.Judged (z t : State) : Prop where
  mon : t.mon = { z.mon with effective := t.effectiveOf }
  mix : t.dec = { z.dec with mon := t.dec.mon }
  contexts : t.effectiveOf ≠ .decoded ∨ z.mon.effective = .decoded → t.dec.mon = z.dec.mon
  raised : t.rep.raised = z.rep.raised
  frame : z.sameBut [.port, .dec, .mon, .copy, .cmd, .rep] t

section
variable {s z : State} {i : Instr} {k : CmdKind} {owner : State → State × Result} {r : Result}

/-- A command whose owner marks the playback status record and then re-judges the effective source. -/
theorem State.command_judged (h : s.aboutToTake i) (ho : owner s.unmarked = (z.markPlayback.rejudge, r)) (hb : z.bus = s.bus)
    (hc : z.cmd = s.cmd) :
    ∃ t, s.command i k owner = t ∧ t.cmd = s.cmd.takenMarked k r ∧ z.Judged t := by
  have hmarks := z.markPlayback.onlyMarks_rejudge
  obtain ⟨-, -, -, -, hkept⟩ := z.markPlayback.sourceJudged_rejudge
  obtain ⟨w, hw⟩ := State.command_marked (k := k) h ho (by simpa using hb)
    (ReportUnit.touched_of_playback (hmarks.playback rfl))
  have heff : ((s.takenAs z.markPlayback.rejudge (.waitPass k r)).withCounts w).effectiveOf =
      z.markPlayback.rejudge.effectiveOf := State.effectiveOf_congr rfl rfl rfl rfl rfl
  refine ⟨_, hw, by simp [CommandUnit.takenMarked, hc], ?_, ?_, fun he => hkept (heff ▸ he), ?_, ?_⟩
  · rw [heff, State.rejudge_effectiveOf]
    exact z.markPlayback.rejudge_mon
  · exact z.markPlayback.rejudge_dec
  · exact hmarks.flags.1
  · simp [State.sameBut_iff, State.agree]

end

/-- Where nothing is held there is nothing to abandon (R48, R82). -/
theorem BusPath.abandonReads_noneHeld {b : BusPath} (h : b.held = none) : b.abandonReads = b := by
  obtain ⟨⟩ := b
  simp_all [BusPath.abandonReads]

/-- PLAY_START up to the re-judgement of the effective source (R39, R50, R85). -/
def State.started (s : State) : State :=
  (s.modTape fun t =>
    { t.restLock with fillPtr := 0, wait := none, run := .running, carriedRate := 0, carriedStatus := .free }).modMon fun m =>
      { m with lastHalf := none }

theorem State.playStart_eq (s : State) : s.playStart =
    if s.tape.run = .running ∨ s.bus.valid = false then (s, .state) else (s.started.markPlayback.rejudge, .done) := rfl

/-- The halves unbound and the held reads abandoned, before the re-judgement (R40, R59). -/
def State.cutOff (s : State) : State := (s.modMon Monitor.unbind).modBus BusPath.abandonReads

theorem State.cutOff_mon (s : State) :
    s.cutOff.mon = { s.mon with halves := #v[none, none], lastHalf := none, queue := [] } := rfl

theorem State.cutOff_bus {s : State} (h : s.bus.held = none) : s.cutOff.bus = s.bus := BusPath.abandonReads_noneHeld h

theorem State.cutOff_keeps {s : State} (h : s.bus.held = none) : s.sameBut [.mon] s.cutOff := by
  simp [State.cutOff, State.sameBut_iff, State.agree, BusPath.abandonReads_noneHeld h]

end Sys2Proof.Machine
end

section
/-! PROOFS. The lock machine, row by row of the tables of R53 to R55. -/

namespace Sys2Proof.Machine

theorem nextFrame_eq (f : Nat) : nextFrame f = min 1048575 (f + 1) := by
  unfold nextFrame
  split
  · next h => simp only [Config.maxFrame] at h; omega
  · next h => simp only [Config.maxFrame] at h ⊢; omega

section
variable {x : Lock} (q limit g f : Nat) (a : Option Nat)

/-! ### SEARCH and ACQUIRE (R53) -/

theorem Lock.step_search_quorum (h : x.state = .search) (hq : q ≤ g) :
    x.step q limit g (some f) = ({ x with state := .acquire, expected := nextFrame f, run := 1 }, none) := by
  simp [Lock.step, h, hq]

theorem Lock.step_acquire_run (h : x.state = .acquire) (hq : q ≤ g) (hf : f = x.expected) (hr : x.run ≠ 2) :
    x.step q limit g (some f) = ({ x with run := x.run + 1, expected := nextFrame f }, none) := by
  simp [Lock.step, h, hq, hf, hr]

theorem Lock.step_acquire_lock (h : x.state = .acquire) (hq : q ≤ g) (hf : f = x.expected) (hr : x.run = 2) :
    x.step q limit g (some f) =
      ({ x with state := .locked, run := 3, expected := nextFrame f, mismatch := 0, flywheel := 0 }, some .lockGained) := by
  simp [Lock.step, h, hq, hf, hr]

theorem Lock.step_acquire_other (h : x.state = .acquire) (hf : f ≠ x.expected) :
    x.step q limit g (some f) = ({ x with state := .search, run := 0 }, none) := by
  simp [Lock.step, h, hf]

/-! ### LOCKED (R54) -/

theorem Lock.step_locked_lost (h : x.state = .locked) :
    x.step q limit 0 a = ({ x with state := .flywheel, flywheel := 1, expected := nextFrame x.expected }, none) := by
  simp [Lock.step, h]

theorem Lock.step_locked_expected (h : x.state = .locked) (hg : 1 ≤ g) :
    x.step q limit g (some x.expected) = ({ x with mismatch := 0, expected := nextFrame x.expected }, none) := by
  simp [Lock.step, h, show g ≠ 0 by omega]

theorem Lock.step_locked_mismatch (h : x.state = .locked) (hg : 1 ≤ g) (hq : q ≤ g) (hf : f ≠ x.expected)
    (hm : x.mismatch ≠ 1) : x.step q limit g (some f) =
      ({ x with mismatch := x.mismatch + 1, expected := nextFrame x.expected }, none) := by
  simp [Lock.step, h, show g ≠ 0 by omega, hq, hf, hm]

theorem Lock.step_locked_anew (h : x.state = .locked) (hg : 1 ≤ g) (hq : q ≤ g) (hf : f ≠ x.expected)
    (hm : x.mismatch = 1) : x.step q limit g (some f) =
      ({ x with state := .acquire, expected := nextFrame f, run := 1, mismatch := 0 }, some .lockLost) := by
  simp [Lock.step, h, show g ≠ 0 by omega, hq, hf, hm]

theorem Lock.step_locked_weak (h : x.state = .locked) (hg : 1 ≤ g) (hq : g < q) (hf : f ≠ x.expected) :
    x.step q limit g (some f) = ({ x with expected := nextFrame x.expected }, none) := by
  simp [Lock.step, h, show g ≠ 0 by omega, Nat.not_le.mpr hq, hf]

/-! ### FLYWHEEL (R55) -/

/-- A frame lost in FLYWHEEL: carried over, or the lock lost past the limit (R55). -/
def Lock.lost (x : Lock) (limit : Nat) : Lock × Option Cause :=
  if limit < x.flywheel + 1 then
    ({ x with state := .search, run := 0, flywheel := 0, expected := nextFrame x.expected }, some .lockLost)
  else ({ x with flywheel := x.flywheel + 1, expected := nextFrame x.expected }, none)

theorem Lock.step_flywheel_lost (h : x.state = .flywheel) : x.step q limit 0 a = x.lost limit := by
  simp [Lock.step, h, Lock.lost]

theorem Lock.step_flywheel_expected (h : x.state = .flywheel) (hg : 1 ≤ g) :
    x.step q limit g (some x.expected) =
      ({ x with state := .locked, flywheel := 0, mismatch := 0, expected := nextFrame x.expected }, none) := by
  simp [Lock.step, h, hg]

theorem Lock.step_flywheel_anew (h : x.state = .flywheel) (hg : 1 ≤ g) (hq : q ≤ g) (hf : f ≠ x.expected) :
    x.step q limit g (some f) =
      ({ x with state := .acquire, expected := nextFrame f, run := 1, flywheel := 0 }, some .lockLost) := by
  simp [Lock.step, h, hg, hq, hf]

theorem Lock.step_flywheel_weak (h : x.state = .flywheel) (hq : g < q) (hf : f ≠ x.expected) :
    x.step q limit g (some f) = x.lost limit := by
  simp [Lock.step, h, Nat.not_le.mpr hq, hf, Lock.lost]

/-! ### Lost frames in a row (R54, R55) -/

/-- A LOCKED timeline carries over as many lost frames as the flywheel limit, the expected address moving on with each. -/
theorem Lock.carried_over (h : x.state = .locked) {n : Nat} (hn : n + 1 ≤ limit) (hf : x.expected + limit < 1048575) :
    (fun y : Lock => (y.step q limit 0 none).1)^[n + 1] x =
      { x with state := .flywheel, flywheel := n + 1, expected := x.expected + (n + 1) } := by
  induction n with
  | zero =>
    rw [Function.iterate_one, Lock.step_locked_lost _ _ _ h, nextFrame_eq, min_eq_right (by omega)]
  | succ n ih =>
    rw [Function.iterate_succ_apply', ih (by omega), Lock.step_flywheel_lost _ _ _ rfl, Lock.lost,
      if_neg (by simp only; omega), nextFrame_eq, min_eq_right (by simp only; omega)]
    rfl

end

end Sys2Proof.Machine
end

section
/-! PROOFS. Formatter writes (R42 to R47): the block record that takes a word, the slot that begins to fill, goes to evaluation
or is left, and which of these a write is by the slot it lands in. -/

namespace Sys2Proof.Machine

/-! ### The block record (R46, R47) -/

/-- The record of a block after a word other than 131 (R46). -/
theorem BlockRec.take_word (x : BlockRec) (b : Nat) {j : Nat} (v : Word) (h : j ≠ 131) :
    x.take b j v =
      { status := if j = 0 ∨ x.status = .empty then .filling else x.status
        sums := if j = 0 then ({ s1 := 0, s2 := 0 } : Sums).update 0 0 v else if j < 130 then x.sums.update j 0 v else x.sums
        seen := if j = 0 then 1 else min 133 (x.seen + 1)
        headA := if j = 0 then v else x.headA, headB := if j = 1 then v else x.headB
        w130 := if j = 130 then v else x.w130 } := by
  unfold BlockRec.take
  rw [if_neg h]
  by_cases h0 : j = 0
  · subst h0
    simp
  · by_cases he : x.status = .empty <;> simp [h0, he]

theorem BlockRec.judge_eq (x : BlockRec) (b : Nat) (v : Word) : x.judge b v =
    if x.seen ≠ 132 then .missing
    else if x.sums.s1 ≠ x.w130.toNat ∨ x.sums.s2 ≠ v.toNat then .bad
    else if x.headA.toNat % 16 ≠ b ∨ x.headA.toNat / 16 % 4 = 3 ∨ x.headA.toNat / 64 % 4 = 3 then .bad
    else .good := by
  have hhead : headerOk b x.headA = true ↔
      ¬(x.headA.toNat % 16 ≠ b ∨ x.headA.toNat / 16 % 4 = 3 ∨ x.headA.toNat / 64 % 4 = 3) := by
    simp [headerOk, headIndex, headRate, headStatus, and_assoc]
  simp only [BlockRec.judge, hhead, ite_not]

/-- The judgement of a block by its word 131 (R47). -/
theorem BlockRec.take_last (x : BlockRec) (b : Nat) (v : Word) :
    x.take b 131 v = { x with
      seen := min 133 (x.seen + 1)
      status :=
        if x.seen ≠ 131 then .missing
        else if x.sums.s1 ≠ x.w130.toNat ∨ x.sums.s2 ≠ v.toNat then .bad
        else if x.headA.toNat % 16 ≠ b ∨ x.headA.toNat / 16 % 4 = 3 ∨ x.headA.toNat / 64 % 4 = 3 then .bad
        else .good } := by
  have hseen : min 133 (x.seen + 1) = 132 ↔ x.seen = 131 := by omega
  unfold BlockRec.take
  by_cases he : x.status = .empty <;> simp [he, BlockRec.judge_eq, hseen]

/-- The record of a block whose first word seen is word `j` (R42, R43). -/
def firstRecord (j : Nat) (v : Word) : BlockRec :=
  { status := if j = 131 then .missing else .filling, seen := 1
    sums := if j < 130 then ({ s1 := 0, s2 := 0 } : Sums).update j 0 v else { s1 := 0, s2 := 0 }
    headA := if j = 0 then v else 0, headB := if j = 1 then v else 0, w130 := if j = 130 then v else 0 }

theorem BlockRec.take_reset (b j : Nat) (v : Word) : BlockRec.reset.take b j v = firstRecord j v := by
  by_cases h : j = 131
  · subst h
    simp [BlockRec.take_last, firstRecord, BlockRec.reset]
  · rw [BlockRec.take_word _ _ _ h]
    by_cases h0 : j = 0 <;> simp [firstRecord, BlockRec.reset, h, h0]

/-! ### Slots of the assembler (R42, R43, R47, R48) -/

section
variable (t : Assembler) (k : Fin 4) (b j : Nat) (v : Word)

theorem Assembler.sent_of_filling {t : Assembler} {k : Fin 4} (h : t.slots[k].state = .filling) : t.sent k =
    { t with slots := vmod t.slots k fun x => { x with state := .evaluating }, evalQueue := t.evalQueue ++ [k] } := if_pos h

theorem Assembler.sent_of_not {t : Assembler} {k : Fin 4} (h : t.slots[k].state ≠ .filling) : t.sent k = t := if_neg h

theorem Assembler.sent_keeps : t.sent k = { t with slots := (t.sent k).slots, evalQueue := (t.sent k).evalQueue } := by
  unfold Assembler.sent
  split <;> rfl

theorem Assembler.taken_block (n : Fin 14) : (t.taken k b j v).slots[k].blocks[n] =
    if n.val = b then t.slots[k].blocks[n].take b j v else t.slots[k].blocks[n] := by
  unfold Assembler.taken
  rw [vmod_same, vput_getElem]
  split
  · next h =>
    subst h
    rw [vget_fin]
  · rfl

theorem Assembler.taken_slot : (t.taken k b j v).slots[k] =
    { t.slots[k] with blocks := (t.taken k b j v).slots[k].blocks } := by
  unfold Assembler.taken
  rw [vmod_same]

theorem Assembler.taken_other {m : Fin 4} (h : m ≠ k) : (t.taken k b j v).slots[m] = t.slots[m] := vmod_other _ _ h

theorem Assembler.allSettled_iff : t.allSettled k = true ↔ ∀ n : Fin 14, t.slots[k].blocks[n].status.settled = true := by
  simp only [Assembler.allSettled, List.all_eq_true, Vector.mem_toList_iff, Vector.mem_iff_getElem]
  exact ⟨fun h n => h _ ⟨n.val, n.isLt, rfl⟩, fun h x ⟨i, hi, hx⟩ => hx ▸ h ⟨i, hi⟩⟩

theorem Assembler.begun_slot : (t.begun k).slots[k] =
    { t.slots[k] with state := .filling, blocks := Vector.replicate 14 BlockRec.reset } := vmod_same _ _ _

/-- A slot that begins to fill takes its first word and goes on filling: thirteen of its blocks are EMPTY (R42, R43, R47). -/
theorem Assembler.begun_took :
    let u := (t.begun k).took k b j v
    u = { t with slots := u.slots } ∧ (∀ m : Fin 4, m ≠ k → u.slots[m] = t.slots[m]) ∧
    u.slots[k] = { t.slots[k] with state := .filling, blocks := u.slots[k].blocks } ∧
    ∀ n : Fin 14, u.slots[k].blocks[n] = if n.val = b then firstRecord j v else BlockRec.reset := by
  have hblock : ∀ n : Fin 14, ((t.begun k).taken k b j v).slots[k].blocks[n] =
      if n.val = b then firstRecord j v else BlockRec.reset := fun n => by
    rw [Assembler.taken_block, Assembler.begun_slot]
    simp [BlockRec.take_reset]
  have hopen : ((t.begun k).taken k b j v).allSettled k = false := by
    by_contra h
    have h := (Assembler.allSettled_iff _ _).mp (Bool.not_eq_false _ ▸ h)
    by_cases hb : b = 0
    · have h1 := h 1
      rw [hblock, if_neg (by simp [hb])] at h1
      cases h1
    · have h0 := h 0
      rw [hblock, if_neg (fun e : ((0 : Fin 14) : Nat) = b => hb e.symm)] at h0
      cases h0
  have e : (t.begun k).took k b j v = (t.begun k).taken k b j v := by simp [Assembler.took, hopen]
  intro u
  rw [show u = (t.begun k).taken k b j v from e]
  refine ⟨rfl, fun m hm => ?_, ?_, hblock⟩
  · rw [Assembler.taken_other _ _ _ _ _ hm]
    exact vmod_other _ _ hm
  · rw [Assembler.taken_slot, Assembler.begun_slot]

end

/-! ### The write taken (R42, R46) -/

section
variable (s : State) (k : Fin 4) (b j : Nat) (v : Word)

/-- The word taken: passed to memory at its address, and of the report unit only marks moved (R42, R46). -/
theorem State.wordTaken_keeps : (s.wordTaken k b j v).bus.treatment = .passed ∧
    (s.wordTaken k b j v).mem = (s.poke (s.tapeAddr k (slotOffset b j)) v).mem ∧
    s.rep.onlyMarks (s.wordTaken k b j v).rep := by
  unfold State.wordTaken
  dsimp only
  split
  · exact ⟨rfl, rfl, .refl _⟩
  · exact ⟨rfl, rfl, s.onlyMarks_markPlayback⟩

theorem State.onlyMarks_sendToEvaluation : s.rep.onlyMarks (s.sendToEvaluation k).rep := by
  unfold State.sendToEvaluation
  split
  · exact State.onlyMarks_markPlayback _
  · exact .refl _

theorem State.takeTapeWord_keeps : (s.takeTapeWord k b j v).bus.treatment = .passed ∧
    (s.takeTapeWord k b j v).mem = (s.poke (s.tapeAddr k (slotOffset b j)) v).mem ∧
    s.rep.onlyMarks (s.takeTapeWord k b j v).rep := by
  obtain ⟨h1, h2, h3⟩ := s.wordTaken_keeps k b j v
  rw [State.takeTapeWord_eq]
  split
  · exact ⟨by simpa using h1, by simpa using h2, h3.trans (State.onlyMarks_sendToEvaluation _ k)⟩
  · exact ⟨h1, h2, h3⟩

end

/-- A slot sent to evaluation by its last block is reported (R48, R171). -/
theorem State.takeTapeWord_sent {s : State} {k : Fin 4} {b : Nat} {v : Word} (h : s.tape.slots[k].state = .filling)
    (hall : (s.tape.taken k b 131 v).allSettled k = true) : (s.takeTapeWord k b 131 v).rep.marks.playback = true := by
  have htape := s.wordTaken_tape k b 131 v
  have hfill : (s.wordTaken k b 131 v).tape.slots[k].state = .filling := by rw [htape, Assembler.taken_slot, h]
  rw [State.takeTapeWord_eq, if_pos ⟨rfl, by rw [htape]; exact hall⟩, State.sendToEvaluation, if_pos hfill]
  rfl

/-! ### Where a write of the off-tape image lands (R2, R42) -/

theorem BusPath.covers_of_offTape {b : BusPath} {a : Nat} (h : b.regionOf a = .offTapeImage) :
    b.base 3 ≤ a ∧ b.offset 3 a < 7392 := by
  have hc : b.covers 3 a = true := by
    by_contra hno
    unfold BusPath.regionOf at h
    rw [if_neg hno] at h
    repeat' split at h
    all_goals cases h
  obtain ⟨h1, h2⟩ := Bool.and_eq_true_iff.mp hc
  have h1 := of_decide_eq_true h1
  have h2 : a < b.base 3 + 7392 := of_decide_eq_true h2
  exact ⟨h1, by simp only [BusPath.offset]; omega⟩

/-- The word a write is taken into is the one it names (R2). -/
theorem State.tapeAddr_offset {s : State} {a : Nat} {k : Fin 4} (h : s.bus.regionOf a = .offTapeImage)
    (hk : s.bus.offset 3 a / 1848 = k.val) :
    s.tapeAddr k (slotOffset (imageBlock (s.bus.offset 3 a)) (imageWord (s.bus.offset 3 a))) = a := by
  obtain ⟨h1, -⟩ := BusPath.covers_of_offTape h
  simp only [State.tapeAddr, slotOffset, imageBlock, imageWord, Config.slotWords, Config.blockWords, BusPath.offset] at *
  omega

/-! ### Which write it is (R42 to R45) -/

section
variable {s : State} {y : Nat} (v : Word) (hw : s.tape.wait = none)
include hw

theorem State.formatterWrite_filling (hk : y / 1848 = s.tape.fillPtr.val)
    (hs : s.tape.slots[s.tape.fillPtr].state = .filling) :
    s.formatterWrite y v = s.takeTapeWord s.tape.fillPtr (imageBlock y) (imageWord y) v := by
  simp only [State.formatterWrite, hw, State.fillWrite]
  rw [if_pos (show imageSlot y = _ from hk), hs]

theorem State.formatterWrite_begin (hk : y / 1848 = s.tape.fillPtr.val)
    (hs : s.tape.slots[s.tape.fillPtr].state = .free) :
    s.formatterWrite y v =
      (s.beginFill s.tape.fillPtr).takeTapeWord s.tape.fillPtr (imageBlock y) (imageWord y) v := by
  simp only [State.formatterWrite, hw, State.fillWrite]
  rw [if_pos (show imageSlot y = _ from hk), hs]

theorem State.formatterWrite_advance (hk : y / 1848 = (nextSlot s.tape.fillPtr).val)
    (hs : s.tape.slots[nextSlot s.tape.fillPtr].state = .free) :
    s.formatterWrite y v = s.advanceFill (imageBlock y) (imageWord y) v := by
  have hne : ¬ imageSlot y = s.tape.fillPtr.val := fun e => nextSlot_ne _ (Fin.ext (hk.symm.trans e))
  simp only [State.formatterWrite, hw, State.fillWrite]
  rw [if_neg hne, if_pos (show imageSlot y = _ from hk), if_pos hs]

theorem State.formatterWrite_overrun (hk : y / 1848 = (nextSlot s.tape.fillPtr).val)
    (hs : s.tape.slots[nextSlot s.tape.fillPtr].state ≠ .free) : s.formatterWrite y v = s.beginOverrun := by
  have hne : ¬ imageSlot y = s.tape.fillPtr.val := fun e => nextSlot_ne _ (Fin.ext (hk.symm.trans e))
  simp only [State.formatterWrite, hw, State.fillWrite]
  rw [if_neg hne, if_pos (show imageSlot y = _ from hk), if_neg hs]

theorem State.formatterWrite_stray (h : (y / 1848 = s.tape.fillPtr.val ∧
      (s.tape.slots[s.tape.fillPtr].state = .evaluating ∨ s.tape.slots[s.tape.fillPtr].state = .complete)) ∨
    (y / 1848 ≠ s.tape.fillPtr.val ∧ y / 1848 ≠ (nextSlot s.tape.fillPtr).val)) :
    s.formatterWrite y v = s.strayWrite := by
  simp only [State.formatterWrite, hw, State.fillWrite]
  obtain ⟨hk, hs⟩ | ⟨h1, h2⟩ := h
  · rw [if_pos (show imageSlot y = _ from hk)]
    obtain hs | hs := hs <;> rw [hs]
  · rw [if_neg (show ¬imageSlot y = _ from h1), if_neg (show ¬imageSlot y = _ from h2)]

end

section
variable {s : State} {y gap : Nat} (v : Word) (hw : s.tape.wait = some gap)
include hw

theorem State.formatterWrite_waiting
    (h : y / 1848 ≠ (nextSlot s.tape.fillPtr).val ∨ s.tape.slots[nextSlot s.tape.fillPtr].state ≠ .free) :
    s.formatterWrite y v =
      (s.modTape fun t => { t with wait := some (if y % 1848 = 1847 then min 64 (gap + 1) else gap) }).treat .dropped := by
  have hlast : (imageBlock y = 13 ∧ imageWord y = 131) ↔ y % 1848 = 1847 := by
    simp only [imageBlock, imageWord, Config.slotWords, Config.blockWords]
    omega
  have hno : ¬(imageSlot y = (nextSlot s.tape.fillPtr).val ∧ s.tape.slots[nextSlot s.tape.fillPtr].state = .free) :=
    not_and_or.mpr h
  simp only [State.formatterWrite, hw, State.waitWrite]
  rw [if_neg hno]
  split
  · next hl => rw [if_pos (hlast.mp hl)]
  · next hl =>
    rw [if_neg (mt hlast.mpr hl), ← hw]
    rfl

theorem State.formatterWrite_ended (hk : y / 1848 = (nextSlot s.tape.fillPtr).val)
    (hs : s.tape.slots[nextSlot s.tape.fillPtr].state = .free) :
    s.formatterWrite y v = (s.waitEnded gap).advanceFill (imageBlock y) (imageWord y) v := by
  simp only [State.formatterWrite, hw, State.waitWrite]
  exact if_pos ⟨hk, hs⟩

end

end Sys2Proof.Machine
end

section
/-! PROOFS. What a formatter write leaves (R42 to R48): the word passed, the slot begun, the slot before it left, the overrun's
wait. -/

namespace Sys2Proof.Machine

theorem State.exec_formatterWrite {s : State} {a : BusAddr} (h : s.portFree) (v : Word)
    (hr : s.bus.regionOf a.toNat = .offTapeImage) (hrun : s.tape.run = .running) :
    ∃ w, exec (.offTapeImageWrite a v) s =
      .next ((s.freshAccesses.formatterWrite (s.bus.offset 3 a.toNat) v).withCounts w) := by
  obtain ⟨w, hw⟩ := State.exec_offTapeImageWrite h v hr
  rw [if_pos hrun] at hw
  exact ⟨w, hw⟩

section
variable {s z : State} {a : BusAddr} (v : Word) (w : WaitCounts) (hwf : s.mem.wf = true)
  (hr : s.bus.regionOf a.toNat = .offTapeImage) (hm : z.mem = s.mem) (hb : z.bus.table = s.bus.table)
include hwf hr hm hb

/-- A word taken into a slot is passed to memory, at the address written (R42, R146). -/
theorem State.takeTapeWord_passed {k : Fin 4} (hk : s.bus.offset 3 a.toNat / 1848 = k.val) :
    let y := s.bus.offset 3 a.toNat
    let t := (z.takeTapeWord k (imageBlock y) (imageWord y) v).withCounts w
    t.bus.treatment = .passed ∧ t.peek a.toNat = v ∧ s.memSameBut [a.toNat] t := by
  intro y t
  obtain ⟨h1, h2, -⟩ := z.takeTapeWord_keeps k (imageBlock y) (imageWord y) v
  have haddr : z.tapeAddr k (slotOffset (imageBlock y) (imageWord y)) = a.toNat := by
    rw [← State.tapeAddr_offset hr hk]
    simp only [State.tapeAddr, BusPath.base, hb]
    rfl
  have hmem : t.mem = (s.poke a.toNat v).mem := by
    rw [show t.mem = _ from h2, haddr]
    exact congrArg (fun m => Memory.write m (a.toNat % Config.memoryWords) v) hm
  have hpoke := State.poked_word hwf a.toNat v hmem
  rw [Nat.mod_eq_of_lt (busAddr_lt a)] at hpoke
  exact ⟨h1, hpoke⟩

/-- Slot `k` begins to fill with a write: the fill pointer on it, the word passed, one block record begun (R42, R43, R46). -/
structure State.BeginsFill (s : State) (a : Nat) (v : Word) (k : Fin 4) (t : State) : Prop where
  treatment : t.bus.treatment = .passed
  word : t.peek a = v
  memory : s.memSameBut [a] t
  fillPtr : t.tape.fillPtr = k
  slot : t.tape.slots[k] = { s.tape.slots[k] with state := .filling, blocks := t.tape.slots[k].blocks }
  block : ∀ b : Fin 14, t.tape.slots[k].blocks[b] =
    if b.val = imageBlock (s.bus.offset 3 a) then firstRecord (imageWord (s.bus.offset 3 a)) v else BlockRec.reset
  marked : t.rep.marks.playback = true

/-- The slot that begins to fill is begun and takes the write in one state (R42, R46). -/
theorem State.beginFill_begins {k : Fin 4} (hk : s.bus.offset 3 a.toNat / 1848 = k.val) (hp : z.tape.fillPtr = k)
    (hs : z.tape.slots[k] = s.tape.slots[k]) :
    s.BeginsFill a.toNat v k (((z.beginFill k).takeTapeWord k (imageBlock (s.bus.offset 3 a.toNat))
      (imageWord (s.bus.offset 3 a.toNat)) v).withCounts w) := by
  obtain ⟨h1, h2, h3⟩ := State.takeTapeWord_passed (z := z.beginFill k) v w hwf hr hm hb hk
  obtain ⟨-, -, h5⟩ := (z.beginFill k).takeTapeWord_keeps k (imageBlock (s.bus.offset 3 a.toNat))
    (imageWord (s.bus.offset 3 a.toNat)) v
  obtain ⟨e1, -, e3, e4⟩ := z.tape.begun_took k (imageBlock (s.bus.offset 3 a.toNat)) (imageWord (s.bus.offset 3 a.toNat)) v
  rw [← State.beginFill_tape, ← State.takeTapeWord_tape] at e1 e3 e4
  rw [hs] at e3
  exact ⟨h1, h2, h3, (congrArg Assembler.fillPtr e1).trans hp, e3, e4, h5.playback rfl⟩

end

/-! ### The slot before the one that begins (R43, R44) -/

/-- Slot `p` goes to evaluation if it is FILLING, and is left as it stands if not (R43, R44). -/
def Assembler.Leaves (t : Assembler) (p : Fin 4) (u : Assembler) : Prop :=
  (t.slots[p].state = .filling →
    u.slots[p] = { t.slots[p] with state := .evaluating } ∧ u.evalQueue = t.evalQueue ++ [p]) ∧
  (t.slots[p].state ≠ .filling → u.slots[p] = t.slots[p] ∧ u.evalQueue = t.evalQueue)

theorem Assembler.leaves_sent (t : Assembler) (p : Fin 4) : t.Leaves p (t.sent p) :=
  ⟨fun h => by
    rw [Assembler.sent_of_filling h]
    exact ⟨vmod_same _ _ _, rfl⟩, fun h => by rw [Assembler.sent_of_not h]; exact ⟨rfl, rfl⟩⟩

/-- The fill pointer's advance: the slot it left, the slots it does not touch, and what of the assembler moves (R43). -/
theorem Assembler.advanced (t : Assembler) (b j : Nat) (v : Word) :
    let n := nextSlot t.fillPtr
    let u := (t.moved.begun n).took n b j v
    t.Leaves t.fillPtr u ∧ (∀ k : Fin 4, k ≠ t.fillPtr → k ≠ n → u.slots[k] = t.slots[k]) ∧
      u = { t with slots := u.slots, fillPtr := n, evalQueue := u.evalQueue } := by
  intro n u
  obtain ⟨e, hother, -, -⟩ := t.moved.begun_took n b j v
  have hq : u.evalQueue = (t.sent t.fillPtr).evalQueue := (congrArg Assembler.evalQueue e :)
  have hleft : u.slots[t.fillPtr] = (t.sent t.fillPtr).slots[t.fillPtr] := hother _ (nextSlot_ne _).symm
  refine ⟨?_, fun k hp hn => (hother k hn).trans (t.sent_slot_other hp), ?_⟩
  · unfold Assembler.Leaves
    rw [hleft, hq]
    exact t.leaves_sent t.fillPtr
  · have hs : t.moved = { t with slots := t.moved.slots, fillPtr := n, evalQueue := t.moved.evalQueue } := by
      unfold Assembler.moved
      rw [t.sent_keeps t.fillPtr]
    calc u = { t.moved with slots := u.slots } := e
      _ = _ := congrArg (fun m : Assembler => { m with slots := u.slots }) hs
      _ = { t with slots := u.slots, fillPtr := n, evalQueue := u.evalQueue } := by rw [hq]; rfl

section
variable {s z : State} {a : BusAddr} (v : Word) (w : WaitCounts) (hwf : s.mem.wf = true)
  (hr : s.bus.regionOf a.toNat = .offTapeImage) (hm : z.mem = s.mem) (hb : z.bus.table = s.bus.table)
  (hs : z.tape.slots = s.tape.slots)
include hwf hr hm hb hs

theorem State.advanceFill_begins (hk : s.bus.offset 3 a.toNat / 1848 = (nextSlot z.tape.fillPtr).val) :
    s.BeginsFill a.toNat v (nextSlot z.tape.fillPtr) ((z.advanceFill (imageBlock (s.bus.offset 3 a.toNat))
      (imageWord (s.bus.offset 3 a.toNat)) v).withCounts w) :=
  State.beginFill_begins (z := (z.sendToEvaluation z.tape.fillPtr).modTape fun t =>
    { t with fillPtr := nextSlot z.tape.fillPtr }) v w hwf hr (by simpa using hm) (by simpa using hb) hk rfl
    ((congrArg (fun y : Assembler => y.slots[nextSlot z.tape.fillPtr]) (z.sendToEvaluation_tape z.tape.fillPtr)).trans
      ((Assembler.sent_slot_other _ (nextSlot_ne _)).trans (by rw [hs])))

end

end Sys2Proof.Machine
end

section
/-! PROOFS. The lock machine's step and the error-rate monitor's test (R52 to R57): what they raise, count and leave. -/

namespace Sys2Proof.Machine

theorem State.onlyMarks_markPlaybackIf (s : State) (b : Bool) : s.rep.onlyMarks (s.markPlaybackIf b).rep := by
  cases b
  · exact .refl _
  · exact s.onlyMarks_markPlayback

/-! ### What a step of the lock machine raises (R53 to R55) -/

/-- The lock machine raises its own two causes only. -/
theorem Lock.step_cause (x : Lock) (q limit g : Nat) (a : Option Nat) {c : Cause} (h : (x.step q limit g a).2 = some c) :
    c = .lockGained ∨ c = .lockLost := by
  unfold Lock.step at h
  dsimp only at h
  cases hx : x.state <;> rw [hx] at h <;> dsimp only at h <;> repeat' split at h
  all_goals simp_all

section
variable (s : State) (d : Cause) (g : Nat) (a : Option Nat)

@[simp] theorem State.raiseOpt_isSet (c : Option Cause) : (s.raiseOpt c).rep.isSet d = (s.rep.isSet d || some d == c) := by
  cases c with
  | none => simp [State.raiseOpt]
  | some c => exact s.raise_isSet c d

theorem State.lockStep_isSet : (s.lockStep g a).rep.isSet d =
    (s.rep.isSet d || some d == (s.tape.lock.step s.settings.quorum s.settings.flywheel g a).2) := by
  unfold State.lockStep
  dsimp only
  rw [(State.onlyMarks_rejudge _).flags.2.2, State.raiseOpt_isSet, (State.onlyMarks_markPlaybackIf _ _).flags.2.2]
  rfl

/-- A cause that is not the lock machine's own stands through its step. -/
theorem State.lockStep_isSet_of (h1 : d ≠ .lockGained) (h2 : d ≠ .lockLost) :
    (s.lockStep g a).rep.isSet d = s.rep.isSet d := by
  rw [State.lockStep_isSet]
  cases hc : (s.tape.lock.step s.settings.quorum s.settings.flywheel g a).2 with
  | none => simp
  | some c =>
    have hne : d ≠ c := by
      rintro rfl
      rcases Lock.step_cause _ _ _ _ _ hc with h | h
      · exact h1 h
      · exact h2 h
    simp [hne]

/-- Of the monitor selector a step of the lock machine moves the effective source alone (R52, R89). -/
theorem State.lockStep_mon : (s.lockStep g a).mon = { s.mon with effective := (s.lockStep g a).mon.effective } := by
  unfold State.lockStep
  dsimp only
  rw [State.rejudge_mon]
  simp

end

/-! ### The test of R57 -/

theorem State.rateTest_isSet (s : State) (d : Cause) : s.rateTest.rep.isSet d = (s.rep.isSet d ||
    (decide (s.settings.thresh < s.tape.window.sum ∧ s.tape.lock.state = .locked ∧ s.tape.rateArmed = true) &&
      d == .errorRate)) := by
  unfold State.rateTest Assembler.windowSum
  split
  · next h =>
    rw [(State.onlyMarks_bump _ _).flags.2.2, State.raise_isSet]
    simp [h]
  · next h => split <;> simp [h]

theorem State.rateTest_counters (s : State) (c : Counter) : countOf s.rateTest.counters c =
    if (s.settings.thresh < s.tape.window.sum ∧ s.tape.lock.state = .locked ∧ s.tape.rateArmed = true) ∧ c = .errorRate then
      min 65535 (countOf s.counters c + 1) else countOf s.counters c := by
  unfold State.rateTest Assembler.windowSum
  split
  · next h =>
    rw [State.bump_counters]
    by_cases hc : c = .errorRate <;> simp [h, hc]
  · next h => split <;> simp [h]

/-- The test is made on the window, the threshold and the lock state as they stand, with the arming it finds (R57). -/
theorem State.rateTested_rateTest {s z : State} (ha : z.tape.rateArmed = s.tape.rateArmed)
    (hs : z.rep.isSet .errorRate = s.rep.isSet .errorRate)
    (hc : countOf z.counters .errorRate = countOf s.counters .errorRate) : s.rateTested z.rateTest := by
  unfold State.rateTested
  simp only [State.isSet_eq, State.counter_eq, State.rateTest_isSet, State.rateTest_counters, State.rateTest_tape,
    State.rateTest_frame, ← ha, ← hs, ← hc, Assembler.armedAfter]
  split <;> next h => simp [h]

/-- What the test is made on, and what it leaves, seen in a later state. -/
theorem State.rateTested.later {s t u : State} (h : s.rateTested t) (hs : u.settings = t.settings)
    (hw : u.tape.window = t.tape.window) (hl : u.tape.lock = t.tape.lock) (ha : u.tape.rateArmed = t.tape.rateArmed)
    (he : u.rep.isSet .errorRate = t.rep.isSet .errorRate)
    (hc : countOf u.counters .errorRate = countOf t.counters .errorRate) : s.rateTested u := by
  unfold State.rateTested at h ⊢
  simpa only [State.isSet_eq, State.counter_eq, hs, hw, hl, ha, he, hc] using h

/-! ### A push (R56, R57) -/

section
variable (s : State) (d : Nat)

theorem State.pushDamage_isSet_of {c : Cause} (h : c ≠ .errorRate) : (s.pushDamage d).rep.isSet c = s.rep.isSet c := by
  unfold State.pushDamage
  dsimp only
  rw [State.rateTest_isSet, (State.onlyMarks_markPlaybackIf _ _).flags.2.2]
  simp [h]

theorem State.pushDamage_counters_of {c : Counter} (h : c ≠ .errorRate) :
    countOf (s.pushDamage d).counters c = countOf s.counters c := by
  unfold State.pushDamage
  dsimp only
  rw [State.rateTest_counters]
  simp [h]

theorem State.rateTested_pushDamage {s z : State} (ha : z.tape.rateArmed = s.tape.rateArmed)
    (hs : z.rep.isSet .errorRate = s.rep.isSet .errorRate)
    (hc : countOf z.counters .errorRate = countOf s.counters .errorRate) : s.rateTested (z.pushDamage d) := by
  refine State.rateTested_rateTest ?_ ?_ ?_
  · simpa using ha
  · rw [(State.onlyMarks_markPlaybackIf _ _).flags.2.2]
    exact hs
  · simpa using hc

end

/-! ### Gap frames (R44) -/

section
variable (n : Nat) (s : State)

theorem State.gapSteps_isSet_of {d : Cause} (h1 : d ≠ .lockGained) (h2 : d ≠ .lockLost) :
    (s.gapSteps n).rep.isSet d = s.rep.isSet d := by
  induction n generalizing s with
  | zero => rfl
  | succ n ih => rw [State.gapSteps, ih, State.lockStep_isSet_of _ _ _ _ h1 h2]

theorem State.gapSteps_mon : (s.gapSteps n).mon = { s.mon with effective := (s.gapSteps n).mon.effective } := by
  induction n generalizing s with
  | zero => rfl
  | succ n ih =>
    rw [State.gapSteps, ih, State.lockStep_mon]

theorem State.gapPushes_isSet_of {d : Cause} (h : d ≠ .errorRate) : (s.gapPushes n).rep.isSet d = s.rep.isSet d := by
  induction n generalizing s with
  | zero => rfl
  | succ n ih => rw [State.gapPushes, ih, State.pushDamage_isSet_of _ _ h]

theorem State.gapPushes_counters_of {c : Counter} (h : c ≠ .errorRate) :
    countOf (s.gapPushes n).counters c = countOf s.counters c := by
  induction n generalizing s with
  | zero => rfl
  | succ n ih => rw [State.gapPushes, ih, State.pushDamage_counters_of _ _ h]

/-- What the gap frames of a wait leave beside the assembler (R44). -/
theorem State.waitEnded_keeps (gap : Nat) :
    (∀ c : Counter, c ≠ .errorRate → countOf (s.waitEnded gap).counters c = countOf s.counters c) ∧
    (s.waitEnded gap).rep.isSet .duplicate = s.rep.isSet .duplicate ∧
    (s.waitEnded gap).mon = { s.mon with effective := (s.waitEnded gap).mon.effective } ∧
    s.sameBut [.tape, .dec, .mon, .copy, .counters, .rep] (s.waitEnded gap) := by
  refine ⟨fun c hc => ?_, ?_, ?_, ?_⟩
  · simp [State.waitEnded, State.gapPushes_counters_of _ _ hc]
  · simp [State.waitEnded, State.gapPushes_isSet_of, State.gapSteps_isSet_of]
  · simp only [State.waitEnded, State.modTape_mon, State.gapPushes_frame]
    exact s.gapSteps_mon gap
  · simp [State.sameBut_iff, State.agree, State.waitEnded]

end

end Sys2Proof.Machine
end

section
/-! PROOFS. A write taken by a FILLING slot (R46 to R48), and the overrun (R44): the assembler after each. -/

namespace Sys2Proof.Machine

section
variable (t : Assembler) (k : Fin 4) (b : Nat) (v : Word)

theorem Assembler.took_word {j : Nat} (h : j ≠ 131) : t.took k b j v = t.taken k b j v := if_neg fun e => h e.1

/-- Going to evaluation leaves a slot's blocks. -/
theorem Assembler.sent_blocks : (t.sent k).slots[k].blocks = t.slots[k].blocks := by
  unfold Assembler.sent
  split
  · rw [vmod_same]
  · rfl

theorem Assembler.took_blocks (j : Nat) : (t.took k b j v).slots[k].blocks = (t.taken k b j v).slots[k].blocks := by
  unfold Assembler.took
  split
  · exact Assembler.sent_blocks _ k
  · rfl

theorem Assembler.took_other (j : Nat) {m : Fin 4} (h : m ≠ k) : (t.took k b j v).slots[m] = t.slots[m] := by
  unfold Assembler.took
  split
  · rw [Assembler.sent_slot_other _ h, Assembler.taken_other _ _ _ _ _ h]
  · exact Assembler.taken_other _ _ _ _ _ h

theorem Assembler.took_keeps (j : Nat) : t.took k b j v =
    { t with slots := (t.took k b j v).slots, evalQueue := (t.took k b j v).evalQueue } := by
  unfold Assembler.took
  split
  · exact Assembler.sent_keeps _ k
  · rfl

theorem settled_iff (x : BlockStatus) : x.settled = true ↔ x ≠ .empty ∧ x ≠ .filling := by cases x <;> decide

/-- Word 131 completes the slot where it leaves no block EMPTY or FILLING (R47, R48). -/
theorem Assembler.took_last {t : Assembler} {k : Fin 4} (h : t.slots[k].state = .filling) :
    let u := t.took k b 131 v
    ((∀ n : Fin 14, u.slots[k].blocks[n].status ≠ .empty ∧ u.slots[k].blocks[n].status ≠ .filling) →
      (t.taken k b 131 v).allSettled k = true ∧ u.slots[k].state = .evaluating ∧ u.evalQueue = t.evalQueue ++ [k]) ∧
    ∀ n : Fin 14, u.slots[k].blocks[n].status = .empty ∨ u.slots[k].blocks[n].status = .filling →
      u.slots[k].state = .filling ∧ u.evalQueue = t.evalQueue := by
  have hfill : (t.taken k b 131 v).slots[k].state = .filling := by rw [Assembler.taken_slot, h]
  simp only [Assembler.took_blocks, ← settled_iff, ← Assembler.allSettled_iff]
  refine ⟨fun hall => ⟨hall, ?_⟩, fun n hn => ?_⟩
  · rw [Assembler.took, if_pos ⟨rfl, hall⟩, Assembler.sent_of_filling hfill]
    exact ⟨congrArg TapeSlot.state (vmod_same _ _ _), rfl⟩
  · have hopen : ¬(131 = 131 ∧ (t.taken k b 131 v).allSettled k = true) := fun ⟨_, hall⟩ => by
      have hset := (settled_iff _).mp ((Assembler.allSettled_iff _ _).mp hall n)
      rcases hn with hn | hn
      · exact hset.1 hn
      · exact hset.2 hn
    rw [Assembler.took, if_neg hopen]
    exact ⟨hfill, rfl⟩

end

/-! ### The fill pointer's advance, and the overrun (R43, R44) -/

theorem State.advanceFill_advanced (s : State) (b j : Nat) (v : Word) :
    let n := nextSlot s.tape.fillPtr
    let t := s.advanceFill b j v
    s.tape.Leaves s.tape.fillPtr t.tape ∧
      (∀ k : Fin 4, k ≠ s.tape.fillPtr → k ≠ n → t.tape.slots[k] = s.tape.slots[k]) ∧
      t.tape = { s.tape with slots := t.tape.slots, fillPtr := n, evalQueue := t.tape.evalQueue } := by
  dsimp only
  rw [State.advanceFill_tape]
  exact s.tape.advanced b j v

theorem State.onlyMarks_advanceFill (s : State) (b j : Nat) (v : Word) : s.rep.onlyMarks (s.advanceFill b j v).rep := by
  obtain ⟨-, -, h⟩ := (((s.sendToEvaluation s.tape.fillPtr).modTape fun t =>
    { t with fillPtr := nextSlot s.tape.fillPtr }).beginFill (nextSlot s.tape.fillPtr)).takeTapeWord_keeps
      (nextSlot s.tape.fillPtr) b j v
  exact (State.onlyMarks_sendToEvaluation s s.tape.fillPtr).trans (.trans (State.onlyMarks_markPlayback _) h)

/-- An overrun leaves the slot as an advance would, and waits (R44). -/
theorem State.beginOverrun_overruns (s : State) :
    let t := s.beginOverrun
    s.tape.Leaves s.tape.fillPtr t.tape ∧ (∀ k : Fin 4, k ≠ s.tape.fillPtr → t.tape.slots[k] = s.tape.slots[k]) ∧
      t.tape = { s.tape with
        slots := t.tape.slots, evalQueue := t.tape.evalQueue, wait := some 0, sticky := true } := by
  have hkeep := s.tape.sent_keeps s.tape.fillPtr
  dsimp only
  rw [State.beginOverrun_tape]
  refine ⟨s.tape.leaves_sent s.tape.fillPtr, fun k hk => s.tape.sent_slot_other hk, ?_⟩
  rw [hkeep]

theorem State.beginOverrun_reports (s : State) : s.beginOverrun.bus.treatment = .dropped ∧
    s.beginOverrun.rep.isSet .playOverrun = true ∧
    ∀ c : Counter, countOf s.beginOverrun.counters c =
      if c = .playOverrun then min 65535 (countOf s.counters .playOverrun + 1) else countOf s.counters c := by
  have hmarks := State.onlyMarks_markPlaybackIf
    (((((s.sendToEvaluation s.tape.fillPtr).raise .playOverrun).bump .playOverrun).modTape fun t =>
      { t with wait := some 0, sticky := true })) (!s.tape.sticky)
  refine ⟨rfl, ?_, fun c => ?_⟩
  · refine (hmarks.flags.2.2 _).trans ?_
    simp [(State.onlyMarks_bump _ _).flags.2.2]
  · simp [State.beginOverrun]

theorem State.strayWrite_reports (s : State) : s.strayWrite.bus.treatment = .dropped ∧
    s.strayWrite.rep.isSet .strayWrite = true ∧
    ∀ c : Counter, countOf s.strayWrite.counters c =
      if c = .strayWrite then min 65535 (countOf s.counters .strayWrite + 1) else countOf s.counters c := by
  refine ⟨rfl, ?_, fun c => ?_⟩
  · refine ((State.onlyMarks_bump _ _).flags.2.2 _).trans ?_
    simp
  · simp [State.strayWrite]

end Sys2Proof.Machine
end

section
/-! PROOFS. A capture of a settings field (R164, R165): the value in force, what its change starts, and the write-back called for. -/

namespace Sys2Proof.Machine

/-- What the test of R57 starts from, seen in an earlier state. -/
theorem State.rateTested.earlier {s z t : State} (h : z.rateTested t) (ht : z.tape = s.tape) (hr : z.rep = s.rep)
    (hc : z.counters = s.counters) : s.rateTested t := by
  unfold State.rateTested at h ⊢
  simpa only [State.isSet_eq, State.counter_eq, ht, hr, hc] using h

theorem settingRange_eq (k : Fin 7) : settingRange k =
    ((#v[0, 1, 1, 1, 4, 1, 0] : Vector Nat 7)[k], (#v[2, 64, 15, 14, 64, 896, 15] : Vector Nat 7)[k]) := by
  revert k
  decide

theorem settingOk_iff (k : Fin 7) (n : Nat) :
    settingOk k n = true ↔ (settingRange k).1 ≤ n ∧ n ≤ (settingRange k).2 := by simp [settingOk]

theorem settingRange_le (k : Fin 7) : (settingRange k).1 ≤ (settingRange k).2 := by
  revert k
  decide

theorem settingValue_eq (k : Fin 7) (now n : Nat) : settingValue k now n =
    if (settingRange k).1 ≤ n ∧ n ≤ (settingRange k).2 then n else if k = 0 then now
    else if n < (settingRange k).1 then (settingRange k).1 else (settingRange k).2 := by
  have hle := settingRange_le k
  simp only [settingValue, settingOk_iff]
  split
  · rfl
  · split
    · rfl
    · split <;> omega

/-! ### What a change of a field starts (R56, R57, R165) -/

section
variable (s : State)

theorem State.settingEffect_window : s.settingEffect 4 =
    ((s.modTape fun t => { t with window := [], rateArmed := true }).markPlaybackIf (s.tape.windowSum != 0)).rateTest := rfl

theorem State.settingEffect_thresh : s.settingEffect 5 = s.rateTest := rfl

theorem State.settingEffect_other {k : Fin 7} (h4 : k ≠ 4) (h5 : k ≠ 5) : s.settingEffect k = s := by
  rw [State.settingEffect, if_neg h4, if_neg h5]

/-- The test of R57 moves of the report unit the raised causes and the marks alone. -/
theorem State.rateTest_backSettings : s.rateTest.rep.backSettings = s.rep.backSettings := by
  unfold State.rateTest
  split
  · rw [(State.onlyMarks_bump _ _).rest]
    rfl
  · split <;> rfl

theorem State.settingEffect_rep (k : Fin 7) : (s.settingEffect k).rep.backSettings = s.rep.backSettings ∧
    ∀ c : Cause, c ≠ .errorRate → (s.settingEffect k).rep.isSet c = s.rep.isSet c := by
  by_cases h4 : k = 4
  · subst h4
    have hmark := State.onlyMarks_markPlaybackIf (s.modTape fun t => { t with window := [], rateArmed := true })
      (s.tape.windowSum != 0)
    rw [State.settingEffect_window, State.rateTest_backSettings, hmark.rest]
    refine ⟨rfl, fun c hc => ?_⟩
    rw [State.rateTest_isSet, hmark.flags.2.2]
    simp
  · by_cases h5 : k = 5
    · subst h5
      rw [State.settingEffect_thresh]
      exact ⟨s.rateTest_backSettings, fun c hc => by simp [State.rateTest_isSet, hc]⟩
    · rw [s.settingEffect_other h4 h5]
      exact ⟨rfl, fun _ _ => rfl⟩

/-! ### The value taken (R164) -/

/-- The field at its new value, with what the change starts; as it stood where the value is the one in force. -/
def State.settingTaken (s : State) (k : Fin 7) (n : Nat) : State :=
  if n = s.settings.get k then s else (s.modSettings fun x => x.put k n).settingEffect k

theorem State.captureSetting_eq (k : Fin 7) (v : Word) : s.captureSetting k v =
    let t := s.settingTaken k (settingValue k (s.settings.get k) v.toNat)
    if settingOk k v.toNat then t else t.modRep fun r => { r with backSettings := vset r.backSettings k true } := rfl

theorem State.settingTaken_same {k : Fin 7} {n : Nat} (h : n = s.settings.get k) : s.settingTaken k n = s := if_pos h

theorem State.settingTaken_new {k : Fin 7} {n : Nat} (h : n ≠ s.settings.get k) :
    s.settingTaken k n = (s.modSettings fun x => x.put k n).settingEffect k := if_neg h

theorem State.settingTaken_settings (k j : Fin 7) (n : Nat) :
    (s.settingTaken k n).settings.get j = if j = k then n else s.settings.get j := by
  by_cases h : n = s.settings.get k
  · rw [s.settingTaken_same h]
    split
    · next e => rw [e, h]
    · rfl
  · rw [s.settingTaken_new h]
    simp [Settings.get_put]

theorem State.settingTaken_rep (k : Fin 7) (n : Nat) : (s.settingTaken k n).rep.backSettings = s.rep.backSettings ∧
    ∀ c : Cause, c ≠ .errorRate → (s.settingTaken k n).rep.isSet c = s.rep.isSet c := by
  unfold State.settingTaken
  split
  · exact ⟨rfl, fun _ _ => rfl⟩
  · exact State.settingEffect_rep _ k

theorem State.settingTaken_frame (k : Fin 7) (n : Nat) :
    s.sameBut [.tape, .settings, .counters, .rep] (s.settingTaken k n) := by
  unfold State.settingTaken
  split <;> simp [State.sameBut_iff, State.agree]

/-- A change of W empties the window and arms the monitor: an empty window passes the test of R57 (R56, R57). -/
theorem State.settingTaken_window {n : Nat} (h : n ≠ s.settings.get 4) :
    (s.settingTaken 4 n).tape.window = [] ∧ (s.settingTaken 4 n).tape.rateArmed = true := by
  rw [s.settingTaken_new h, State.settingEffect_window]
  simp [Assembler.armedAfter]

/-- A change of T makes the test of R57 (R165). -/
theorem State.settingTaken_thresh {n : Nat} (h : n ≠ s.settings.get 5) :
    s.rateTested (s.settingTaken 5 n) ∧ (s.settingTaken 5 n).tape.window = s.tape.window := by
  rw [s.settingTaken_new h, State.settingEffect_thresh]
  exact ⟨State.rateTested_rateTest rfl rfl rfl, by simp⟩

theorem State.settingTaken_other {k : Fin 7} (n : Nat) (h4 : k ≠ 4) (h5 : k ≠ 5) :
    s.sameBut [.settings] (s.settingTaken k n) := by
  unfold State.settingTaken
  split
  · simp [State.sameBut_iff, State.agree]
  · rw [State.settingEffect_other _ h4 h5]
    simp [State.sameBut_iff, State.agree]

/-- A capture is the value taken and, for a value out of range, the write-back called for (R164). -/
theorem State.captureSetting_done (k : Fin 7) (v : Word) :
    let t := s.settingTaken k (settingValue k (s.settings.get k) v.toNat)
    let u := s.captureSetting k v
    t.sameBut [.rep] u ∧ (∀ c : Cause, u.rep.isSet c = t.rep.isSet c) ∧
      u.rep.backSettings = if settingOk k v.toNat then s.rep.backSettings else vset s.rep.backSettings k true := by
  intro t u
  have hback : t.rep.backSettings = s.rep.backSettings := (s.settingTaken_rep k _).1
  rw [show u = _ from s.captureSetting_eq k v, ← hback]
  dsimp only
  split
  · exact ⟨fun p _ => by cases p <;> simp [State.agree, t], fun _ => rfl, rfl⟩
  · exact ⟨by simp [State.sameBut_iff, State.agree, t], fun _ => rfl, rfl⟩

end

/-! ### The write (R147, R164) -/

theorem controlWord_settings (k : Fin 7) : controlWord (0x010 + k.val) = .settings k := by
  revert k
  decide

theorem State.exec_settingsWrite {s : State} (h : s.portFree) (k : Fin 7) (v : Word) :
    ∃ w, exec (.settingsWrite k v) s =
      .next (((s.freshAccesses.passWord (ctlBus (0x010 + k.val)) v).captureSetting k v).withCounts w) := by
  have hoff : 0x010 + k.val < 4096 := by omega
  have hserve : s.freshAccesses.controlWrite (ctlBus (0x010 + k.val)) v =
      (s.freshAccesses.passWord (ctlBus (0x010 + k.val)) v).captureSetting k v := by
    rw [State.controlWrite, ctlOffset_ctlBus hoff, controlWord_settings]
  obtain ⟨w, hw⟩ := State.upWrite_control (v := v) h hoff (by simp [hserve, h.2.1])
  rw [hserve] at hw
  exact ⟨w, congrArg Host.Outcome.next hw⟩

end Sys2Proof.Machine
end

section
/-! PROOFS. The arrival of a LOCATE (R112, R113) and the end of an evaluation (R50, R51): what each part of it leaves. -/

namespace Sys2Proof.Machine

/-! ### A LOCATE ended (R112) -/

section
variable (s : State)

/-- The comparator returned and the return test pending: what the end of a LOCATE arms the head from (R112). -/
def State.located (s : State) : State := s.modEdit fun e => { e with owner := .idle, target := none, returnTest := true }

theorem State.endLocate_eq : s.endLocate = s.located.armHead.markEdit := rfl

theorem State.endLocate_waits (h : s.edit.arm = .disarmed ∨ s.edit.rearm ≠ none ∨ s.edit.list = []) :
    s.endLocate = s.located.markEdit := by
  have hno : s.located.edit.canArm = false := by
    simp only [EditEngine.canArm, State.located, State.modEdit_edit]
    rcases h with h | h | h
    · simp [h]
    · simp [Option.isNone_iff_eq_none, h]
    · simp [h]
  rw [State.endLocate_eq, State.armHead_of_not _ hno]

theorem State.endLocate_tested {gone kept : List Entry} (ha : s.edit.arm = .armed) (hr : s.edit.rearm = none)
    (hp : ∃ x rest, s.edit.list = x :: rest ∧ x.state = .pending) (hs : returnSplit s.coder.position s.edit.list gone kept) :
    s.endLocate = (((if gone = [] then s.located else s.located.markEdit.raise .missed).modEdit fun e =>
      EditEngine.armTop
        { e with list := kept, returnTest := false, outcomes := missedRecords gone e.outcomes }).markEdit).markEdit := by
  obtain ⟨x, rest, hl, hx⟩ := hp
  have hcan : s.located.edit.canArm = true := by simp [EditEngine.canArm, State.located, ha, hr, hl, hx]
  rw [State.endLocate_eq, State.armHead_split _ gone kept hcan rfl hs]

/-- What the end of a LOCATE is judged on, and what it leaves, seen in other states. -/
theorem State.locateEnded.congr {s s' t t' : State} (h : s.locateEnded t) (he : s'.edit = s.edit) (hc : s'.coder = s.coder)
    (hm : s'.rep.isSet .missed = s.rep.isSet .missed) (he' : t'.edit = t.edit)
    (hm' : t'.rep.isSet .missed = t.rep.isSet .missed) : s'.locateEnded t' := by
  unfold State.locateEnded at h ⊢
  simpa only [State.isSet_eq, he, hc, hm, he', hm'] using h

theorem State.endLocate_ended : s.locateEnded s.endLocate := by
  refine ⟨fun h => ?_, fun gone kept ha hr hp hs => ?_⟩
  · rw [s.endLocate_waits h]
    exact ⟨rfl, rfl⟩
  · rw [s.endLocate_tested ha hr hp hs]
    have hm : (if gone = [] then s.located else s.located.markEdit.raise .missed).edit = s.located.edit ∧
        (if gone = [] then s.located else s.located.markEdit.raise .missed).rep.isSet .missed =
          (s.rep.isSet .missed || !gone.isEmpty) := by
      by_cases hg : gone = []
      · simp [hg, State.located]
      · rw [if_neg hg, State.raise_isSet]
        simp [hg]
    generalize (if gone = [] then s.located else s.located.markEdit.raise .missed) = m at *
    obtain ⟨hedit, hset⟩ := hm
    refine ⟨hset, fun hk => ?_, fun z rest hk => ?_⟩
    · subst hk
      simp [hedit, EditEngine.armTop, State.located]
    · subst hk
      simp only [State.markEdit_frame, State.modEdit_edit, hedit]
      rw [EditEngine.armTop_cons _ z rest rfl, missedRecords_withState]
      rfl

/-- Arming the head leaves the target, the punch state and the transition of the edit engine (R104). -/
theorem State.armHead_keeps : s.armHead.edit.target = s.edit.target ∧ s.armHead.edit.punch = s.edit.punch ∧
    s.armHead.edit.trans = s.edit.trans := by
  unfold State.armHead
  split
  · have hret : s.applyReturnTest.edit.target = s.edit.target ∧ s.applyReturnTest.edit.punch = s.edit.punch ∧
        s.applyReturnTest.edit.trans = s.edit.trans := by
      unfold State.applyReturnTest
      dsimp only
      repeat' split
      all_goals simp [EditEngine.finish_eq]
    simp only [State.markEdit_frame, State.modEdit_edit, EditEngine.armTop]
    split
    · exact hret
    · simp only [EditEngine.setHead]
      split <;> exact hret
  · exact ⟨rfl, rfl, rfl⟩

/-- The end of a LOCATE: its target dropped and the edit record marked; what the effective source is judged by stands. -/
theorem State.endLocate_keeps : s.endLocate.edit.target = none ∧ s.endLocate.edit.punch = s.edit.punch ∧
    s.endLocate.edit.trans = s.edit.trans ∧ s.endLocate.rep.marks.edit = true := by
  obtain ⟨h1, h2, h3⟩ := s.located.armHead_keeps
  exact ⟨h1, h2, h3, rfl⟩

end

/-! ### A frame handed to the lock machine, the error-rate monitor and a pending LOCATE (R51) -/

/-- A frame of good count `g`, address `a` and damage count `d`, handed over at the end of its evaluation (R51). -/
def State.frameHanded (s : State) (g a d : Nat) : State := ((s.lockStep g (some a)).pushDamage d).locateTest a

/-- A pending LOCATE has arrived at the end of an evaluation that left the lock machine at `l` (R112). -/
def EditEngine.arrived (e : EditEngine) (l : Lock) (a : Nat) : Prop :=
  e.owner = .locateWait ∧ (l.state = .locked ∨ l.state = .flywheel) ∧ ∃ f, e.target = some f ∧ f ≤ a

theorem State.locateTest_arrived {s : State} {a : Nat} (h : s.edit.arrived s.tape.lock a) :
    s.locateTest a = s.endLocate.raise .located := by
  obtain ⟨ho, hl, f, hf, hle⟩ := h
  exact if_pos ⟨ho, hl, by simp [hf, hle]⟩

theorem State.locateTest_waits {s : State} {a : Nat} (h : ¬s.edit.arrived s.tape.lock a) : s.locateTest a = s := by
  refine if_neg fun ⟨ho, hl, ht⟩ => h ⟨ho, hl, ?_⟩
  cases ht' : s.edit.target with
  | none => rw [ht'] at ht; cases ht
  | some f =>
    rw [ht'] at ht
    exact ⟨f, rfl, of_decide_eq_true ht⟩

theorem State.locateTest_isSet (s : State) (a : Nat) {d : Cause} (h : d.group ≠ 2) :
    (s.locateTest a).rep.isSet d = s.rep.isSet d := by
  have hd : (d == .located) = false := beq_false_of_ne (by rintro rfl; exact h rfl)
  unfold State.locateTest
  split
  · rw [State.raise_isSet, hd, Bool.or_false]
    exact (State.onlyMarks_markEdit _).flags.2.2 _ |>.trans (State.armHead_isSet h _)
  · rfl

/-- What the effective source is judged by: the coder, the lock, the punch state and the transition, and the selection (R87, R88). -/
theorem State.effectiveOf_judged {s t : State} (hc : t.coder = s.coder) (hp : t.edit.punch = s.edit.punch)
    (ht : t.edit.trans = s.edit.trans) (hl : t.tape.lock = s.tape.lock) (hm : t.mon.selected = s.mon.selected)
    (ho : t.mon.override = s.mon.override) : t.effectiveOf = s.effectiveOf := by
  simp [State.effectiveOf, State.named, State.autoSource, State.autoRecording, State.bylock, State.fadeInProgress, *]

theorem State.locateTest_effectiveOf (s : State) (a : Nat) : (s.locateTest a).effectiveOf = s.effectiveOf := by
  by_cases h : s.edit.arrived s.tape.lock a
  · rw [State.locateTest_arrived h]
    obtain ⟨-, hp, ht, -⟩ := s.endLocate_keeps
    exact State.effectiveOf_judged (by simp) hp ht (by simp) (by simp) (by simp)
  · rw [State.locateTest_waits h]

section
variable (s : State) (g a d : Nat)

theorem State.frameHanded_tape : (s.frameHanded g a d).tape = { s.tape with
    lock := (s.tape.lock.step s.settings.quorum s.settings.flywheel g (some a)).1
    window := pushWindow s.tape.window s.settings.window d
    rateArmed := (s.frameHanded g a d).tape.rateArmed } := by
  simp [State.frameHanded, Assembler.pushed]

theorem State.frameHanded_frame : s.sameBut [.tape, .dec, .mon, .edit, .copy, .counters, .rep] (s.frameHanded g a d) := by
  simp [State.sameBut_iff, State.agree, State.frameHanded]

theorem State.frameHanded_counters {c : Counter} (h : c ≠ .errorRate) :
    countOf (s.frameHanded g a d).counters c = countOf s.counters c := by
  simp [State.frameHanded, State.pushDamage_counters_of _ _ h]

theorem State.frameHanded_duplicate : (s.frameHanded g a d).rep.isSet .duplicate = s.rep.isSet .duplicate := by
  rw [State.frameHanded, State.locateTest_isSet _ _ (by decide), State.pushDamage_isSet_of _ _ (by decide),
    State.lockStep_isSet_of _ _ _ _ (by decide) (by decide)]

theorem State.lockStep_effective (b : Option Nat) : (s.lockStep g b).mon.effective = (s.lockStep g b).effectiveOf := by
  unfold State.lockStep
  dsimp only
  rw [State.rejudge_effectiveOf, State.rejudge_mon]

/-- The effective source stands re-judged: the push and a LOCATE's end do not move what it is judged by (R52, R89). -/
theorem State.frameHanded_mon : (s.frameHanded g a d).mon = { s.mon with effective := (s.frameHanded g a d).effectiveOf } := by
  have hpush : ((s.lockStep g (some a)).pushDamage d).effectiveOf = (s.lockStep g (some a)).effectiveOf :=
    State.effectiveOf_congr (by simp) (by simp) (by simp [Assembler.pushed]) (by simp) (by simp)
  rw [State.frameHanded, State.locateTest_effectiveOf, hpush, ← State.lockStep_effective]
  simp only [State.locateTest_frame, State.pushDamage_frame]
  exact s.lockStep_mon g (some a)

/-- A LOCATE that has not arrived stands; one that has ends with LOCATED (R112). -/
theorem State.frameHanded_locate : let t := s.frameHanded g a d
    (¬s.edit.arrived t.tape.lock a → t.edit = s.edit ∧ t.rep.isSet .located = s.rep.isSet .located) ∧
    (s.edit.arrived t.tape.lock a →
      t.rep.isSet .located = true ∧ t.edit.target = none ∧ t.rep.marks.edit = true ∧ s.locateEnded t) := by
  have hset : ∀ {c : Cause}, c ≠ .errorRate → c ≠ .lockGained → c ≠ .lockLost →
      ((s.lockStep g (some a)).pushDamage d).rep.isSet c = s.rep.isSet c := fun h1 h2 h3 => by
    rw [State.pushDamage_isSet_of _ _ h1, State.lockStep_isSet_of _ _ _ _ h2 h3]
  have hedit : ((s.lockStep g (some a)).pushDamage d).edit = s.edit := by simp
  have hcoder : ((s.lockStep g (some a)).pushDamage d).coder = s.coder := by simp
  unfold State.frameHanded
  generalize (s.lockStep g (some a)).pushDamage d = m at *
  dsimp only
  rw [m.locateTest_frame a |>.2.2.1, ← hedit]
  refine ⟨fun h => ?_, fun h => ?_⟩
  · rw [State.locateTest_waits h]
    exact ⟨rfl, hset (by decide) (by decide) (by decide)⟩
  · rw [State.locateTest_arrived h]
    obtain ⟨ht, -, -, hm⟩ := m.endLocate_keeps
    exact ⟨by simp, ht, hm, m.endLocate_ended.congr hedit.symm hcoder.symm
      (hset (by decide) (by decide) (by decide)).symm rfl (by simp)⟩

end

/-- What a frame of good count `g`, address `a` and damage count `d` leaves of the lock machine, the error-rate monitor and a
pending LOCATE (R51, R56, R57, R112). -/
structure State.Hands (s : State) (g a d : Nat) (t : State) : Prop where
  lock : t.tape.lock = (s.tape.lock.step s.settings.quorum s.settings.flywheel g (some a)).1
  window : t.tape.window = pushWindow s.tape.window s.settings.window d
  tested : s.rateTested t
  waits : ¬s.edit.arrived t.tape.lock a → t.edit = s.edit ∧ t.rep.isSet .located = s.rep.isSet .located
  arrives : s.edit.arrived t.tape.lock a →
    t.rep.isSet .located = true ∧ t.edit.target = none ∧ t.rep.marks.edit = true ∧ s.locateEnded t

theorem State.frameHanded_hands (s : State) (g a d : Nat) : s.Hands g a d (s.frameHanded g a d) := by
  have htape := s.frameHanded_tape g a d
  have hlocate := s.frameHanded_locate g a d
  have htest : s.rateTested ((s.lockStep g (some a)).pushDamage d) := State.rateTested_pushDamage d (by simp)
    (s.lockStep_isSet_of _ _ _ (by decide) (by decide)) (by simp)
  refine ⟨(congrArg Assembler.lock htape :), (congrArg Assembler.window htape :), ?_, hlocate.1, hlocate.2⟩
  unfold State.frameHanded
  generalize (s.lockStep g (some a)).pushDamage d = m at *
  exact htest.later (by simp) (by simp) (by simp) (by simp) (m.locateTest_isSet a (by decide)) (by simp)

end Sys2Proof.Machine
end

section
/-! PROOFS. The end of an evaluation as a whole (R50, R51): the frame judged accepted or a duplicate, then handed over. -/

namespace Sys2Proof.Machine

/-- With nothing held, only the wait counts settle after an event (R152, R154). -/
theorem State.settle_counts {u : State} (h : u.noneHeld) : ∃ w, u.settle = u.withCounts w :=
  ⟨_, (State.settle_noneHeld _ h).trans rfl⟩

/-- The end of an evaluation with nothing held (R51). -/
theorem State.exec_evaluationEnd {s : State} {j : EvalJob} (hop : s.bus.op = .running) (hn : s.noneHeld)
    (he : s.tape.eval = some j) (hd : 21 ≤ j.done) :
    ∃ w, exec .evaluationEnd s = .next ((s.finishEvaluation j).withCounts w) := by
  have hend : s.evalToEnd = some j := by simp [State.evalToEnd, hop, he, hd]
  obtain ⟨w, hw⟩ := State.settle_counts (u := s.finishEvaluation j) (by simpa [State.noneHeld] using hn)
  refine ⟨w, (?_ : Host.Outcome.next _ = _)⟩
  rw [hend, ← hw]

/-- A judgement of the frame of `s`, before the frame is handed over: what the hand-over is made on stands (R51). -/
structure State.Judging (s m : State) : Prop where
  lock : m.tape.lock = s.tape.lock
  window : m.tape.window = s.tape.window
  armed : m.tape.rateArmed = s.tape.rateArmed
  eval : m.tape.eval = none
  causes : ∀ c : Cause, c ≠ .duplicate → m.rep.isSet c = s.rep.isSet c
  counters : ∀ c : Counter, c ≠ .framesLost → countOf m.counters c = countOf s.counters c
  frame : s.sameBut [.tape, .mon, .counters, .rep] m

theorem State.rateTested.before {s m t : State} (h : m.rateTested t) (ha : m.tape.rateArmed = s.tape.rateArmed)
    (hr : m.rep.isSet .errorRate = s.rep.isSet .errorRate)
    (hc : countOf m.counters .errorRate = countOf s.counters .errorRate) : s.rateTested t := by
  unfold State.rateTested at h ⊢
  simpa only [State.isSet_eq, State.counter_eq, ha, hr, hc] using h

/-- The hand-over of a judged frame, seen from before its judgement. -/
theorem State.Judging.hands {s m t : State} {g a d : Nat} (h : s.Judging m) (ht : m.Hands g a d t) : s.Hands g a d t := by
  have hedit : m.edit = s.edit := h.frame .edit (by simp)
  have hcoder : m.coder = s.coder := h.frame .coder (by simp)
  have hsettings : m.settings = s.settings := h.frame .settings (by simp)
  refine ⟨by rw [ht.lock, h.lock, hsettings], by rw [ht.window, h.window, hsettings],
    ht.tested.before h.armed (h.causes _ (by decide)) (h.counters _ (by decide)), fun hno => ?_, fun ha => ?_⟩
  · rw [← hedit, ← h.causes .located (by decide)]
    exact ht.waits (by rwa [hedit])
  · obtain ⟨h1, h2, h3, h4⟩ := ht.arrives (by rwa [hedit])
    exact ⟨h1, h2, h3, h4.congr hedit.symm hcoder.symm (h.causes _ (by decide)).symm rfl rfl⟩

/-- A judged frame handed over, and the end reported: what `m` has of the slots, the queue, the lost frames and DUPLICATE
stands, and the effective source is re-judged (R51, R52, R89). -/
structure State.SettledAs (s m : State) (g a d : Nat) (t : State) : Prop where
  hands : s.Hands g a d t
  tape : t.tape = { m.tape with lock := t.tape.lock, window := t.tape.window, rateArmed := t.tape.rateArmed }
  mon : t.mon = { m.mon with effective := t.effectiveOf }
  framesLost : countOf t.counters .framesLost = countOf m.counters .framesLost
  duplicate : t.rep.isSet .duplicate = m.rep.isSet .duplicate
  frame : s.sameBut [.port, .tape, .dec, .mon, .edit, .copy, .counters, .rep] t

theorem State.Judging.settled {s m : State} (h : s.Judging m) (g a d : Nat) (w : WaitCounts) :
    s.SettledAs m g a d ((m.frameHanded g a d).markPlayback.withCounts w) := by
  have hands := h.hands (m.frameHanded_hands g a d)
  have htape := m.frameHanded_tape g a d
  have hmon := m.frameHanded_mon g a d
  have hframe := m.frameHanded_frame g a d
  have hlost := m.frameHanded_counters g a d (c := .framesLost) (by decide)
  have hdup := m.frameHanded_duplicate g a d
  generalize m.frameHanded g a d = u at *
  refine ⟨⟨hands.lock, hands.window, hands.tested.later rfl rfl rfl rfl rfl rfl, hands.waits, fun ha => ?_⟩, ?_, hmon, hlost,
    hdup, ?_⟩
  · obtain ⟨h1, h2, h3, h4⟩ := hands.arrives ha
    exact ⟨h1, h2, h3, h4⟩
  · change u.tape = { m.tape with lock := u.tape.lock, window := u.tape.window, rateArmed := u.tape.rateArmed }
    generalize u.tape.rateArmed = r at htape ⊢
    rw [htape]
  · exact (((h.frame.trans hframe).trans (qs := [.rep]) (by simp [State.sameBut_iff, State.agree])).narrow
      (by simp)).withCounts (by simp) w

/-! ### The three ends (R50, R51) -/

section
variable (s : State) (j : EvalJob)

/-- The engine idle, the frame not yet settled (R51). -/
def State.evalEnded : State := s.modTape fun t => { t with eval := none }

theorem State.judging_accept (k : Fin 4) : s.Judging (s.evalEnded.acceptFrame k) := by
  have hrep : (s.evalEnded.acceptFrame k).rep = s.rep := by
    unfold State.acceptFrame
    dsimp only
    split <;> rfl
  exact ⟨by simp [State.evalEnded], by simp [State.evalEnded], by simp [State.evalEnded], by simp [State.evalEnded],
    fun _ _ => by rw [hrep], fun _ _ => by simp [State.evalEnded], by
      simp [State.sameBut_iff, State.agree, State.evalEnded]⟩

theorem State.judging_lose (k : Fin 4) : s.Judging (s.evalEnded.loseFrame k) := by
  refine ⟨by simp [State.evalEnded], by simp [State.evalEnded], by simp [State.evalEnded], by simp [State.evalEnded],
    fun c _ => (State.onlyMarks_bump _ _).flags.2.2 c, fun c hc => ?_, ?_⟩
  · rw [State.loseFrame, State.bump_counters, if_neg hc]
    simp [State.evalEnded]
  · simp [State.sameBut_iff, State.agree, State.evalEnded]

theorem State.judging_duplicate (k : Fin 4) : s.Judging ((s.evalEnded.loseFrame k).raise .duplicate) := by
  have h := s.judging_lose k
  refine ⟨h.lock, h.window, h.armed, h.eval, fun c hc => ?_, h.counters, ?_⟩
  · rw [State.raise_isSet, beq_false_of_ne hc, Bool.or_false, h.causes c hc]
  · exact (h.frame.trans (qs := [.rep]) (by simp [State.sameBut_iff, State.agree])).narrow (by simp)

theorem State.loseFrame_framesLost (k : Fin 4) :
    countOf (s.evalEnded.loseFrame k).counters .framesLost = min 65535 (countOf s.counters .framesLost + 1) := by
  rw [State.loseFrame, State.bump_counters, if_pos rfl]
  simp [State.evalEnded]

theorem State.acceptFrame_mon (k : Fin 4) :
    (s.acceptFrame k).mon = { s.mon with queue := s.mon.queue ++ [k] } := by
  unfold State.acceptFrame
  dsimp only
  split <;> simp

variable {s j}

theorem State.finishEvaluation_accepted (hd : j.discard = false) (h : s.tape.duplicates j.slot = false) :
    s.finishEvaluation j = ((s.evalEnded.acceptFrame j.slot).frameHanded s.tape.slots[j.slot].good
      s.tape.slots[j.slot].frame j.damage).markPlayback := by
  have e : s.evalEnded.frameJudged j = s.evalEnded.acceptFrame j.slot := if_neg (by rw [Bool.not_eq_true]; exact h)
  rw [← e, State.finishEvaluation, if_neg (by simp [hd])]
  rfl

theorem State.finishEvaluation_duplicate (hd : j.discard = false) (h : s.tape.duplicates j.slot = true) :
    s.finishEvaluation j = (((s.evalEnded.loseFrame j.slot).raise .duplicate).frameHanded s.tape.slots[j.slot].good
      s.tape.slots[j.slot].frame j.damage).markPlayback := by
  have e : s.evalEnded.frameJudged j = (s.evalEnded.loseFrame j.slot).raise .duplicate := if_pos h
  rw [← e, State.finishEvaluation, if_neg (by simp [hd])]
  rfl

theorem State.finishEvaluation_discarded (hd : j.discard = true) :
    s.finishEvaluation j = ((s.evalEnded.loseFrame j.slot).markPlayback.lockStep 0 none).pushDamage 14 := if_pos hd

/-- The slots of a discarded frame's end: its own FREE, and what a gap frame leaves of the lock and the window (R50, R51). -/
theorem State.finishEvaluation_lost (hd : j.discard = true) : (s.finishEvaluation j).tape =
    { s.tape with
      slots := vset s.tape.slots j.slot { s.tape.slots[j.slot] with state := .free }, eval := none
      lock := (s.tape.lock.step s.settings.quorum s.settings.flywheel 0 none).1
      window := pushWindow s.tape.window s.settings.window 14
      rateArmed := (s.finishEvaluation j).tape.rateArmed } := by
  rw [State.finishEvaluation_discarded hd]
  simp [State.evalEnded, Assembler.pushed, vmod]

theorem State.finishEvaluation_lost_keeps (hd : j.discard = true) :
    (s.finishEvaluation j).mon.queue = s.mon.queue ∧
    countOf (s.finishEvaluation j).counters .framesLost = min 65535 (countOf s.counters .framesLost + 1) ∧
    s.sameBut [.tape, .dec, .mon, .copy, .counters, .rep] (s.finishEvaluation j) := by
  have hlost := s.loseFrame_framesLost j.slot
  rw [State.finishEvaluation_discarded hd, State.pushDamage_counters_of _ _ (by decide)]
  refine ⟨?_, by simpa using hlost, by simp [State.sameBut_iff, State.agree, State.evalEnded]⟩
  simp only [State.pushDamage_frame]
  rw [State.lockStep_mon]
  simp [State.evalEnded]

theorem State.finishEvaluation_lost_tested (hd : j.discard = true) : s.rateTested (s.finishEvaluation j) := by
  have h := s.judging_lose j.slot
  rw [State.finishEvaluation_discarded hd]
  refine State.rateTested_pushDamage 14 ?_ ?_ ?_
  · simp [State.evalEnded]
  · rw [State.lockStep_isSet_of _ _ _ _ (by decide) (by decide)]
    exact h.causes _ (by decide)
  · have hc := h.counters .errorRate (by decide)
    simpa using hc

end

end Sys2Proof.Machine
end

section
/-! PROOFS. The judgement of a frame (R49, R50): the counts over its fourteen blocks, the vote, the blocks and the fields that the
judgement leaves. -/

namespace Sys2Proof.Machine

/-! ### Counts over the blocks of a slot -/

theorem toList_finRange {α : Type} {n : Nat} (v : Vector α n) : v.toList = (List.finRange n).map fun i => v[i] := by
  apply List.ext_getElem
  · simp
  · intro i h1 h2
    simp

section
variable (v : Vector BlockRec 14)

theorem goodBlocks_eq : goodBlocks v.toList = ((List.finRange 14).filter fun b => v[b].status == .good).map fun b => v[b] := by
  rw [goodBlocks, toList_finRange, List.filter_map]
  rfl

theorem goodBlocks_length : (goodBlocks v.toList).length = blockCount fun b => v[b].status == .good := by
  rw [goodBlocks_eq, List.length_map, blockCount, List.countP_eq_length_filter]

theorem countStatus_eq (st : BlockStatus) : countStatus v.toList st = blockCount fun b => v[b].status == st := by
  rw [countStatus, toList_finRange, List.filter_map, List.length_map, blockCount, List.countP_eq_length_filter]
  rfl

theorem notGood_eq (g : Nat) : notGood v.toList g = blockCount fun b => v[b].status != .good && b.val % 2 == g := by
  have hzip : v.toList.zipIdx = (List.finRange 14).map fun b => (v[b], b.val) := by
    apply List.ext_getElem
    · simp
    · intro i h1 h2
      simp
  rw [notGood, hzip, List.filter_map, List.length_map, blockCount, List.countP_eq_length_filter]
  rfl

theorem mem_goodBlocks (x : BlockRec) : x ∈ goodBlocks v.toList ↔ ∃ b : Fin 14, v[b].status = .good ∧ v[b] = x := by
  simp [goodBlocks_eq]

/-- The votes for an address are the GOOD blocks that carry it (R49 stage 2). -/
theorem goodBlocks_count (f : Nat) : ((goodBlocks v.toList).map BlockRec.frame).count f =
    blockCount fun b => v[b].status == .good && v[b].frame == f := by
  rw [goodBlocks_eq, List.map_map, List.count_eq_countP, List.countP_map, List.countP_filter, blockCount]
  congr 1
  funext b
  simp [Bool.and_comm]

/-- The first of the GOOD blocks is the lowest (R49 stage 4). -/
theorem goodBlocks_head {b : Fin 14} (h : v[b].status = .good) (hlow : ∀ c : Fin 14, c < b → v[c].status ≠ .good) :
    ∃ rest, goodBlocks v.toList = v[b] :: rest := by
  have hsort : ((List.finRange 14).filter fun b => v[b].status == .good).Pairwise (· < ·) :=
    (List.pairwise_lt_finRange 14).filter _
  have hmem : b ∈ (List.finRange 14).filter fun b => v[b].status == .good :=
    List.mem_filter.mpr ⟨List.mem_finRange b, beq_iff_eq.mpr h⟩
  rw [goodBlocks_eq]
  cases hl : (List.finRange 14).filter fun b => v[b].status == .good with
  | nil => rw [hl] at hmem; cases hmem
  | cons c rest =>
    have hc : v[c].status = .good := by
      have : c ∈ (List.finRange 14).filter fun b => v[b].status == .good := by rw [hl]; exact List.mem_cons_self
      simpa using this
    rw [hl] at hmem hsort
    have hbc : b = c := by
      rcases List.mem_cons.mp hmem with e | e
      · exact e
      · exact absurd hc (hlow c (List.rel_of_pairwise_cons hsort e))
    exact ⟨rest.map fun b => v[b], by rw [hbc]; rfl⟩

end

theorem blockCount_split (p q : Fin 14 → Bool) :
    blockCount p = (blockCount fun b => p b && q b) + blockCount fun b => p b && !q b := by
  unfold blockCount
  induction List.finRange 14 with
  | nil => rfl
  | cons b l ih =>
    simp only [List.countP_cons, ih]
    cases p b <;> cases q b <;> simp <;> omega

/-- A block is GOOD, BAD or MISSING, and one of the three alone, once it is judged (R49). -/
theorem blockCount_settled {st : Fin 14 → BlockStatus} (h : ∀ b, (st b).settled = true) :
    (blockCount fun b => st b == .bad) + (blockCount fun b => st b == .missing) = 14 - blockCount fun b => st b == .good := by
  have hall : ∀ l : List (Fin 14), (l.countP fun b => st b == .bad) + (l.countP fun b => st b == .missing) +
      (l.countP fun b => st b == .good) = l.length := fun l => by
    induction l with
    | nil => rfl
    | cons b l ih =>
      have hb := h b
      simp only [List.countP_cons, List.length_cons]
      cases hs : st b <;> simp_all [BlockStatus.settled] <;> omega
  have := hall (List.finRange 14)
  rw [List.length_finRange] at this
  simp only [blockCount]
  omega

theorem blockCount_pos {p : Fin 14 → Bool} (h : 0 < blockCount p) : ∃ b, p b = true := by
  obtain ⟨b, -, hb⟩ := List.countP_pos_iff.mp h
  exact ⟨b, hb⟩

theorem blockCount_zero {p : Fin 14 → Bool} (h : ∀ b, p b = false) : blockCount p = 0 :=
  List.countP_eq_zero.mpr fun b _ => by simp [h]

/-! ### The vote (R49 stage 2) -/

theorem foldl_max_eq {l : List Nat} {m : Nat} (hm : m ∈ l) (hle : ∀ x ∈ l, x ≤ m) : l.foldl max 0 = m :=
  Option.some.inj (List.max?_cons'.symm.trans (List.max?_eq_some_iff.mpr
    ⟨List.mem_cons_of_mem _ hm, List.forall_mem_cons.mpr ⟨Nat.zero_le m, hle⟩⟩))

theorem foldl_min_eq {l : List Nat} {m : Nat} (hm : m ∈ l) (hle : ∀ x ∈ l, m ≤ x) : l.foldl min (l.headD 0) = m := by
  cases l with
  | nil => cases hm
  | cons x l =>
    rw [List.headD_cons, List.foldl_cons, min_self]
    exact Option.some.inj (List.min?_cons'.symm.trans (List.min?_eq_some_iff.mpr ⟨hm, hle⟩))

/-- The winner: the most votes, and of several the expected address, else the smallest (R49 stage 2). -/
theorem voteWinner_eq {e w : Nat} {l : List Nat} (h0 : 0 < l.count w) (hmax : ∀ f, l.count f ≤ l.count w)
    (he : l.count e = l.count w → w = e) (hmin : l.count e ≠ l.count w → ∀ f, l.count f = l.count w → w ≤ f) :
    voteWinner e l = w := by
  have hw : w ∈ l := List.count_pos_iff.mp h0
  have hmost : (l.map fun a => l.count a).foldl max 0 = l.count w := by
    refine foldl_max_eq (List.mem_map_of_mem hw) fun x hx => ?_
    obtain ⟨a, -, rfl⟩ := List.mem_map.mp hx
    exact hmax a
  have htop : ∀ f, f ∈ (l.filter fun a => l.count a == l.count w) ↔ l.count f = l.count w := fun f => by
    simp only [List.mem_filter, beq_iff_eq, and_iff_right_iff_imp]
    exact fun hf => List.count_pos_iff.mp (hf ▸ h0)
  unfold voteWinner
  dsimp only
  rw [hmost]
  by_cases hexp : l.count e = l.count w
  · rw [if_pos (by simpa using (htop e).mpr hexp)]
    exact (he hexp).symm
  · rw [if_neg (by simpa using mt (htop e).mp hexp)]
    exact foldl_min_eq ((htop w).mpr rfl) fun f hf => hmin hexp f ((htop f).mp hf)

/-! ### The copy status of a frame (R1, R49 stage 4) -/

theorem CopyStatus.code_ofCode (n : Nat) : (CopyStatus.ofCode n).code = min 2 n := by
  unfold CopyStatus.ofCode
  split
  · next h => rw [h]; rfl
  · split
    · next h => rw [h]; rfl
    · simp only [CopyStatus.code]
      omega

/-- The most restrictive status: none of the list is more restrictive, and it is one of the list, if there is any (R1). -/
theorem mostRestrictive_code (l : List CopyStatus) : (∀ x ∈ l, x.code ≤ (mostRestrictive l).code) ∧
    (l ≠ [] → ∃ x ∈ l, (mostRestrictive l).code = x.code) := by
  have hfold : ∀ (l : List CopyStatus) (a : CopyStatus),
      (l.foldl CopyStatus.most a).code = (l.map CopyStatus.code).foldl max a.code := fun l => by
    induction l with
    | nil => exact fun _ => rfl
    | cons x l ih => exact fun a => by rw [List.foldl_cons, ih, CopyStatus.most_code]; rfl
  have hmax : (0 :: l.map CopyStatus.code).max? = some (mostRestrictive l).code := by
    rw [mostRestrictive, hfold, List.max?_cons']
    rfl
  obtain ⟨hmem, hle⟩ := List.max?_eq_some_iff.mp hmax
  refine ⟨fun x hx => hle _ (List.mem_cons_of_mem _ (List.mem_map_of_mem hx)), fun hne => ?_⟩
  rcases List.mem_cons.mp hmem with h0 | h
  · obtain ⟨x, rest, rfl⟩ := List.exists_cons_of_ne_nil hne
    have hx := hle _ (List.mem_cons_of_mem _ (List.mem_map_of_mem (List.mem_cons_self (a := x) (l := rest))))
    exact ⟨x, List.mem_cons_self, by omega⟩
  · obtain ⟨x, hx, e⟩ := List.mem_map.mp h
    exact ⟨x, hx, e.symm⟩

/-! ### The blocks judged (R49 stages 1 to 3) -/

theorem BlockRec.closeOff_eq (x : BlockRec) : x.closeOff =
    { x with status := if x.status = .empty ∨ x.status = .filling then .missing else x.status } := by
  obtain ⟨st, _⟩ := x
  cases st <;> rfl

theorem closedOff_good (x : BlockStatus) :
    ((if x = .empty ∨ x = .filling then .missing else x) == BlockStatus.good) = (x == .good) := by cases x <;> rfl

theorem BlockRec.closeOff_good (x : BlockRec) : x.closeOff.status = .good ↔ x.status = .good := by
  obtain ⟨st, _⟩ := x
  cases st <;> simp [BlockRec.closeOff, BlockStatus.settled]

theorem BlockRec.closeOff_frame (x : BlockRec) : x.closeOff.frame = x.frame := by
  rw [BlockRec.closeOff_eq]
  rfl

theorem BlockRec.strike_eq (w : Nat) (x : BlockRec) :
    x.strike w = { x with status := if x.status = .good ∧ x.frame ≠ w then .bad else x.status } := by
  unfold BlockRec.strike
  split <;> rfl

theorem BlockRec.strike_good (w : Nat) (x : BlockRec) :
    (x.strike w).status = .good ↔ x.status = .good ∧ x.frame = w := by
  rw [BlockRec.strike_eq]
  by_cases h : x.status = .good ∧ x.frame ≠ w
  · simp [h]
  · simp only [if_neg h]
    exact ⟨fun hg => ⟨hg, by_contra fun hne => h ⟨hg, hne⟩⟩, fun hg => hg.1⟩

/-- The winner of a slot's vote (R49 stage 2). -/
def slotWinner (e : Nat) (v : Vector BlockRec 14) : Nat :=
  voteWinner e ((goodBlocks (vimap (fun _ x => BlockRec.closeOff x) v).toList).map BlockRec.frame)

section
variable (e : Nat) (v : Vector BlockRec 14) (b : Fin 14)

theorem judgedBlocks_getElem : (judgedBlocks e v)[b] = (v[b].closeOff).strike (slotWinner e v) := by
  unfold judgedBlocks slotWinner
  dsimp only
  rw [vimap_getElem, vimap_getElem]

theorem judgedBlocks_good : (judgedBlocks e v)[b].status = .good ↔ v[b].status = .good ∧ v[b].frame = slotWinner e v := by
  rw [judgedBlocks_getElem, BlockRec.strike_good, BlockRec.closeOff_good, BlockRec.closeOff_frame]

/-- The judgement leaves a block's record but for its status. -/
theorem judgedBlocks_heads : (judgedBlocks e v)[b].headA = v[b].headA ∧ (judgedBlocks e v)[b].headB = v[b].headB := by
  rw [judgedBlocks_getElem, BlockRec.strike_eq, BlockRec.closeOff_eq]
  exact ⟨rfl, rfl⟩

theorem BlockRec.closeOff_settled (x : BlockRec) : x.closeOff.status.settled = true := by
  unfold BlockRec.closeOff
  split
  · assumption
  · rfl

theorem judgedBlocks_settled : (judgedBlocks e v)[b].status.settled = true := by
  rw [judgedBlocks_getElem, BlockRec.strike_eq]
  dsimp only
  split
  · rfl
  · exact BlockRec.closeOff_settled _

/-- The votes of a slot are those of its GOOD blocks (R49 stage 2). -/
theorem slotWinner_eq {w : Nat} {votes : Nat → Nat}
    (hv : ∀ f, votes f = blockCount fun b => v[b].status == .good && v[b].frame == f) (h0 : 0 < votes w)
    (hmax : ∀ f, votes f ≤ votes w) (he : votes e = votes w → w = e)
    (hmin : votes e ≠ votes w → ∀ f, votes f = votes w → w ≤ f) : slotWinner e v = w := by
  have hc : ∀ f, ((goodBlocks (vimap (fun _ x => BlockRec.closeOff x) v).toList).map BlockRec.frame).count f = votes f :=
    fun f => by
      rw [goodBlocks_count, hv]
      congr 1
      funext b
      rw [vimap_getElem, BlockRec.closeOff_frame, Bool.eq_iff_iff]
      simp [BlockRec.closeOff_good]
  refine voteWinner_eq ?_ ?_ ?_ ?_ <;> simp only [hc] <;> assumption

end

/-! ### The slot judged (R49 stages 4 and 5, R50) -/

section
variable (sl : TapeSlot) (x : Lock) (rate : Nat) (st : CopyStatus)

/-- What the judgement leaves of a slot whether or not a block is GOOD. -/
theorem TapeSlot.judged_counts : (sl.judged x rate st).blocks = judgedBlocks x.expected sl.blocks ∧
    (sl.judged x rate st).good = (blockCount fun b => (judgedBlocks x.expected sl.blocks)[b].status == .good) ∧
    (sl.judged x rate st).corrA = corrOfCount (notGood (judgedBlocks x.expected sl.blocks).toList 0) ∧
    (sl.judged x rate st).corrB = corrOfCount (notGood (judgedBlocks x.expected sl.blocks).toList 1) := by
  rw [← goodBlocks_length]
  unfold TapeSlot.judged
  dsimp only
  generalize judgedBlocks x.expected sl.blocks = bs
  repeat' split
  all_goals exact ⟨rfl, rfl, rfl, rfl⟩

/-- The fields of a frame with GOOD blocks: those of the lowest, and the most restrictive status (R49 stage 4). -/
theorem TapeSlot.judged_fields {b : Fin 14} (h : (judgedBlocks x.expected sl.blocks)[b].status = .good)
    (hlow : ∀ c : Fin 14, c < b → (judgedBlocks x.expected sl.blocks)[c].status ≠ .good) :
    (sl.judged x rate st).frame = sl.blocks[b].frame ∧ (sl.judged x rate st).rate = headRate sl.blocks[b].headA ∧
    (sl.judged x rate st).status = mostRestrictive
      ((goodBlocks (judgedBlocks x.expected sl.blocks).toList).map fun z => CopyStatus.ofCode (headStatus z.headA)) := by
  obtain ⟨rest, hl⟩ := goodBlocks_head _ h hlow
  obtain ⟨hA, hB⟩ := judgedBlocks_heads x.expected sl.blocks b
  rw [BlockRec.frame, ← hA, ← hB]
  unfold TapeSlot.judged
  dsimp only
  generalize judgedBlocks x.expected sl.blocks = bs at hl ⊢
  rw [hl]
  exact ⟨rfl, rfl, rfl⟩

/-- The fields of a frame with no GOOD block: the expected address and the carried subcode, or as they stood (R50). -/
theorem TapeSlot.judged_none (h : ∀ b : Fin 14, (judgedBlocks x.expected sl.blocks)[b].status ≠ .good) :
    ((x.state = .locked ∨ x.state = .flywheel) → (sl.judged x rate st).frame = x.expected ∧
      (sl.judged x rate st).rate = rate ∧ (sl.judged x rate st).status = st) ∧
    (¬(x.state = .locked ∨ x.state = .flywheel) → (sl.judged x rate st).frame = sl.frame ∧
      (sl.judged x rate st).rate = sl.rate ∧ (sl.judged x rate st).status = sl.status) := by
  have hnil : goodBlocks (judgedBlocks x.expected sl.blocks).toList = [] :=
    List.eq_nil_iff_forall_not_mem.mpr fun y hy => by
      obtain ⟨b, hb, -⟩ := (mem_goodBlocks _ y).mp hy
      exact h b hb
  unfold TapeSlot.judged
  dsimp only
  generalize judgedBlocks x.expected sl.blocks = bs at hnil ⊢
  rw [hnil]
  refine ⟨fun hl => ?_, fun hl => ?_⟩
  · rw [if_pos hl]
    exact ⟨rfl, rfl, rfl⟩
  · rw [if_neg hl]
    exact ⟨rfl, rfl, rfl⟩

end

/-- The fields of a frame whose vote has a winner (R49 stage 4). -/
theorem TapeSlot.judged_won {sl : TapeSlot} {x : Lock} (rate : Nat) (st : CopyStatus) {a : Fin 14}
    (ha : (judgedBlocks x.expected sl.blocks)[a].status = .good) :
    let y := sl.judged x rate st
    let bs := judgedBlocks x.expected sl.blocks
    y.frame = slotWinner x.expected sl.blocks ∧
    (∀ b : Fin 14, bs[b].status = .good → (∀ c : Fin 14, c < b → bs[c].status ≠ .good) →
      y.rate = headRate sl.blocks[b].headA) ∧
    (∀ b : Fin 14, bs[b].status = .good → min 2 (headStatus sl.blocks[b].headA) ≤ y.status.code) ∧
    ∃ b : Fin 14, bs[b].status = .good ∧ y.status.code = min 2 (headStatus sl.blocks[b].headA) := by
  intro y bs
  obtain ⟨l, hl, hlow⟩ := wellFounded_lt.has_min {b : Fin 14 | bs[b].status = .good} ⟨a, ha⟩
  obtain ⟨hframe, -, hstatus⟩ := sl.judged_fields x rate st hl fun c hc hg => hlow c hg hc
  have hhead : ∀ b : Fin 14, bs[b].headA = sl.blocks[b].headA := fun b => (judgedBlocks_heads x.expected sl.blocks b).1
  have hmem : ∀ b : Fin 14, bs[b].status = .good → CopyStatus.ofCode (headStatus sl.blocks[b].headA) ∈
      (goodBlocks bs.toList).map fun z => CopyStatus.ofCode (headStatus z.headA) := fun b hb => by
    rw [← hhead b]
    exact List.mem_map_of_mem ((mem_goodBlocks bs bs[b]).mpr ⟨b, hb, rfl⟩)
  obtain ⟨hle, hone⟩ := mostRestrictive_code ((goodBlocks bs.toList).map fun z => CopyStatus.ofCode (headStatus z.headA))
  rw [show y.status = _ from hstatus]
  refine ⟨hframe.trans ((judgedBlocks_good x.expected sl.blocks l).mp hl).2, fun b hb hlowest =>
    (sl.judged_fields x rate st hb hlowest).2.1, fun b hb => ?_, ?_⟩
  · rw [← CopyStatus.code_ofCode]
    exact hle _ (hmem b hb)
  · obtain ⟨c, hc, e⟩ := hone (List.ne_nil_of_mem (hmem a ha))
    obtain ⟨z, hz, rfl⟩ := List.mem_map.mp hc
    obtain ⟨b, hb, rfl⟩ := (mem_goodBlocks bs z).mp hz
    exact ⟨b, hb, by rw [e, CopyStatus.code_ofCode, hhead]⟩

/-- A judged block: closed off, and BAD where it is GOOD with another address than the winner (R49 stages 1 and 3). -/
theorem judgedBlocks_eq (e : Nat) (v : Vector BlockRec 14) (b : Fin 14) :
    let closed := if v[b].status = .empty ∨ v[b].status = .filling then .missing else v[b].status
    (judgedBlocks e v)[b] =
      { v[b] with status := if closed = .good ∧ v[b].frame ≠ slotWinner e v then .bad else closed } := by
  intro closed
  rw [judgedBlocks_getElem, BlockRec.strike_eq, BlockRec.closeOff_frame, BlockRec.closeOff_eq]

/-- With no GOOD block the judgement only closes the blocks off (R49 stage 1). -/
theorem judgedBlocks_none {v : Vector BlockRec 14} (e : Nat) (h : ∀ b : Fin 14, v[b].status ≠ .good) (b : Fin 14) :
    (judgedBlocks e v)[b] =
      { v[b] with status := if v[b].status = .empty ∨ v[b].status = .filling then .missing else v[b].status } := by
  have hno : ¬(v[b].closeOff.status = .good ∧ v[b].closeOff.frame ≠ slotWinner e v) := fun hg =>
    h b ((BlockRec.closeOff_good _).mp hg.1)
  rw [judgedBlocks_getElem, BlockRec.strike, if_neg hno, BlockRec.closeOff_eq]

theorem corrOfCount_notGood (v : Vector BlockRec 14) {g n : Nat}
    (h : n = blockCount fun b => v[b].status != .good && b.val % 2 == g) :
    corrOfCount (notGood v.toList g) = if n = 0 then .clean else if n = 1 then .correctable else .uncorrectable := by
  rw [h, ← notGood_eq]
  rfl

/-- The strays are the GOOD blocks of another address than the winner (R49 stage 3). -/
theorem strays_eq (e : Nat) (v : Vector BlockRec 14) :
    (goodBlocks v.toList).length - (blockCount fun b => (judgedBlocks e v)[b].status == .good) =
      blockCount fun b => v[b].status == .good && !(v[b].frame == slotWinner e v) := by
  have hgood : (blockCount fun b => (judgedBlocks e v)[b].status == .good) =
      blockCount fun b => v[b].status == .good && v[b].frame == slotWinner e v := by
    congr 1
    funext b
    rw [Bool.eq_iff_iff]
    simpa using judgedBlocks_good e v b
  rw [goodBlocks_length, hgood, blockCount_split (fun b => v[b].status == .good) fun b => v[b].frame == slotWinner e v,
    Nat.add_sub_cancel_left]

/-! ### The take (R48, R49) -/

/-- The three counts of a take, each its own counter (R49). -/
theorem State.counted (s : State) (strays bad missing : Nat) :
    let t := ((s.count .strayBlock strays).count .blocksBad bad).count .blocksMissing missing
    countOf t.counters .strayBlock = min 65535 (countOf s.counters .strayBlock + strays) ∧
    countOf t.counters .blocksBad = min 65535 (countOf s.counters .blocksBad + bad) ∧
    countOf t.counters .blocksMissing = min 65535 (countOf s.counters .blocksMissing + missing) ∧
    (∀ c : Counter, c ≠ .strayBlock → c ≠ .blocksBad → c ≠ .blocksMissing →
      countOf t.counters c = countOf s.counters c) ∧ t.rep.raised = s.rep.raised ∧ s.sameBut [.counters, .rep] t := by
  refine ⟨by simp, by simp, by simp, fun c h1 h2 h3 => by simp [h1, h2, h3], ?_, by
    simp [State.sameBut_iff, State.agree]⟩
  exact (((s.onlyMarks_count _ _).trans (State.onlyMarks_count _ _ _)).trans (State.onlyMarks_count _ _ _)).flags.1

section
variable (s : State) (k : Fin 4) (rest : List (Fin 4))

/-- The slot judged and the engine's job set, before the counts (R48, R49). -/
def State.judgedTake : State :=
  let y := s.tape.slots[k].judged s.tape.lock s.tape.carriedRate s.tape.carriedStatus
  (s.modTapeSlot k fun _ => y).modTape fun t => { t with
    evalQueue := rest
    eval := some
      { slot := k, discard := y.discarded t.lock
        damage := countStatus y.blocks.toList .bad + countStatus y.blocks.toList .missing, done := 0 } }

theorem State.takeEvaluation_eq : s.takeEvaluation k rest =
    let y := s.tape.slots[k].judged s.tape.lock s.tape.carriedRate s.tape.carriedStatus
    (((s.judgedTake k rest).count .strayBlock ((goodBlocks s.tape.slots[k].blocks.toList).length - y.good)).count
      .blocksBad (countStatus y.blocks.toList .bad)).count .blocksMissing (countStatus y.blocks.toList .missing) := rfl

theorem State.judgedTake_keeps : (s.judgedTake k rest).counters = s.counters ∧ (s.judgedTake k rest).rep = s.rep ∧
    s.sameBut [.tape] (s.judgedTake k rest) := ⟨rfl, rfl, by simp [State.sameBut_iff, State.agree, State.judgedTake]⟩

variable {s k rest}

theorem State.exec_evaluationTake (hop : s.bus.op = .running) (hn : s.noneHeld) (he : s.tape.eval = none)
    (hq : s.tape.evalQueue = k :: rest) :
    ∃ w, exec .evaluationTake s = .next ((s.takeEvaluation k rest).withCounts w) := by
  obtain ⟨w, hw⟩ := State.settle_counts (u := s.takeEvaluation k rest) (by simpa [State.noneHeld] using hn)
  refine ⟨w, (?_ : Host.Outcome.next _ = _)⟩
  rw [if_pos ⟨hop, he⟩, hq, ← hw]

end

end Sys2Proof.Machine
end

section
/-! PROOFS. The memory port's grants (R153, R154): whom the port goes to, the access that each engine makes, and the wait counts
after a grant. -/

namespace Sys2Proof.Machine

/-! ### Whom the port goes to (R153, R154) -/

section
variable (s : State)

/-- An engine may be granted the port: it waits, and under the guard its count stands at 16 (R153, R154). -/
def State.mayTake (e : Engine) : Prop := s.waiting e = true ∧ (s.guarding = true → Config.guardCount ≤ s.bus.counts.get e)

theorem State.mayTake_iff (e : Engine) : s.mayTake e ↔
    (s.waiting e && (!s.guarding || decide (Config.guardCount ≤ s.bus.counts.get e))) = true := by
  unfold State.mayTake
  cases s.guarding <;> simp

/-- The first engine that satisfies `p`, in order of priority (R153). -/
theorem firstEngine_iff (p : Engine → Bool) :
    let first := ([.close, .eval, .report] : List Engine).find? p
    (first = some .close ↔ p .close = true) ∧ (first = some .eval ↔ p .eval = true ∧ ¬p .close = true) ∧
    (first = some .report ↔ p .report = true ∧ ¬p .close = true ∧ ¬p .eval = true) := by
  cases hc : p .close with
  | true => simp [hc]
  | false =>
    cases he : p .eval with
    | true => simp [hc, he]
    | false => cases hr : p .report <;> simp [hc, he, hr]

theorem State.grantee_iff : (s.grantee = some .close ↔ s.mayTake .close) ∧
    (s.grantee = some .eval ↔ s.mayTake .eval ∧ ¬s.mayTake .close) ∧
    (s.grantee = some .report ↔ s.mayTake .report ∧ ¬s.mayTake .close ∧ ¬s.mayTake .eval) := by
  simp only [State.mayTake_iff]
  exact firstEngine_iff _

end

/-! ### A grant (R153, R154) -/

theorem WaitCounts.get_put (w : WaitCounts) (e d : Engine) (n : Nat) :
    (w.put e n).get d = if d = e then n else w.get d := by
  cases e <;> cases d <;> rfl

theorem State.normCounts_get (s : State) (e : Engine) :
    s.normCounts.bus.counts.get e = if s.waiting e then s.bus.counts.get e else 0 := by
  cases e <;> rfl

/-- What waits for the port does not depend on the wait counts. -/
theorem State.waiting_normCounts (s : State) (e : Engine) : s.normCounts.waiting e = s.waiting e := by
  cases e <;> rfl

section
variable {s : State} (hop : s.bus.op = .running) (hn : s.noneHeld)
include hop hn

theorem State.exec_grant {e : Engine} (hg : s.grantee = some e) :
    exec .enginePortGrant s = .next (s.grant e).normCounts := by
  rw [← State.settle_noneHeld (s.grant e) ⟨by simpa [State.grant] using hn.1, by simpa [State.grant] using hn.2⟩]
  change Host.Outcome.next _ = _
  rw [if_pos hop, hg]

theorem State.exec_grant_counts {e : Engine} (hg : s.grantee = some e) :
    ∃ t, exec .enginePortGrant s = .next t ∧ t.bus.counts.get e = 0 ∧
      ∀ d : Engine, d ≠ e → t.bus.counts.get d = if t.waiting d then s.bus.counts.get d else 0 := by
  have hcounts : (s.grant e).bus.counts = s.bus.counts.put e 0 := by simp [State.grant]
  refine ⟨_, State.exec_grant hop hn hg, ?_, fun d hd => ?_⟩
  · rw [State.normCounts_get, hcounts, WaitCounts.get_put, if_pos rfl, ite_self]
  · rw [State.normCounts_get, hcounts, WaitCounts.get_put, if_neg hd, State.waiting_normCounts]

/-- A grant with nothing held is one access of the engine it serves; else only the wait counts move. -/
theorem State.exec_granted {e : Engine} (hg : s.grantee = some e) :
    ∃ w, exec .enginePortGrant s = .next ((s.engineAccess e).withCounts w) :=
  ⟨_, State.exec_grant hop hn hg⟩

end

/-! ### The accesses (R48, R159, R168) -/

/-- A word of the control area written. -/
theorem State.poked_control {s t : State} (hwf : s.mem.wf = true) {off : Nat} (hoff : off < 4096) (v : Word)
    (hm : t.mem = (s.poke (ctlAddr off) v).mem) : t.peek (0x7F000 + off) = v ∧ s.memSameBut [0x7F000 + off] t := by
  obtain ⟨h1, h2⟩ := State.poked_word hwf (ctlAddr off) v hm
  rw [Nat.mod_eq_of_lt (by simp only [ctlAddr, Config.controlBase, Config.memoryWords]; omega)] at h2
  exact ⟨h1, h2⟩

section
variable {s : State} (hop : s.bus.op = .running) (hn : s.noneHeld) (hc : s.waiting .close = false)
include hop hn hc

omit hop in
theorem State.grantee_eval (he : s.waiting .eval = true) : s.grantee = some .eval := by
  have hguard : s.guarding = false := by rw [State.guarding, hn.1]; rfl
  refine s.grantee_iff.2.1.mpr ⟨⟨he, by simp [hguard]⟩, fun h => ?_⟩
  rw [h.1] at hc
  cases hc

omit hop in
theorem State.grantee_report (he : s.waiting .eval = false) (hr : s.waiting .report = true) :
    s.grantee = some .report := by
  have hguard : s.guarding = false := by rw [State.guarding, hn.1]; rfl
  refine s.grantee_iff.2.2.mpr ⟨⟨hr, by simp [hguard]⟩, fun h => ?_, fun h => ?_⟩
  · rw [h.1] at hc
    cases hc
  · rw [h.1] at he
    cases he

/-- The evaluation engine's next word (R48). -/
theorem State.exec_evalGrant {j : EvalJob} (hj : s.tape.eval = some j) (hd : j.done < 21) :
    ∃ w, exec .enginePortGrant s = .next ((s.evalAccess j).withCounts w) := by
  have he : s.waiting .eval = true := by simp [State.waiting, Assembler.evalWaiting, hj, hd]
  have ha : s.engineAccess .eval = s.evalAccess j := by simp only [State.engineAccess, hj]
  rw [← ha]
  exact State.exec_granted hop hn (State.grantee_eval hn hc he)

/-- The pass's next write (R168). -/
theorem State.exec_passGrant (he : s.waiting .eval = false) {x : RepWrite} {rest : List RepWrite}
    (hp : s.rep.pass = some (x :: rest)) (hx : x = .summary → s.rep.summary ≠ s.rep.lastSummary) :
    ∃ w, exec .enginePortGrant s =
      .next (((s.passWrite x).modRep fun r => { r with pass := some rest }).withCounts w) := by
  have hr : s.waiting .report = true := by
    simp only [State.waiting, State.reportWaiting, hp, ReportUnit.passWanting]
    cases x <;> simp_all
  have ha : s.engineAccess .report = (s.passWrite x).modRep fun r => { r with pass := some rest } := by
    simp only [State.engineAccess, State.passAccess, hp]
  rw [← ha]
  exact State.exec_granted hop hn (State.grantee_report hn hc he hr)

/-- A write of a pass writes one word, and moves of the report unit what that write does and the pass (R168). -/
theorem State.exec_passWritten (hwf : s.mem.wf = true) (he : s.waiting .eval = false) {x : RepWrite} {rest : List RepWrite}
    (hp : s.rep.pass = some (x :: rest)) (hx : x = .summary → s.rep.summary ≠ s.rep.lastSummary) {off : Nat} {v : Word}
    (hoff : off < 4096) (hm : (s.passWrite x).mem = (s.poke (ctlAddr off) v).mem) :
    ∃ t, exec .enginePortGrant s = .next t ∧ t.peek (0x7F000 + off) = v ∧ s.memSameBut [0x7F000 + off] t ∧
      t.rep = { (s.passWrite x).rep with pass := some rest } ∧ s.sameBut [.port, .rep, .mem] t := by
  obtain ⟨w, hw⟩ := State.exec_passGrant hop hn hc he hp hx
  obtain ⟨hword, hmem⟩ := State.poked_control
    (t := ((s.passWrite x).modRep fun r => { r with pass := some rest }).withCounts w) hwf hoff v hm
  exact ⟨_, hw, hword, hmem, rfl, by simp [State.sameBut_iff, State.agree]⟩

/-- The command unit's next read of the entry (R159). -/
theorem State.exec_readGrant (he : s.waiting .eval = false) {ws : List Word} (hp : s.rep.pass = none)
    (hw : s.cmd.phase = .reading ws) :
    ∃ w, exec .enginePortGrant s = .next ((s.modCmd fun c =>
      { c with phase := phaseOfWords (ws ++ [s.peek (ctlAddr (c.entryOffset ws.length))]) }).withCounts w) := by
  have hr : s.waiting .report = true := by
    simp only [State.waiting, State.reportWaiting, hp, CommandUnit.wanting, hw]
  have ha : s.engineAccess .report = s.modCmd fun c =>
      { c with phase := phaseOfWords (ws ++ [s.peek (ctlAddr (c.entryOffset ws.length))]) } := by
    simp only [State.engineAccess, hp, State.commandAccess, hw]
  rw [← ha]
  exact State.exec_granted hop hn (State.grantee_report hn hc he hr)

end

/-- Before its third word an entry goes on being read (R159). -/
theorem phaseOfWords_reading {ws : List Word} (h : ws.length < 3) : phaseOfWords ws = .reading ws := by
  match ws, h with
  | [], _ | [_], _ | [_, _], _ => rfl

theorem entryOffset_addr (c : CommandUnit) (n : Nat) :
    ctlAddr (c.entryOffset n) = 0x7F060 + 4 * (c.consumer.toNat % 16) + n := by
  simp only [ctlAddr, CommandUnit.entryOffset, Config.controlBase]
  omega

/-! ### Layouts (R170, R175) -/

theorem TapeSlot.evalWord_block (x : TapeSlot) (b : Fin 14) :
    x.evalWord (7 + b.val) = word x.blocks[b].status.code := by
  have hpast : ∀ m : Nat, x.evalWord (m + 7) = word (vget x.blocks m BlockRec.reset).status.code := fun _ => rfl
  rw [Nat.add_comm, hpast, vget_fin]

theorem mem_groups (g : Fin 6) : g ∈ groups := by
  revert g
  decide

theorem groupBit_getLsbD (g h : Fin 6) : (groupBit g).getLsbD h.val = (g == h) := by
  revert g h
  decide

/-- A bit of the summary word is set where its group has a POSTED cause (R170, R177). -/
theorem ReportUnit.summary_bit (r : ReportUnit) (g : Fin 6) : r.summary.getLsbD g.val = (r.posted[g] != 0) := by
  have hfold : ∀ (l : List (Fin 6)) (w : Word),
      (l.foldl (fun w h => if r.posted[h] = 0 then w else w ||| groupBit h) w).getLsbD g.val =
        (w.getLsbD g.val || l.any fun h => h == g && r.posted[h] != 0) := fun l => by
    induction l with
    | nil => simp
    | cons h l ih =>
      intro w
      rw [List.foldl_cons, ih, List.any_cons]
      split
      · next h0 => simp [h0]
      · next h0 =>
        rw [bne_iff_ne.mpr h0, Bool.and_true, BitVec.getLsbD_or, groupBit_getLsbD, Bool.or_assoc]
  have hzero : (0 : Word).getLsbD g.val = false := BitVec.getLsbD_zero
  rw [ReportUnit.summary, hfold, hzero, Bool.false_or, Bool.eq_iff_iff, List.any_eq_true]
  refine ⟨fun ⟨h, _, hh⟩ => ?_, fun h => ⟨g, mem_groups g, Bool.and_eq_true_iff.mpr ⟨beq_self_eq_true g, h⟩⟩⟩
  obtain ⟨e, hp⟩ := Bool.and_eq_true_iff.mp hh
  obtain rfl := eq_of_beq e
  exact hp

end Sys2Proof.Machine
end

section
/-! PROOFS. The wait counts through a service (R154): no operation of the regions moves them, so only the end of the service
does. One lemma per operation, in the order of the definitions. -/

namespace Sys2Proof.Machine

section
variable (s : State)

@[simp] theorem State.addAccesses_counts (n : Nat) : (s.addAccesses n).bus.counts = s.bus.counts := rfl

@[simp] theorem State.upPoke_counts (a : Nat) (v : Word) : (s.upPoke a v).bus.counts = s.bus.counts := rfl

@[simp] theorem State.treat_counts (t : Treatment) : (s.treat t).bus.counts = s.bus.counts := rfl

@[simp] theorem State.answer_counts (t : Treatment) (v : Word) : (s.answer t v).bus.counts = s.bus.counts := rfl

@[simp] theorem State.hold_counts (t : Txn) (k : HoldKind) : (s.hold t k).bus.counts = s.bus.counts := rfl

@[simp] theorem State.monitorRequest_counts (f : Option Nat) (n : Nat) (c : Fin 2) :
    (s.monitorRequest f n c).bus.counts = s.bus.counts := by
  unfold State.monitorRequest
  dsimp only
  all_goals simp

@[simp] theorem State.mixRequest_counts (f n : Nat) (c : Fin 2) : (s.mixRequest f n c).bus.counts = s.bus.counts := by
  unfold State.mixRequest
  dsimp only
  repeat' split
  all_goals simp

@[simp] theorem State.takeTapeWord_counts (k : Fin 4) (b j : Nat) (v : Word) :
    (s.takeTapeWord k b j v).bus.counts = s.bus.counts := by
  unfold State.takeTapeWord
  dsimp only
  repeat' split
  all_goals simp

@[simp] theorem State.advanceFill_counts (b j : Nat) (v : Word) : (s.advanceFill b j v).bus.counts = s.bus.counts := by simp [State.advanceFill]

@[simp] theorem State.beginOverrun_counts : (s.beginOverrun).bus.counts = s.bus.counts := by simp [State.beginOverrun]

@[simp] theorem State.strayWrite_counts : (s.strayWrite).bus.counts = s.bus.counts := by simp [State.strayWrite]

@[simp] theorem State.waitWrite_counts (gap : Nat) (k b j : Nat) (v : Word) :
    (s.waitWrite gap k b j v).bus.counts = s.bus.counts := by
  unfold State.waitWrite
  dsimp only
  repeat' split
  all_goals simp

@[simp] theorem State.fillWrite_counts (k b j : Nat) (v : Word) : (s.fillWrite k b j v).bus.counts = s.bus.counts := by
  unfold State.fillWrite
  dsimp only
  repeat' split
  all_goals simp

@[simp] theorem State.formatterWrite_counts (y : Nat) (v : Word) : (s.formatterWrite y v).bus.counts = s.bus.counts := by
  unfold State.formatterWrite
  repeat' split
  all_goals simp

@[simp] theorem State.fetchOld_counts (n : Nat) : (s.fetchOld n).bus.counts = s.bus.counts := by simp [State.fetchOld]

@[simp] theorem State.storeWord_counts (k : Fin 4) (b p : Nat) (x : Word) :
    (s.storeWord k b p x).bus.counts = s.bus.counts := by simp [State.storeWord]

@[simp] theorem State.settleAndStore_counts (k : Fin 4) (n : Nat) (c : Fin 2) (v : Word) :
    (s.settleAndStore k n c v).bus.counts = s.bus.counts := by
  unfold State.settleAndStore
  dsimp only
  repeat' split
  all_goals simp

@[simp] theorem State.wordWrite_counts (k : Fin 4) (n : Nat) (c : Fin 2) (v : Word) :
    (s.wordWrite k n c v).bus.counts = s.bus.counts := by
  unfold State.wordWrite
  dsimp only
  repeat' split
  all_goals simp

@[simp] theorem State.landWrite_counts (t : Txn) (h : Fin 2) (n : Nat) (c : Fin 2) (v : Word) :
    (s.landWrite t h n c v).bus.counts = s.bus.counts := by
  unfold State.landWrite
  repeat' split
  all_goals simp

@[simp] theorem State.rangeEnd_counts (c : Fin 2) (v : Word) : (s.rangeEnd c v).bus.counts = s.bus.counts := by
  unfold State.rangeEnd
  all_goals simp

@[simp] theorem State.turnover_counts (t : Txn) (h : Fin 2) (n : Nat) (c : Fin 2) (v : Word) :
    (s.turnover t h n c v).bus.counts = s.bus.counts := by
  unfold State.turnover
  dsimp only
  repeat' split
  all_goals simp

@[simp] theorem State.idleWrite_counts (c : Fin 2) (v : Word) : (s.idleWrite c v).bus.counts = s.bus.counts := by simp [State.idleWrite]

@[simp] theorem State.recordWrite_counts (t : Txn) (o : Nat) (v : Word) :
    (s.recordWrite t o v).bus.counts = s.bus.counts := by
  unfold State.recordWrite
  dsimp only
  repeat' split
  all_goals simp

@[simp] theorem State.recordRead_counts (o : Nat) : (s.recordRead o).bus.counts = s.bus.counts := by simp [State.recordRead]

@[simp] theorem State.passRead_counts (a : BusAddr) : (s.passRead a).bus.counts = s.bus.counts := rfl

@[simp] theorem State.passWord_counts (a : BusAddr) (v : Word) : (s.passWord a v).bus.counts = s.bus.counts := rfl

@[simp] theorem State.dropWith_counts (c : Cause) : (s.dropWith c).bus.counts = s.bus.counts := by simp [State.dropWith]

@[simp] theorem State.captureTable_counts (k : Fin 4) (v : Word) : (s.captureTable k v).bus.counts = s.bus.counts := by
  unfold State.captureTable
  dsimp only
  repeat' split
  all_goals simp

@[simp] theorem State.tableWrite_counts (a : BusAddr) (k : Fin 4) (v : Word) :
    (s.tableWrite a k v).bus.counts = s.bus.counts := by
  unfold State.tableWrite
  repeat' split
  all_goals simp

@[simp] theorem State.policyWrite_counts (a : BusAddr) (k : Fin 21) (v : Word) :
    (s.policyWrite a k v).bus.counts = s.bus.counts := by
  unfold State.policyWrite
  repeat' split
  all_goals simp

@[simp] theorem State.producerWrite_counts (a : BusAddr) (v : Word) : (s.producerWrite a v).bus.counts = s.bus.counts := by
  unfold State.producerWrite
  dsimp only
  repeat' split
  all_goals simp

@[simp] theorem State.controlWrite_counts (a : BusAddr) (v : Word) : (s.controlWrite a v).bus.counts = s.bus.counts := by
  unfold State.controlWrite
  repeat' split
  all_goals simp

@[simp] theorem State.controlRead_counts (a : BusAddr) : (s.controlRead a).bus.counts = s.bus.counts := by
  unfold State.controlRead
  repeat' split
  all_goals simp

@[simp] theorem State.decodeAnswer_counts (f : Option Nat) (n : Nat) (c : Fin 2) :
    (s.decodeAnswer f n c).bus.counts = s.bus.counts := by simp [State.decodeAnswer]

@[simp] theorem State.deliver_counts (t : Txn) (h : Fin 2) (n : Nat) (c : Fin 2) :
    (s.deliver t h n c).bus.counts = s.bus.counts := by
  unfold State.deliver
  repeat' split
  all_goals simp

@[simp] theorem State.playbackRead_counts (t : Txn) (o : Nat) : (s.playbackRead t o).bus.counts = s.bus.counts := by
  unfold State.playbackRead
  dsimp only
  repeat' split
  all_goals simp

@[simp] theorem State.serveWrite_counts (t : Txn) : (s.serveWrite t).bus.counts = s.bus.counts := by
  unfold State.serveWrite
  repeat' split
  all_goals simp

@[simp] theorem State.serveRead_counts (t : Txn) : (s.serveRead t).bus.counts = s.bus.counts := by
  unfold State.serveRead
  repeat' split
  all_goals simp

@[simp] theorem State.serve_counts (t : Txn) : (s.serve t).bus.counts = s.bus.counts := by
  unfold State.serve
  repeat' split
  all_goals simp

@[simp] theorem State.freshAccesses_counts : s.freshAccesses.bus.counts = s.bus.counts := rfl

theorem State.countWaits_get (before : State) (e : Engine) : (s.countWaits before).bus.counts.get e =
    if before.waiting e then min Config.guardCount (s.bus.counts.get e + 1) else s.bus.counts.get e := by
  cases e <;> rfl

/-- The wait counts after a service: one more for each engine that waits, unless the transaction is held (R154). -/
theorem State.service_get (t : Txn) (e : Engine) : (s.service t).bus.counts.get e =
    if s.waiting e = true ∧ (s.service t).bus.held = none then min Config.guardCount (s.bus.counts.get e + 1)
    else s.bus.counts.get e := by
  have hcounts : (s.freshAccesses.serve t).bus.counts = s.bus.counts := by simp
  have hheld : (s.service t).bus.held = (s.freshAccesses.serve t).bus.held := by simp [State.service]
  rw [hheld, State.service, State.tookPort]
  cases hh : (s.freshAccesses.serve t).bus.held with
  | some x => simp
  | none =>
    rw [if_neg (by simp), State.countWaits_get, hcounts]
    simp

end

end Sys2Proof.Machine
end

section
/-! PROOFS. The delivery of a playback-window read by the source that stands (R60, R65, R75, R80, R90 to R92). -/

namespace Sys2Proof.Machine

/-! ### The pattern generator (R92) -/

theorem patternWord_toInt (r : BitVec 15) (a : Nat) :
    (patternWord r a).toInt = ((r.toNat : Int) - 16384) / 2 ^ a := by
  have hr : (r.toNat : Int) < 32768 := by exact_mod_cast r.isLt
  have hpow : (0 : Int) < 2 ^ a := by positivity
  have hlow : -16384 ≤ ((r.toNat : Int) - 16384) / 2 ^ a := by
    rw [Int.le_ediv_iff_mul_le hpow]
    nlinarith
  have hhigh : ((r.toNat : Int) - 16384) / 2 ^ a < 16384 := by
    rw [Int.ediv_lt_iff_lt_mul hpow]
    nlinarith
  rw [patternWord, BitVec.toInt_ofInt, Int.bmod_eq_of_le] <;> omega

theorem xor_parity (a b : Nat) : (if (decide (a % 2 = 1) ^^ decide (b % 2 = 1)) = true then 1 else 0) = (a + b % 2) % 2 := by
  rcases Nat.mod_two_eq_zero_or_one a with ha | ha <;> rcases Nat.mod_two_eq_zero_or_one b with hb | hb <;>
    simp [ha, hb] <;> omega

theorem patternNext_toNat (r : BitVec 15) : (patternNext r).toNat =
    (2 * r.toNat) % 32768 + (r.toNat / 16384 + r.toNat / 8192 % 2) % 2 := by
  have hr : r.toNat < 32768 := r.isLt
  have hbit : ∀ i : Nat, r.getLsbD i = decide (r.toNat / 2 ^ i % 2 = 1) := fun i => Nat.testBit_eq_decide_div_mod_eq
  rw [patternNext, BitVec.toNat_ofNat, hbit, hbit, xor_parity]
  simp only [Nat.reducePow]
  omega

/-! ### What a delivery leaves (R65, R75, R80) -/

theorem readsOf_eq (x : WordClass) : x.cost = readsOf x := by cases x <;> rfl

theorem readsOf_rebuilt (x : WordClass) : readsOf x = 6 ↔ ∃ k b p, x = .rebuilt k b p := by
  cases x <;> simp [readsOf]

/-- A delivery marks the counters record, and moves nothing else of the report unit (R171). -/
theorem State.countDelivery_rep (s : State) (kind : DeliveryKind) (own : WordClass) :
    (s.countDelivery kind own).rep = s.rep ∨ (s.countDelivery kind own).rep = s.markCounters.rep := by
  unfold State.countDelivery
  split
  · unfold State.bump State.count
    split
    · exact .inl rfl
    · exact .inr rfl
  · exact .inl rfl

/-- No delivery counts an underrun (R75, R84). -/
theorem deliveryCounter_underrun (kind : DeliveryKind) (own : WordClass) :
    deliveryCounter kind own ≠ some .monitorUnderrun := by
  unfold deliveryCounter
  repeat' split
  all_goals simp

/-- What a delivery leaves of the parts that it does not name: the pattern register of the monitor, and a mark. -/
structure State.DeliveredFrom (y t : State) : Prop where
  mon : t.mon = { y.mon with pattern := t.mon.pattern }
  rep : t.rep = y.rep ∨ t.rep = y.markCounters.rep
  underruns : countOf t.counters .monitorUnderrun = countOf y.counters .monitorUnderrun

section
variable (y : State) (x : Txn) (h : Fin 2) (f : Option Nat) (n : Nat) (c : Fin 2)

theorem State.decodeAnswer_rep :
    (y.decodeAnswer f n c).rep = y.rep ∨ (y.decodeAnswer f n c).rep = y.markCounters.rep :=
  State.countDelivery_rep _ _ _

/-- The context and the counter of a delivery by the decode service (R65, R71, R75). -/
theorem State.decodeAnswer_delivered (hd : y.mon.effective = .decoded) (ha : y.bus.accesses = 0) :
    y.delivered (y.decodeAnswer f n c) f n c := by
  let own := y.tape.classify none f n c
  let next := y.tape.classifyNext y.dec.mon[c] own none f n c
  let d := y.dec.mon[c].deliver y.settings.hold (y.classValue own) (y.classValue next)
  have hdec : (y.decodeAnswer f n c).dec = { y.dec with mon := vset y.dec.mon c d.ctx } := by
    simp [State.decodeAnswer, State.monitorRequest, own, next, d]
  have hcount : ∀ k, countOf (y.decodeAnswer f n c).counters k =
      if deliveryCounter d.kind own = some k then min 65535 (countOf y.counters k + 1) else countOf y.counters k :=
    fun k => by simp [State.decodeAnswer, State.monitorRequest, State.countDelivery_counters, own, next, d]
  have htape : (y.decodeAnswer f n c).tape = y.tape := by simp
  have hcounted : ∀ k, deliveryCounter d.kind own = some k ↔ (k = .wordsCorrected ∧ readsOf own = 6) ∨
      (k = .wordsInterpolated ∧ d.kind = .interpolated) ∨ (k = .wordsHeld ∧ d.kind = .held) ∨
      (k = .wordsMuted ∧ d.kind = .decayed) := fun k => by
    rw [readsOf_rebuilt]
    exact deliveryCounter_iff y y.dec.mon[c] y.settings.hold own (y.classValue next) k
  refine ⟨by simp [State.decodeAnswer], ?_⟩
  rw [hd]
  simp only [htape]
  refine ⟨?_, ?_, by simp, hdec, fun k => ⟨fun hk => ?_, fun hk _ => ?_⟩⟩
  · exact congrArg Ctx.last ((congrArg (fun v : DecodeService => v.mon[c])
      (hdec : (y.monitorRequest f n c).dec = _)).trans (vset_same _ _ _))
  · simp [State.decodeAnswer, State.monitorRequest, ha, readsOf_eq]
  · exact (hcount k).trans (if_pos ((hcounted k).mpr hk))
  · exact (hcount k).trans (if_neg (mt (hcounted k).mp hk))

theorem State.deliver_decoded (hd : y.mon.effective = .decoded) (he : y.tape.evaluating = false) :
    y.deliver x h n c = y.decodeAnswer (y.mon.halves[h].map fun k => y.tape.slots[k].frame) n c := by
  simp only [State.deliver, hd, he]
  rfl

/-- A read answered at once, by the effective source as it stands (R80, R90 to R92). -/
theorem State.deliver_answers (ha : y.bus.accesses = 0) (he : y.mon.effective ≠ .decoded ∨ y.tape.evaluating = false) :
    let t := y.deliver x h n c
    y.delivered t (y.mon.halves[h].map fun k => y.tape.slots[k].frame) n c ∧ y.DeliveredFrom t ∧
      y.sameBut [.port, .dec, .mon, .counters, .rep] t := by
  intro t
  cases hd : y.mon.effective with
  | decoded =>
    have hidle : y.tape.evaluating = false := he.resolve_left (not_not_intro hd)
    rw [show t = _ from y.deliver_decoded x h n c hd hidle]
    refine ⟨y.decodeAnswer_delivered _ n c hd ha, ⟨by simp, y.decodeAnswer_rep _ n c, ?_⟩, ?_⟩
    · simp [State.decodeAnswer, State.monitorRequest, State.countDelivery_counters, deliveryCounter_underrun]
    · simp [State.sameBut_iff, State.agree]
  | input =>
    have e : t = y.answer .answered y.mon.echo[c] := by simp only [t, State.deliver, hd]
    rw [e]
    refine ⟨⟨rfl, ?_⟩, ⟨rfl, .inl rfl, rfl⟩, by simp [State.sameBut_iff, State.agree]⟩
    rw [hd]
    exact ⟨rfl, rfl, ha, rfl, fun _ _ => rfl⟩
  | mute =>
    have e : t = y.answer .answered 0 := by simp only [t, State.deliver, hd]
    rw [e]
    refine ⟨⟨rfl, ?_⟩, ⟨rfl, .inl rfl, rfl⟩, by simp [State.sameBut_iff, State.agree]⟩
    rw [hd]
    exact ⟨rfl, rfl, ha, rfl, fun _ _ => rfl⟩
  | pattern =>
    have e : t = (y.answer .answered (patternWord y.mon.pattern y.settings.atten)).modMon fun m =>
        { m with pattern := patternNext m.pattern } := by simp only [t, State.deliver, hd]
    rw [e]
    refine ⟨⟨rfl, ?_⟩, ⟨rfl, .inl rfl, rfl⟩, by simp [State.sameBut_iff, State.agree]⟩
    rw [hd]
    exact ⟨patternWord_toInt _ _, patternNext_toNat _, ha, rfl, fun _ _ => rfl⟩

/-- A decode request held while a slot is EVALUATING (R48). -/
theorem State.deliver_holds (hd : y.mon.effective = .decoded) (he : y.tape.evaluating = true) :
    y.deliver x h n c = y.hold x .decodeRead := by
  simp only [State.deliver, hd, he, if_true]

end

end Sys2Proof.Machine
end

section
/-! PROOFS. A turnover of the playback window (R81, R82, R84): the half's release, its binding, and the state that the read is then
delivered from. -/

namespace Sys2Proof.Machine

section
variable (s : State) (h : Fin 2)

/-! ### The release (R58, R81) -/

/-- A hold stands on off-tape slot `k` beside that of half `h`, or it is not COMPLETE (R58). -/
def State.keptBeside (k : Fin 4) : Prop :=
  s.tape.slots[k].state ≠ .complete ∨ s.mon.halves[1 - h] = some k ∨ k ∈ s.mon.queue ∨
    (s.coder.job = .recording ∧ s.coder.mode = .insert ∧ s.coder.r ≤ s.tape.slots[k].frame)

theorem State.isHeld_iff (k : Fin 4) : s.isHeld k = true ↔
    k ∈ s.mon.queue ∨ (s.mon.halves[(0 : Fin 2)] = some k ∨ s.mon.halves[(1 : Fin 2)] = some k) ∨
      (s.coder.job = .recording ∧ s.coder.mode = .insert ∧ s.coder.r ≤ s.tape.slots[k].frame) := by
  simp [State.isHeld, RecordCoder.mixHolds, or_assoc, and_assoc]

/-- Half `h` unbound, with its report (R79, R81). -/
def State.unboundHalf : State := (s.modMon fun m => { m with halves := vset m.halves h none }).markPlayback

/-- The slot of the half unbound is released where nothing else keeps it (R58). -/
theorem State.unboundHalf_releases (k : Fin 4) :
    ((s.unboundHalf h).tape.slots[k].state = .complete ∧ (s.unboundHalf h).isHeld k = false) ↔ ¬s.keptBeside h k := by
  have h10 : (1 : Fin 2) ≠ 0 := by decide
  have hhalves : ((s.unboundHalf h).mon.halves[(0 : Fin 2)] = some k ∨ (s.unboundHalf h).mon.halves[(1 : Fin 2)] = some k) ↔
      s.mon.halves[1 - h] = some k := by
    change ((vset s.mon.halves h none)[(0 : Fin 2)] = some k ∨ (vset s.mon.halves h none)[(1 : Fin 2)] = some k) ↔ _
    match h with
    | 0 => rw [vset_same, vset_other _ _ h10]; simp
    | 1 => rw [vset_same, vset_other _ _ h10.symm]; simp
  rw [← Bool.not_eq_true, State.isHeld_iff, hhalves, State.keptBeside]
  simp only [State.unboundHalf, State.markPlayback_frame, State.modMon_tape, State.modMon_coder, State.modMon_mon]
  tauto

/-- The off-tape slots after the release of half `h` (R58, R81). -/
def State.freed (t : Assembler) : Prop :=
  (s.mon.halves[h] = none → t = s.tape) ∧
  ∀ old : Fin 4, s.mon.halves[h] = some old →
    (s.keptBeside h old → t = s.tape) ∧
    (¬s.keptBeside h old →
      t = { s.tape with slots := vset s.tape.slots old { s.tape.slots[old] with state := .free } })

theorem State.releaseHalf_none (hb : s.mon.halves[h] = none) : s.releaseHalf h = s := by
  simp only [State.releaseHalf, hb]

theorem State.releaseHalf_some {k : Fin 4} (hb : s.mon.halves[h] = some k) :
    s.releaseHalf h = (s.unboundHalf h).releaseSlot k := by
  simp only [State.releaseHalf, hb]
  rfl

theorem State.releaseHalf_freed : s.freed h (s.releaseHalf h).tape := by
  refine ⟨fun hb => by rw [s.releaseHalf_none h hb], fun old hb => ?_⟩
  rw [s.releaseHalf_some h hb, State.releaseSlot]
  refine ⟨fun hk => ?_, fun hk => ?_⟩
  · rw [if_neg fun hc => (s.unboundHalf_releases h old).mp hc hk]
    rfl
  · rw [if_pos ((s.unboundHalf_releases h old).mpr hk)]
    rfl

theorem State.releaseHalf_mon : (s.releaseHalf h).mon = { s.mon with halves := vset s.mon.halves h none } := by
  cases hb : s.mon.halves[h] with
  | none =>
    rw [s.releaseHalf_none h hb, ← hb, vset_self]
  | some k =>
    rw [s.releaseHalf_some h hb]
    simp [State.unboundHalf]

/-- The release of a bound half is reported, also where a hold keeps its slot (R79). -/
theorem State.releaseHalf_rep : (s.mon.halves[h] = none → (s.releaseHalf h).rep = s.rep) ∧
    (s.mon.halves[h] ≠ none → (s.releaseHalf h).rep = s.markPlayback.rep) := by
  refine ⟨fun hb => by rw [s.releaseHalf_none h hb], fun hb => ?_⟩
  obtain ⟨k, hk⟩ := Option.ne_none_iff_exists'.mp hb
  rw [s.releaseHalf_some h hk, State.releaseSlot]
  split <;> rfl

variable {s h}

/-- A release moves no slot's frame, and no slot in or out of EVALUATING. -/
theorem State.freed.keeps {t : Assembler} (hf : s.freed h t) :
    (∀ k : Fin 4, t.slots[k].frame = s.tape.slots[k].frame) ∧ t.evaluating = s.tape.evaluating ∧ t.run = s.tape.run := by
  obtain ⟨hnone, hsome⟩ := hf
  cases hb : s.mon.halves[h] with
  | none =>
    rw [hnone hb]
    exact ⟨fun _ => rfl, rfl, rfl⟩
  | some old =>
    obtain ⟨hkept, hfree⟩ := hsome old hb
    by_cases hk : s.keptBeside h old
    · rw [hkept hk]
      exact ⟨fun _ => rfl, rfl, rfl⟩
    · have hc : s.tape.slots[old].state = .complete := by
        by_contra hne
        exact hk (.inl hne)
      rw [hfree hk]
      have hslot : ∀ k : Fin 4,
          (vset s.tape.slots old { s.tape.slots[old] with state := .free })[k].frame = s.tape.slots[k].frame ∧
          ((vset s.tape.slots old { s.tape.slots[old] with state := .free })[k].state == .evaluating) =
            (s.tape.slots[k].state == .evaluating) := fun k => by
        by_cases hk : k = old
        · subst hk
          rw [vset_same, hc]
          exact ⟨rfl, rfl⟩
        · rw [vset_other _ _ hk]
          exact ⟨rfl, rfl⟩
      refine ⟨fun k => (hslot k).1, ?_, rfl⟩
      unfold Assembler.evaluating
      simp only [hslot]

end

end Sys2Proof.Machine
end

section
/-! PROOFS. A turnover as a whole: the binding and its hand-offs, then the delivery or the hold (R48, R80 to R82, R84, R137). -/

namespace Sys2Proof.Machine

/-! ### The binding and the hand-offs (R81, R137) -/

/-- The state that a turnover into half `h` leaves before the read is delivered: the half bound to `b`, `q` the queue left, its
old slot released, the output status set again (R81). -/
structure State.TurnsOver (s : State) (h : Fin 2) (b : Option (Fin 4)) (q : List (Fin 4)) (y : State) : Prop where
  bus : y.bus = s.bus
  mon : y.mon = { s.mon with queue := q, halves := vset s.mon.halves h b, lastHalf := some h }
  freed : s.freed h y.tape
  output : s.outputSet y
  marked : y.rep.marks.playback = true
  counters : ∀ c : Counter, c ≠ .monitorUnderrun → countOf y.counters c = countOf s.counters c
  frame : s.sameBut [.tape, .mon, .copy, .counters, .rep] y

/-- The last half read noted, the output status set again and the turnover reported (R81 steps 3 and 4). -/
def State.handedOff (s : State) (h : Fin 2) : State :=
  ((s.modMon fun m => { m with lastHalf := some h }).updateOutput).markPlayback

theorem State.handedOff_output (s : State) (h : Fin 2) : s.outputSet (s.handedOff h) :=
  State.outputSet_congr (State.outputSet_updateOutput (s.modMon fun m => { m with lastHalf := some h }))
    rfl rfl rfl rfl rfl rfl

theorem State.handedOff_keeps (s : State) (h : Fin 2) : (s.handedOff h).rep.marks.playback = true ∧
    (s.handedOff h).rep.raised = s.rep.raised ∧ (∀ c, (s.handedOff h).rep.isSet c = s.rep.isSet c) ∧
    (s.handedOff h).mon = { s.mon with lastHalf := some h } ∧ (s.handedOff h).counters = s.counters ∧
    s.sameBut [.mon, .copy, .rep] (s.handedOff h) := by
  have hmarks : s.rep.onlyMarks (s.handedOff h).rep :=
    (State.onlyMarks_updateOutput (s.modMon fun m => { m with lastHalf := some h })).trans (State.onlyMarks_markPlayback _)
  exact ⟨rfl, hmarks.flags.1, hmarks.flags.2.2, by simp [State.handedOff], by simp [State.handedOff],
    by simp [State.sameBut_iff, State.agree, State.handedOff]⟩

theorem State.turnsOver_of {s z : State} {h : Fin 2} {b : Option (Fin 4)} {q : List (Fin 4)}
    (hbus : z.bus = s.bus) (hmon : z.mon = { s.mon with queue := q, halves := vset s.mon.halves h b })
    (hfreed : s.freed h z.tape) (hmark : z.rep.marks.copy = s.rep.marks.copy)
    (hcount : ∀ c : Counter, c ≠ .monitorUnderrun → countOf z.counters c = countOf s.counters c)
    (hframe : s.sameBut [.tape, .mon, .counters, .rep] z) : s.TurnsOver h b q (z.handedOff h) := by
  obtain ⟨hm, -, -, hmon', hcount', hframe'⟩ := z.handedOff_keeps h
  have hcopy : z.copy = s.copy := hframe .copy (by simp)
  refine ⟨by simpa [State.handedOff] using hbus, by rw [hmon', hmon], ?_, ?_, hm, fun c hc => by rw [hcount', hcount c hc],
    (hframe.trans hframe').narrow (by simp)⟩
  · rw [show (z.handedOff h).tape = z.tape from hframe' .tape (by simp)]
    exact hfreed
  · exact State.outputSet_congr (z.handedOff_output h) hcopy.symm hmark.symm rfl rfl rfl rfl

theorem State.bump_copyMark (s : State) (c : Counter) : (s.bump c).rep.marks.copy = s.rep.marks.copy := by
  unfold State.bump State.count
  split <;> rfl

/-- A state that differs from `s` by the release of half `h` alone (R58, R79, R81). -/
structure State.Released (s : State) (h : Fin 2) (y : State) : Prop where
  bus : y.bus = s.bus
  mon : y.mon = { s.mon with halves := vset s.mon.halves h none }
  freed : s.freed h y.tape
  counters : y.counters = s.counters
  rep : (s.mon.halves[h] = none → y.rep = s.rep) ∧ (s.mon.halves[h] ≠ none → y.rep = s.markPlayback.rep)
  frame : s.sameBut [.tape, .mon, .rep] y

theorem State.releaseHalf_released (s : State) (h : Fin 2) : s.Released h (s.releaseHalf h) :=
  ⟨by simp, s.releaseHalf_mon h, s.releaseHalf_freed h, by simp, s.releaseHalf_rep h, by
    simp [State.sameBut_iff, State.agree]⟩

section
variable {s y : State} {h : Fin 2} (hy : s.Released h y)
include hy

/-- A release moves of the report unit the playback mark alone. -/
theorem State.Released.reports : y.rep.raised = s.rep.raised ∧ y.rep.posted = s.rep.posted ∧
    y.rep.marks.copy = s.rep.marks.copy := by
  obtain ⟨hnone, hsome⟩ := hy.rep
  by_cases hb : s.mon.halves[h] = none
  · rw [hnone hb]
    exact ⟨rfl, rfl, rfl⟩
  · rw [hsome hb]
    exact ⟨rfl, rfl, rfl⟩

theorem State.Released.run : y.tape.run = s.tape.run := hy.freed.keeps.2.2

theorem State.Released.evaluating : y.tape.evaluating = s.tape.evaluating := hy.freed.keeps.2.1

/-- The queue's head bound (R81 step 2). -/
theorem State.Released.binds {k : Fin 4} {rest : List (Fin 4)} (hrun : s.tape.run = .running)
    (hq : s.mon.queue = k :: rest) :
    s.TurnsOver h (some k) rest (y.bindTurnover h) ∧ (y.bindTurnover h).rep.raised = s.rep.raised ∧
      countOf (y.bindTurnover h).counters .monitorUnderrun = countOf s.counters .monitorUnderrun := by
  have he : y.bindTurnover h =
      (y.modMon fun m => { m with queue := rest, halves := vset m.halves h (some k) }).handedOff h := by
    simp only [State.bindTurnover, hy.run, hrun, hy.mon, hq, if_true]
    rfl
  obtain ⟨-, hraised, -, -, hcount, -⟩ :=
    (y.modMon fun m => { m with queue := rest, halves := vset m.halves h (some k) }).handedOff_keeps h
  rw [he]
  refine ⟨State.turnsOver_of hy.bus ?_ hy.freed hy.reports.2.2 (fun c _ => by rw [← hy.counters]; rfl) ?_,
    hraised.trans hy.reports.1, by rw [hcount, ← hy.counters]; rfl⟩
  · simp [hy.mon, vset_vset]
  · exact (hy.frame.trans (qs := [.mon]) (by simp [State.sameBut_iff, State.agree])).narrow (by simp)

/-- Nothing bound while STOPPED (R81). -/
theorem State.Released.stops (hrun : s.tape.run = .stopped) :
    s.TurnsOver h none s.mon.queue (y.bindTurnover h) ∧ (y.bindTurnover h).rep.raised = s.rep.raised ∧
      countOf (y.bindTurnover h).counters .monitorUnderrun = countOf s.counters .monitorUnderrun := by
  have he : y.bindTurnover h = y.handedOff h := by
    simp only [State.bindTurnover, hy.run, hrun]
    rfl
  obtain ⟨-, hraised, -, -, hcount, -⟩ := y.handedOff_keeps h
  rw [he]
  exact ⟨State.turnsOver_of hy.bus hy.mon hy.freed hy.reports.2.2 (fun c _ => by rw [hy.counters])
    (hy.frame.narrow (by simp)), hraised.trans hy.reports.1, by rw [hcount, hy.counters]⟩

/-- An empty queue while RUNNING: the underrun raised and counted, nothing bound (R81, R84). -/
theorem State.Released.underruns (hrun : s.tape.run = .running) (hq : s.mon.queue = []) :
    s.TurnsOver h none s.mon.queue (y.bindTurnover h) ∧
      (y.bindTurnover h).rep.raised = (s.raise .monitorUnderrun).rep.raised ∧
      (y.bindTurnover h).rep.isSet .monitorUnderrun = true ∧
      countOf (y.bindTurnover h).counters .monitorUnderrun = min 65535 (countOf s.counters .monitorUnderrun + 1) := by
  have he : y.bindTurnover h = ((y.raise .monitorUnderrun).bump .monitorUnderrun).handedOff h := by
    simp only [State.bindTurnover, hy.run, hrun, hy.mon, hq, if_true]
    rfl
  obtain ⟨hraised, hposted, hcopy⟩ := hy.reports
  have hbump := State.onlyMarks_bump (y.raise .monitorUnderrun) .monitorUnderrun
  obtain ⟨-, hraised', hset, -, hcount, -⟩ := ((y.raise .monitorUnderrun).bump .monitorUnderrun).handedOff_keeps h
  rw [he]
  refine ⟨State.turnsOver_of ?_ ?_ ?_ ?_ (fun c hc => ?_) ?_, ?_, ?_, ?_⟩
  · simpa using hy.bus
  · simpa using hy.mon
  · simpa using hy.freed
  · rw [State.bump_copyMark]
    exact hcopy
  · rw [State.bump_counters, if_neg hc]
    exact congrArg (countOf · c) hy.counters
  · exact (hy.frame.trans (qs := [.counters, .rep]) (by simp [State.sameBut_iff, State.agree])).narrow (by simp)
  · rw [hraised', hbump.flags.1]
    simp only [State.raise, State.modRep_rep, hraised, hposted]
  · rw [hset, hbump.flags.2.2, State.raise_isSet]
    simp
  · rw [hcount, State.bump_counters, if_pos rfl]
    exact congrArg (fun v => min 65535 (countOf v .monitorUnderrun + 1)) hy.counters

end

/-- A turnover waits where it has nothing to bind and a slot is EVALUATING (R82). -/
theorem State.Released.waits {s y : State} {h : Fin 2} (hy : s.Released h y) :
    y.turnoverWaits = (s.tape.run == .running && s.mon.queue.isEmpty && s.tape.evaluating) := by
  simp only [State.turnoverWaits, hy.run, hy.mon, hy.evaluating]

/-! ### The delivery after a turnover (R48, R80) -/

/-- What `outputSet` says of a state, seen in a later one. -/
theorem State.outputSet_later {s y t : State} (h : s.outputSet y) (he : t.mon.effective = y.mon.effective)
    (hl : t.mon.lastHalf = y.mon.lastHalf) (hh : t.mon.halves = y.mon.halves) (ht : t.tape = y.tape) (hc : t.copy = y.copy)
    (hr : t.rep.marks.copy = y.rep.marks.copy) : s.outputSet t := by
  simpa only [State.outputSet, he, hl, hh, ht, hc, hr] using h

/-- A delivery seen from an earlier state that differs in what the delivery does not depend on. -/
theorem State.delivered_earlier {s y t : State} {f : Option Nat} {n : Nat} {c : Fin 2} (h : y.delivered t f n c)
    (he : y.mon.effective = s.mon.effective) (hecho : y.mon.echo = s.mon.echo) (hpat : y.mon.pattern = s.mon.pattern)
    (hset : y.settings = s.settings) (hdec : y.dec = s.dec) (hmem : y.mem = s.mem) (htable : y.bus.table = s.bus.table)
    (hcount : ∀ k : Counter, k ≠ .monitorUnderrun → countOf y.counters k = countOf s.counters k) :
    s.delivered t f n c := by
  have hvalue : ∀ o, y.classValue o = s.classValue o := State.classValue_congr hmem htable
  obtain ⟨htreat, hrest⟩ := h
  refine ⟨htreat, ?_⟩
  have hrestOf : (∀ k : Counter, k ≠ .monitorUnderrun → t.counter k = y.counter k) →
      ∀ k : Counter, k ≠ .monitorUnderrun → t.counter k = s.counter k := fun hk k hne => (hk k hne).trans (hcount k hne)
  rw [he] at hrest
  simp only [hecho, hpat, hset, hdec, hvalue] at hrest ⊢
  cases hd : s.mon.effective with
  | decoded =>
    rw [hd] at hrest
    obtain ⟨hdata, hreads, hpattern, hctx, hcounts⟩ := hrest
    refine ⟨hdata, hreads, hpattern, hctx, fun k => ⟨fun hk => ?_, fun hk hne => ?_⟩⟩
    · have hne : k ≠ .monitorUnderrun := by
        rintro rfl
        simp at hk
      rw [(hcounts k).1 hk]
      exact congrArg (fun v => min 65535 (v + 1)) (hcount k hne)
    · exact ((hcounts k).2 hk hne).trans (hcount k hne)
  | input =>
    rw [hd] at hrest
    obtain ⟨hdata, hpattern, haccess, hctx, hcounts⟩ := hrest
    exact ⟨hdata, hpattern, haccess, hctx, hrestOf hcounts⟩
  | mute =>
    rw [hd] at hrest
    obtain ⟨hdata, hpattern, haccess, hctx, hcounts⟩ := hrest
    exact ⟨hdata, hpattern, haccess, hctx, hrestOf hcounts⟩
  | pattern =>
    rw [hd] at hrest
    obtain ⟨hdata, hpattern, haccess, hctx, hcounts⟩ := hrest
    exact ⟨hdata, hpattern, haccess, hctx, hrestOf hcounts⟩

end Sys2Proof.Machine
end

section
/-! PROOFS. The read that a turnover is followed by (R48, R80): answered, or held as a decode request; and the turnovers of a run. -/

namespace Sys2Proof.Machine

/-- A read delivered by the effective source, or held as a decode request while a slot is EVALUATING (R48, R80). -/
def State.deliveredOrHeld (s t : State) (x : Txn) (f : Option Nat) (n : Nat) (c : Fin 2) : Prop :=
  (s.mon.effective ≠ .decoded ∨ s.tape.evaluating = false →
    s.delivered t f n c ∧ s.sameBut [.port, .tape, .dec, .mon, .copy, .counters, .rep] t) ∧
  (s.mon.effective = .decoded → s.tape.evaluating = true →
    (t.bus.held = some { txn := x, kind := .decodeRead } ∧ t.bus.waiting = [] ∧ t.bus.op = s.bus.op ∧
      t.bus.table = s.bus.table ∧ t.bus.valid = s.bus.valid) ∧
    t.mon.pattern = s.mon.pattern ∧ (∀ k : Counter, k ≠ .monitorUnderrun → t.counter k = s.counter k) ∧
    s.sameBut [.bus, .port, .tape, .mon, .copy, .counters, .rep] t)

/-- The state that a turnover into half `h` ends in, `y` being the one that its read is delivered from (R80, R81). -/
structure State.TurnedOver (s y t : State) (h : Fin 2) (b : Option (Fin 4)) (q : List (Fin 4)) (x : Txn) (n : Nat)
    (c : Fin 2) : Prop where
  freed : s.freed h t.tape
  mon : t.mon = { s.mon with queue := q, halves := vset s.mon.halves h b, lastHalf := some h, pattern := t.mon.pattern }
  output : s.outputSet t
  answered : s.deliveredOrHeld t x (b.map fun k => s.tape.slots[k].frame) n c
  marked : t.rep.marks.playback = true
  raised : t.rep.raised = y.rep.raised
  isSet : ∀ k, t.rep.isSet k = y.rep.isSet k
  underruns : countOf t.counters .monitorUnderrun = countOf y.counters .monitorUnderrun

/-- A mark of the counters record alone keeps what a turnover has reported. -/
theorem State.reports_of_counters {y t : State} (h : t.rep = y.rep ∨ t.rep = y.markCounters.rep) :
    t.rep.marks.playback = y.rep.marks.playback ∧ t.rep.marks.copy = y.rep.marks.copy ∧ t.rep.raised = y.rep.raised ∧
      ∀ k, t.rep.isSet k = y.rep.isSet k := by
  obtain h | h := h <;> rw [h] <;> exact ⟨rfl, rfl, rfl, fun _ => rfl⟩

section
variable {s y : State} {h : Fin 2} {b : Option (Fin 4)} {q : List (Fin 4)} (hy : s.freshAccesses.TurnsOver h b q y)
include hy

theorem State.TurnsOver.tape : y.tape.evaluating = s.tape.evaluating ∧
    (y.mon.halves[h].map fun k => y.tape.slots[k].frame) = b.map fun k => s.tape.slots[k].frame := by
  have hframes : ∀ k : Fin 4, y.tape.slots[k].frame = s.tape.slots[k].frame := hy.freed.keeps.1
  refine ⟨hy.freed.keeps.2.1, ?_⟩
  rw [hy.mon]
  simp only [vset_same, hframes]

/-- A step from `y` that moves nothing that a turnover speaks of but the pattern register and a mark ends the turnover. -/
theorem State.TurnsOver.turnedOver {t : State} (x : Txn) (n : Nat) (c : Fin 2) (htape : t.tape = y.tape)
    (hcopy : t.copy = y.copy) (hkeeps : y.DeliveredFrom t)
    (hanswer : s.deliveredOrHeld t x (b.map fun k => s.tape.slots[k].frame) n c) :
    s.TurnedOver y t h b q x n c := by
  obtain ⟨hmon, hrep, hunder⟩ := hkeeps
  have hmon' : t.mon = { s.mon with
      queue := q, halves := vset s.mon.halves h b, lastHalf := some h, pattern := t.mon.pattern } := by
    conv_lhs => rw [hmon, hy.mon]
    rfl
  obtain ⟨hplayback, hcopyMark, hraised, hset⟩ := State.reports_of_counters hrep
  have houtput : s.outputSet y := hy.output
  exact {
    freed := htape ▸ hy.freed
    mon := hmon'
    output := State.outputSet_later houtput (by rw [hmon]) (by rw [hmon]) (by rw [hmon]) htape hcopy hcopyMark
    answered := hanswer
    marked := hplayback.trans hy.marked
    raised := hraised
    isSet := hset
    underruns := hunder }

/-- The read answered at once. -/
theorem State.TurnsOver.answers (x : Txn) (n : Nat) (c : Fin 2) (w : WaitCounts)
    (he : s.mon.effective ≠ .decoded ∨ s.tape.evaluating = false) :
    s.TurnedOver y ((y.deliver x h n c).withCounts w) h b q x n c := by
  have hmon : y.mon = { s.mon with queue := q, halves := vset s.mon.halves h b, lastHalf := some h } := hy.mon
  have heff : y.mon.effective = s.mon.effective := by rw [hmon]
  obtain ⟨hevaluating, hbound⟩ := hy.tape
  have haccess : y.bus.accesses = 0 := by rw [hy.bus]; rfl
  obtain ⟨hdelivered, ⟨hmon', hrep, hunder⟩, hframe⟩ :=
    y.deliver_answers x h n c haccess (by rwa [heff, hevaluating])
  rw [hbound] at hdelivered
  generalize y.deliver x h n c = u at hdelivered hmon' hrep hunder hframe ⊢
  have hparts : s.sameBut [.port, .tape, .dec, .mon, .copy, .counters, .rep] (u.withCounts w) :=
    ((State.sameBut.trans (ps := [.port]) (by simp [State.sameBut_iff, State.agree]) (hy.frame.trans hframe)).trans
      (qs := [.port]) (by simp [State.sameBut_iff, State.agree])).narrow (by simp)
  have hdelivered' : y.delivered (u.withCounts w) (b.map fun k => s.tape.slots[k].frame) n c := hdelivered
  have hearlier := State.delivered_earlier (s := s) hdelivered' heff (by rw [hmon]) (by rw [hmon])
    (hy.frame .settings (by simp)) (hy.frame .dec (by simp)) (hy.frame .mem (by simp)) (by rw [hy.bus]; rfl) hy.counters
  exact hy.turnedOver x n c (hframe .tape (by simp)) (hframe .copy (by simp)) ⟨hmon', hrep, hunder⟩
    ⟨fun _ => ⟨hearlier, hparts⟩, fun hd hv => absurd hd (he.resolve_right (by simp [hv]))⟩

/-- The read held as a decode request. -/
theorem State.TurnsOver.holds (x : Txn) (n : Nat) (c : Fin 2) (w : WaitCounts) (hwaiting : s.bus.waiting = [])
    (hd : s.mon.effective = .decoded) (hv : s.tape.evaluating = true) :
    s.TurnedOver y ((y.deliver x h n c).withCounts w) h b q x n c := by
  have hmon : y.mon = { s.mon with queue := q, halves := vset s.mon.halves h b, lastHalf := some h } := hy.mon
  have hd' : y.mon.effective = .decoded := by rw [hmon]; exact hd
  have hparts : s.sameBut (.bus :: .port :: [.tape, .mon, .copy, .counters, .rep]) y :=
    (State.sameBut.trans (ps := [.port]) (by simp [State.sameBut_iff, State.agree]) hy.frame).narrow (by simp)
  rw [y.deliver_holds x h n c hd' (hy.tape.1.trans hv)]
  obtain ⟨hheld, hwait, hop, htable, hvalid, hframe⟩ :=
    State.heldFrom_hold (ps := [.tape, .mon, .copy, .counters, .rep]) ⟨0, hy.bus⟩ hparts x .decodeRead w
  refine hy.turnedOver x n c (by simp) (by simp) ⟨rfl, .inl rfl, rfl⟩
    ⟨fun he => absurd hd (he.resolve_right (by simp [hv])), fun _ _ => ⟨⟨hheld, hwait.trans hwaiting, hop, htable, hvalid⟩,
      ?_, hy.counters, hframe⟩⟩
  exact (congrArg Monitor.pattern hmon :)

theorem State.TurnsOver.delivers (x : Txn) (n : Nat) (c : Fin 2) (w : WaitCounts) (hwaiting : s.bus.waiting = []) :
    s.TurnedOver y ((y.deliver x h n c).withCounts w) h b q x n c := by
  by_cases hheld : s.mon.effective = .decoded ∧ s.tape.evaluating = true
  · exact hy.holds x n c w hwaiting hheld.1 hheld.2
  · refine hy.answers x n c w ?_
    rw [← Bool.not_eq_true]
    exact not_and_or.mp hheld

end

/-! ### The turnover as a run makes it -/

section
variable {s : State} {a : BusAddr} (hport : s.portFree) (hreg : s.bus.regionOf a.toNat = .playbackWindow)
  (hlast : s.mon.lastHalf ≠ some (halfOf (s.bus.offset 1 a.toNat)))
include hport hreg hlast

/-- A turnover that does not wait: bound, then delivered. -/
theorem State.exec_turnover {b : Option (Fin 4)} {q : List (Fin 4)}
    (hwaits : (s.tape.run == .running && s.mon.queue.isEmpty && s.tape.evaluating) = false)
    (hy : s.freshAccesses.TurnsOver (halfOf (s.bus.offset 1 a.toNat)) b q
      ((s.freshAccesses.releaseHalf (halfOf (s.bus.offset 1 a.toNat))).bindTurnover (halfOf (s.bus.offset 1 a.toNat)))) :
    ∃ t, exec (.playbackWindowRead a) s = .next t ∧
      s.TurnedOver ((s.freshAccesses.releaseHalf (halfOf (s.bus.offset 1 a.toNat))).bindTurnover
        (halfOf (s.bus.offset 1 a.toNat))) t (halfOf (s.bus.offset 1 a.toNat)) b q { write := false, addr := a, data := 0 }
        (pairIn (s.bus.offset 1 a.toNat)) (chanIn (s.bus.offset 1 a.toNat)) := by
  obtain ⟨w, hw⟩ := State.exec_playbackRead hport hreg
  have hwaits' : (s.freshAccesses.releaseHalf (halfOf (s.bus.offset 1 a.toNat))).turnoverWaits = false :=
    (State.releaseHalf_released _ _).waits.trans hwaits
  simp only [State.playbackRead, if_neg (show s.freshAccesses.mon.lastHalf ≠ _ from hlast), hwaits', Bool.false_eq_true,
    if_false] at hw
  exact ⟨_, hw, hy.delivers _ _ _ w hport.2.2.1⟩

/-- A turnover that waits: the half unbound, the read held (R82). -/
theorem State.exec_turnover_waits (hrun : s.tape.run = .running) (hq : s.mon.queue = []) (hv : s.tape.evaluating = true) :
    ∃ t, exec (.playbackWindowRead a) s = .next t ∧ s.freed (halfOf (s.bus.offset 1 a.toNat)) t.tape ∧
      s.HeldFrom t { txn := { write := false, addr := a, data := 0 }, kind := .turnover } [.tape, .mon, .rep] ∧
      t.mon = { s.mon with halves := vset s.mon.halves (halfOf (s.bus.offset 1 a.toNat)) none } ∧
      (s.mon.halves[halfOf (s.bus.offset 1 a.toNat)] = none → t.rep = s.rep) ∧
      (s.mon.halves[halfOf (s.bus.offset 1 a.toNat)] ≠ none → t.rep = s.markPlayback.rep) := by
  obtain ⟨w, hw⟩ := State.exec_playbackRead hport hreg
  have hy := s.freshAccesses.releaseHalf_released (halfOf (s.bus.offset 1 a.toNat))
  have hwaits : (s.freshAccesses.releaseHalf (halfOf (s.bus.offset 1 a.toNat))).turnoverWaits = true := by
    rw [hy.waits]
    simp [hrun, hq, hv]
  simp only [State.playbackRead, if_neg (show s.freshAccesses.mon.lastHalf ≠ _ from hlast), hwaits, if_true] at hw
  have hparts : s.sameBut (.bus :: .port :: [.tape, .mon, .rep]) _ :=
    (State.sameBut.trans (ps := [.port]) (by simp [State.sameBut_iff, State.agree]) hy.frame).narrow (by simp)
  exact ⟨_, hw, hy.freed, State.heldFrom_hold ⟨0, hy.bus⟩ hparts _ _ w, hy.mon, hy.rep.1, hy.rep.2⟩

end

end Sys2Proof.Machine
end

section
/-! PROOFS. The obligations on off-tape assembly and the timeline lock, settled. -/

open Sys2Proof Sys2Proof.Machine

/-- Settles O35: a step runs a command, and every command keeps both laws. -/
theorem completeFramesStayDistinct : Obligations.CompleteFramesStayDistinct := by
  intro s t h hstep
  unfold step at hstep
  split at hstep
  · obtain rfl := Host.Outcome.next.inj hstep
    exact h
  · next c rest _ => exact State.lawful_exec (s := { s with pending := rest }) h c hstep

/-- Settles O27: a refusal leaves the owner's state, and the command else leaves the state that it re-judges last. -/
theorem playStartAndStop : Obligations.PlayStartAndStop := by
  refine ⟨fun s h => ⟨fun hr => ?_, fun hrun hvalid => ?_⟩, fun s h => ⟨fun hr => ?_, fun hrun hins => ?_⟩⟩
  · obtain ⟨t, ht, hcmd, hrest⟩ := State.command_refused (k := .playStart) h (s.unmarked.playStart_eq.trans (if_pos hr))
    exact ⟨t, congrArg Host.Outcome.next ht, hcmd, hrest⟩
  · have ho := s.unmarked.playStart_eq.trans (if_neg (by simp [hrun, hvalid]))
    obtain ⟨t, ht, hcmd, hj⟩ := State.command_judged (k := .playStart) h ho rfl rfl
    have hlast : t.mon.lastHalf = none := by rw [hj.mon]; rfl
    exact ⟨t, congrArg Host.Outcome.next ht, hcmd, hj.frame .tape (by simp), hlast, hj.mon, hj.raised,
      (State.sameBut.trans (ps := [.tape, .mon, .rep]) (by simp [State.sameBut_iff, State.agree, State.started])
        hj.frame).narrow (by simp)⟩
  · obtain ⟨t, ht, hcmd, hrest⟩ := State.command_refused (k := .playStop) h (s.unmarked.playStop_eq.trans (if_pos hr))
    exact ⟨t, congrArg Host.Outcome.next ht, hcmd, hrest⟩
  · have hheld : s.unmarked.tapeStopped.bus.held = none := h.2.2.1
    have ho := s.unmarked.playStop_eq.trans (if_neg (by simp [State.refusesPlayStop, hrun] at hins ⊢; exact hins))
    obtain ⟨t, ht, hcmd, hj⟩ := State.command_judged (k := .playStop) (z := s.unmarked.tapeStopped.cutOff) h ho
      (State.cutOff_bus hheld) rfl
    have htape : t.tape = s.unmarked.tapeStopped.tape := hj.frame .tape (by simp)
    refine ⟨t, congrArg Host.Outcome.next ht, hcmd, ?_⟩
    rw [htape]
    exact ⟨rfl, rfl, rfl, rfl, rfl, rfl, rfl, rfl, s.tape.emptyRing_slots, hj.mon, hj.raised,
      ((State.sameBut.trans (ps := [.tape, .rep]) (by simp [State.sameBut_iff, State.agree, State.tapeStopped])
        (State.cutOff_keeps hheld)).trans hj.frame).narrow (by simp)⟩

/-- Settles O28: the reset leaves the state that it re-judges last. -/
theorem softResetPlaybackClears : Obligations.SoftResetPlaybackClears := by
  intro s h
  have hheld : s.unmarked.tapeReset.bus.held = none := h.2.2.1
  have ho : (s.unmarked.resetPlayback, Result.done) = (s.unmarked.tapeReset.cutOff.markPlayback.rejudge, .done) :=
    congrArg (·, Result.done) s.unmarked.resetPlayback_eq
  obtain ⟨t, ht, hcmd, hj⟩ := State.command_judged (k := .softReset) (owner := fun x => (x.resetPlayback, .done)) h ho
    (State.cutOff_bus hheld) rfl
  have htape : t.tape = s.unmarked.tapeReset.tape := hj.frame .tape (by simp)
  refine ⟨t, congrArg Host.Outcome.next ht, hcmd, ?_⟩
  rw [htape]
  refine ⟨rfl, rfl, rfl, rfl, rfl, rfl, rfl, rfl, rfl, rfl, rfl, s.tape.emptyRing_slots, fun he c => ?_, ?_, hj.mon,
    hj.raised, ((State.sameBut.trans (ps := [.tape, .dec, .rep])
      (by simp [State.sameBut_iff, State.agree, State.tapeReset]) (State.cutOff_keeps hheld)).trans hj.frame).narrow
      (by simp)⟩
  · rw [hj.contexts he]
    exact Vector.getElem_replicate _
  · rw [hj.mix]
    rfl

/-- Settles O32: the rows of R53 to R55, and the frames that FLYWHEEL carries over. -/
theorem lockAndFlywheel : Obligations.LockAndFlywheel := by
  refine ⟨fun x q limit g1 g2 g3 f hx h1 h2 h3 hf => ?_, fun x q limit n hx hn hl hf => ?_, fun x q limit g f a => ?_⟩
  · have hnext : nextFrame f = f + 1 ∧ nextFrame (f + 1) = f + 2 := by
      simp only [Config.maxFrame] at hf
      rw [nextFrame_eq, nextFrame_eq]
      omega
    intro y1 y2
    have e1 : x.step q limit g1 (some f) = ({ x with state := .acquire, expected := f + 1, run := 1 }, none) := by
      rw [Lock.step_search_quorum q limit g1 f hx h1, hnext.1]
    have e2 : y1.step q limit g2 (some (f + 1)) = ({ x with state := .acquire, expected := f + 2, run := 2 }, none) := by
      rw [show y1 = _ from congrArg Prod.fst e1, Lock.step_acquire_run q limit g2 (f + 1) rfl h2 rfl (by simp), hnext.2]
    have e3 := Lock.step_acquire_lock (x := y2) q limit g3 (f + 2) (by rw [show y2 = _ from congrArg Prod.fst e2]) h3
      (by rw [show y2 = _ from congrArg Prod.fst e2]) (by rw [show y2 = _ from congrArg Prod.fst e2])
    have hother : ∀ f', f' ≠ f + 1 → (y1.step q limit g2 (some f')).1.state = .search := fun f' hne => by
      rw [show y1 = _ from congrArg Prod.fst e1, Lock.step_acquire_other q limit g2 f' rfl hne]
    refine ⟨?_, ?_, ?_, ?_, ?_, ?_, hother⟩
    · rw [show y1 = _ from congrArg Prod.fst e1]
    · rw [show y2 = _ from congrArg Prod.fst e2]
    · rw [e3]
    · rw [e3]
    · rw [e1]
    · rw [e2]
  · obtain ⟨n, rfl⟩ := Nat.exists_eq_add_of_le' hn
    intro lose z
    have hz : z = { x with state := .flywheel, flywheel := n + 1, expected := x.expected + (n + 1) } :=
      Lock.carried_over q limit hx hl hf
    have hstate : z.state = .flywheel := by rw [hz]
    refine ⟨hstate, by rw [hz], by rw [hz], fun g hg => ?_, fun hlast => ?_⟩
    · rw [Lock.step_flywheel_expected q limit g hstate hg]
    · have hover : limit < z.flywheel + 1 := by rw [hz]; simp only; omega
      have e : z.step q limit 0 none = _ := (Lock.step_flywheel_lost q limit none hstate).trans (if_pos hover)
      exact ⟨by rw [show lose z = _ from congrArg Prod.fst e], by rw [e]⟩
  · simp only [← nextFrame_eq]
    refine ⟨fun h => ⟨Lock.step_locked_lost q limit a h, fun hg hf => ?_, fun hg hq hf hm => ?_, fun hg hq hf hm => ?_,
      fun hg hq hf => ?_⟩, fun h => ⟨Lock.step_flywheel_lost q limit a h, fun hg hf => ?_, fun hg hq hf => ?_,
        fun _ hq hf => ?_⟩⟩
    · rw [hf, Lock.step_locked_expected q limit g h hg]
    · exact Lock.step_locked_mismatch q limit g f h hg hq hf hm
    · exact Lock.step_locked_anew q limit g f h hg hq hf hm
    · exact Lock.step_locked_weak q limit g f h hg hq hf
    · rw [hf, Lock.step_flywheel_expected q limit g h hg]
    · exact Lock.step_flywheel_anew q limit g f h hg hq hf
    · exact Lock.step_flywheel_weak q limit g f h hq hf

/-- Settles O30: the write is taken by the FILLING slot; word 131 is its block's last. -/
theorem formatterWriteTakesAWord : Obligations.FormatterWriteTakesAWord := by
  intro s a v k hwf hport hreg hrun hwait hptr hfill hk y b j
  obtain ⟨w, hw⟩ := State.exec_formatterWrite hport v hreg hrun
  rw [State.formatterWrite_filling v (by simpa using hwait) (by simpa [hptr] using hk) (by simpa [hptr] using hfill),
    show s.freshAccesses.tape.fillPtr = k from hptr] at hw
  obtain ⟨hpass, hword, hmem⟩ := State.takeTapeWord_passed (z := s.freshAccesses) v w hwf hreg rfl rfl hk
  have hframe : s.sameBut [.port, .tape, .rep, .mem]
      ((s.freshAccesses.takeTapeWord k (imageBlock y) (imageWord y) v).withCounts w) := by
    simp [State.sameBut_iff, State.agree]
  have htape : ((s.freshAccesses.takeTapeWord k (imageBlock y) (imageWord y) v).withCounts w).tape =
      s.tape.took k b j v := State.takeTapeWord_tape _ _ _ _ _
  refine ⟨fun hj => ⟨_, hw, hpass, hword, hmem, ?_⟩, fun hj => ⟨_, hw, hpass, hword, hmem, ?_⟩⟩
  · rw [htape, Assembler.took_word _ _ _ _ hj]
    refine ⟨fun n hn => ?_, fun n hn => (Assembler.taken_block _ _ _ _ _ n).trans (if_neg hn), rfl,
      fun n hn => Assembler.taken_other _ _ _ _ _ hn, hframe⟩
    rw [Assembler.taken_block, if_pos hn, BlockRec.take_word _ _ _ hj]
    exact ⟨rfl, rfl, rfl, rfl, rfl, rfl⟩
  · have hsent := Assembler.took_last b v hfill
    rw [htape]
    rw [hj]
    refine ⟨fun n hn => ?_, fun n hn => ?_, fun hall => ?_, hsent.2, Assembler.took_keeps _ _ _ _ _,
      fun n hn => Assembler.took_other _ _ _ _ _ hn, hframe⟩
    · simp only [Assembler.took_blocks]
      rw [Assembler.taken_block, if_pos hn]
      exact BlockRec.take_last _ _ _
    · simp only [Assembler.took_blocks]
      rw [Assembler.taken_block, if_neg hn]
    · obtain ⟨hset, hstate, hqueue⟩ := hsent.1 hall
      refine ⟨hstate, hqueue, ?_⟩
      have hm := State.takeTapeWord_sent (s := s.freshAccesses) (k := k) (b := b) (v := v) hfill hset
      rw [show imageWord y = 131 from hj]
      exact hm

/-- Settles O31: which write it is decides what it leaves; the gap frames of a wait leave the slots and the queue. -/
theorem formatterWriteMovesTheFillPointer : Obligations.FormatterWriteMovesTheFillPointer := by
  intro s a v hwf hport hreg hrun y j p n begun left
  obtain ⟨w, hw⟩ := State.exec_formatterWrite hport v hreg hrun
  have hbegun : ∀ {k : Fin 4} {t : State}, s.BeginsFill a.toNat v k t → begun k t := fun h =>
    ⟨h.treatment, h.word, h.memory, h.fillPtr, h.slot, h.block⟩
  refine ⟨fun hwait => ⟨fun hk hs => ?_, fun hk hs => ?_, fun hk hs => ?_, fun hstray => ?_⟩,
    fun gap hwait => ⟨fun hno => ?_, fun hk hs => ?_⟩⟩
  -- the slot at the fill pointer begins to fill
  · rw [State.formatterWrite_begin (s := s.freshAccesses) v hwait hk hs] at hw
    have hb := State.beginFill_begins (z := s.freshAccesses) v w hwf hreg rfl rfl hk rfl rfl
    have htape := (s.freshAccesses.beginFill p).takeTapeWord_tape p (imageBlock y) (imageWord y) v
    obtain ⟨hkeep, hother, -, -⟩ := s.tape.begun_took p (imageBlock y) (imageWord y) v
    refine ⟨_, hw, hbegun hb, fun k hne => (congrArg (fun x : Assembler => x.slots[k]) htape :).trans (hother k hne), ?_,
      hb.marked, by simp [State.sameBut_iff, State.agree]⟩
    exact (htape.trans hkeep).trans (congrArg (fun x : Assembler => { s.tape with slots := x.slots }) htape :).symm
  -- the fill pointer advances
  · rw [State.formatterWrite_advance (s := s.freshAccesses) v hwait hk hs] at hw
    have hb := State.advanceFill_begins (z := s.freshAccesses) v w hwf hreg rfl rfl rfl hk
    obtain ⟨hleft, hother, hkeep⟩ := s.freshAccesses.advanceFill_advanced (imageBlock y) (imageWord y) v
    exact ⟨_, hw, hbegun hb, hleft, hother, hkeep, hb.marked, by simp [State.sameBut_iff, State.agree]⟩
  -- an overrun begins
  · rw [State.formatterWrite_overrun (s := s.freshAccesses) v hwait hk hs] at hw
    obtain ⟨hleft, hother, hkeep⟩ := s.freshAccesses.beginOverrun_overruns
    obtain ⟨htreat, hset, hcount⟩ := s.freshAccesses.beginOverrun_reports
    exact ⟨_, hw, htreat, by simp [State.beginOverrun], hleft, hother, hkeep, hset, (hcount _).trans (if_pos rfl),
      fun c hc => (hcount c).trans (if_neg hc), by simp [State.sameBut_iff, State.agree]⟩
  -- a stray write
  · rw [State.formatterWrite_stray (s := s.freshAccesses) v hwait hstray] at hw
    obtain ⟨htreat, hset, hcount⟩ := s.freshAccesses.strayWrite_reports
    exact ⟨_, hw, htreat, by simp [State.strayWrite], hset, (hcount _).trans (if_pos rfl),
      fun c hc => (hcount c).trans (if_neg hc), by simp [State.sameBut_iff, State.agree]⟩
  -- a write dropped during the wait
  · rw [State.formatterWrite_waiting (s := s.freshAccesses) v hwait hno] at hw
    exact ⟨_, hw, rfl, rfl, rfl, by simp [State.sameBut_iff, State.agree]⟩
  -- the write that ends the wait
  · rw [State.formatterWrite_ended (s := s.freshAccesses) v hwait hk hs] at hw
    have hend := s.freshAccesses.waitEnded_tape gap
    obtain ⟨hcount, hset, hmon, hframe⟩ := s.freshAccesses.waitEnded_keeps gap
    generalize hz : s.freshAccesses.waitEnded gap = z at *
    have hptr : z.tape.fillPtr = p := (congrArg Assembler.fillPtr hend :)
    have hslots : z.tape.slots = s.tape.slots := (congrArg Assembler.slots hend :)
    have hqueue : z.tape.evalQueue = s.tape.evalQueue := (congrArg Assembler.evalQueue hend :)
    have hmem : z.mem = s.mem := (hframe .mem (by simp) :)
    obtain ⟨-, -, -, htable, -⟩ := hframe .bus (by simp)
    have hb := State.advanceFill_begins v w hwf hreg hmem htable hslots (by rw [hptr]; exact hk)
    obtain ⟨hleft, hother, hkeep⟩ := z.advanceFill_advanced (imageBlock y) (imageWord y) v
    unfold Assembler.Leaves at hleft
    simp only [hptr, hslots, hqueue] at hleft hother hb
    refine ⟨_, hw, hbegun hb, hleft, ?_, hother, ?_, ?_, fun c hc => ?_, ?_, ?_, ?_⟩
    · exact (congrArg Assembler.wait hkeep :).trans (congrArg Assembler.wait hend :)
    · exact (congrArg Assembler.lock hkeep :).trans (congrArg Assembler.lock hend :)
    · exact (congrArg Assembler.window hkeep :).trans (congrArg Assembler.window hend :)
    · exact (congrArg (countOf · c) (by simp)).trans (hcount c hc)
    · exact ((z.onlyMarks_advanceFill _ _ v).flags.2.2 _).trans hset
    · simpa using hmon
    · exact ((State.sameBut.trans (State.sameBut.trans (ps := [.port]) (by simp [State.sameBut_iff, State.agree]) hframe)
        (t := (z.advanceFill (imageBlock y) (imageWord y) v).withCounts w) (qs := [.port, .tape, .rep, .mem])
        (by simp [State.sameBut_iff, State.agree])).narrow (by simp))

/-- Settles O53: the write is passed, and its value taken; the write-back of a value out of range is only called for. -/
theorem settingsWriteCaptures : Obligations.SettingsWriteCaptures := by
  intro s k v hwf hport lo hi
  obtain ⟨w, hw⟩ := State.exec_settingsWrite hport k v
  have haddr : (ctlBus (0x010 + k.val)).toNat = 0x7F010 + k.val := by
    rw [ctlBus_toNat (by omega), ← Nat.add_assoc]
  obtain ⟨hpass, -, hword, hmem, hframe⟩ := State.passWord_passed hwf (ctlBus (0x010 + k.val)) v w
  rw [haddr] at hword hmem
  generalize s.freshAccesses.passWord (ctlBus (0x010 + k.val)) v = z at *
  have hsettings : z.settings = s.settings := hframe .settings (by simp)
  have htape : z.tape = s.tape := hframe .tape (by simp)
  have hrep : z.rep = s.rep := hframe .rep (by simp)
  have hcounters : z.counters = s.counters := hframe .counters (by simp)
  have hin : settingOk k v.toNat = true ↔ lo ≤ v.toNat ∧ v.toNat ≤ hi := by rw [settingOk_iff, settingRange_eq]
  have hvalue : settingValue k (s.settings.get k) v.toNat = if lo ≤ v.toNat ∧ v.toNat ≤ hi then v.toNat
      else if k = 0 then s.settings.get k else if v.toNat < lo then lo else hi := by
    rw [settingValue_eq, settingRange_eq]
  obtain ⟨hrest, hset, hback⟩ := z.captureSetting_done k v
  rw [hsettings] at hrest hset
  rw [← hvalue]
  generalize hn : settingValue k (s.settings.get k) v.toNat = n at *
  obtain ⟨hbus, -, -, -, -, -, -, hzmem, -⟩ := z.captureSetting_frame k v
  generalize z.captureSetting k v = u at *
  have hz : s.sameBut [.port, .mem] z := (hframe.trans (qs := [.port]) (by simp [State.sameBut_iff, State.agree])).narrow
    (by simp)
  have husettings : u.settings = (z.settingTaken k n).settings := hrest .settings (by simp)
  have hutape : u.tape = (z.settingTaken k n).tape := hrest .tape (by simp)
  have hget : ∀ j : Fin 7, u.settings.get j = if j = k then n else s.settings.get j := fun j => by
    rw [husettings, z.settingTaken_settings, hsettings]
  have hk : u.settings.get k = n := (hget k).trans (if_pos rfl)
  refine ⟨_, hw, ?_, (State.peek_congr (t := u.withCounts w) hzmem _).trans hword, fun a ha hn =>
    (State.peek_congr (t := u.withCounts w) hzmem a).trans (hmem a ha hn), hk, fun j hj => (hget j).trans (if_neg hj),
    fun hout => ?_, fun h1 h2 => ?_, ?_, fun h5 hne => ?_, fun hsame => ?_, fun h4 hne => ?_, fun h4 h5 => ?_, ?_⟩
  · simpa [hbus] using hpass
  · have hno : ¬settingOk k v.toNat = true := by rw [hin]; omega
    exact hback.trans ((if_neg hno).trans (by rw [hrep]))
  · exact hback.trans ((if_pos (hin.mpr ⟨h1, h2⟩)).trans (by rw [hrep]))
  · exact (hset _).trans (((z.settingTaken_rep k n).2 _ (by decide)).trans (by rw [hrep]; rfl))
  · subst h5
    have hnew : n ≠ z.settings.get 5 := by rw [hsettings, ← hk]; exact hne
    obtain ⟨htest, hwindow⟩ := z.settingTaken_thresh hnew
    refine ⟨?_, (congrArg Assembler.window hutape).trans (hwindow.trans (by rw [htape]))⟩
    exact (htest.earlier htape hrep hcounters).later husettings (congrArg Assembler.window hutape)
      (congrArg Assembler.lock hutape) (congrArg Assembler.rateArmed hutape) (hset _)
      (congrArg (countOf · .errorRate) (hrest .counters (by simp)))
  · have hold : n = z.settings.get k := by rw [hsettings, ← hk]; exact hsame
    exact hutape.trans (by rw [z.settingTaken_same hold, htape])
  · subst h4
    have hnew : n ≠ z.settings.get 4 := by rw [hsettings, ← hk]; exact hne
    obtain ⟨hwindow, harmed⟩ := z.settingTaken_window hnew
    exact ⟨(congrArg Assembler.window hutape).trans hwindow, (congrArg Assembler.rateArmed hutape).trans harmed⟩
  · exact (((hz.trans (z.settingTaken_other n h4 h5)).trans hrest).narrow (by simp)).withCounts (by simp) w
  · exact (((hz.trans (z.settingTaken_frame k n)).trans hrest).narrow (by simp)).withCounts (by simp) w

/-- Settles O34: the frame is judged, then handed over; what the hand-over is made on stands through the judgement. -/
theorem evaluationEndSettles : Obligations.EvaluationEndSettles := by
  refine ⟨?_, ?_⟩
  · intro s j hop hn he hd hdis hs handed
    obtain ⟨w, hw⟩ := State.exec_evaluationEnd hop hn he hd
    have hhanded : ∀ {t : State}, s.Hands s.tape.slots[j.slot].good s.tape.slots[j.slot].frame j.damage t → handed t :=
      fun h => ⟨h.lock, h.window, h.tested, h.waits, h.arrives⟩
    refine ⟨fun hno => ?_, fun hdup => ?_⟩
    -- accepted
    · have hnodup : s.tape.duplicates j.slot = false := by
        rw [← Bool.not_eq_true, Assembler.duplicates_iff]
        exact fun ⟨k, hne, hk, hf⟩ => hno k hne hk hf
      rw [State.finishEvaluation_accepted hdis hnodup] at hw
      have ht := (s.judging_accept j.slot).settled s.tape.slots[j.slot].good s.tape.slots[j.slot].frame j.damage w
      generalize (((s.evalEnded.acceptFrame j.slot).frameHanded s.tape.slots[j.slot].good s.tape.slots[j.slot].frame
        j.damage).markPlayback.withCounts w) = t at *
      have htape := ht.tape
      rw [State.acceptFrame_tape] at htape
      refine ⟨t, hw, (congrArg Assembler.eval htape :), (congrArg Assembler.slots htape :), ?_, ht.hands.lock,
        ht.hands.window, fun hg => ⟨?_, ?_⟩, (congrArg Monitor.effective ht.mon :), ht.framesLost.trans ?_,
        hhanded ht.hands, ht.frame⟩
      · rw [ht.mon, State.acceptFrame_mon]
        rfl
      · exact (congrArg Assembler.carriedRate htape :).trans (if_pos hg)
      · exact (congrArg Assembler.carriedStatus htape :).trans (if_pos hg)
      · simp [State.evalEnded]
    -- a duplicate
    · rw [State.finishEvaluation_duplicate hdis ((Assembler.duplicates_iff _ _).mpr hdup)] at hw
      have ht := (s.judging_duplicate j.slot).settled s.tape.slots[j.slot].good s.tape.slots[j.slot].frame j.damage w
      generalize ((((s.evalEnded.loseFrame j.slot).raise .duplicate).frameHanded s.tape.slots[j.slot].good
        s.tape.slots[j.slot].frame j.damage).markPlayback.withCounts w) = t at *
      have htape := ht.tape
      rw [State.raise_frame .. |>.2.2.1, State.loseFrame_tape] at htape
      refine ⟨t, hw, (congrArg Assembler.eval htape :), (congrArg Assembler.slots htape :), ?_, ht.duplicate.trans (by simp),
        ht.framesLost.trans (s.loseFrame_framesLost j.slot), hhanded ht.hands, ht.frame⟩
      rw [ht.mon]
      simp [State.evalEnded]
  · intro s j hop hn he hd hdis
    obtain ⟨w, hw⟩ := State.exec_evaluationEnd hop hn he hd
    have htape := State.finishEvaluation_lost (s := s) hdis
    have htest := State.finishEvaluation_lost_tested (s := s) hdis
    obtain ⟨hqueue, hlost, hframe⟩ := State.finishEvaluation_lost_keeps (s := s) hdis
    generalize s.finishEvaluation j = t at *
    exact ⟨_, hw, (congrArg Assembler.eval htape :), (congrArg Assembler.slots htape :), hqueue,
      (congrArg Assembler.window htape :), (congrArg Assembler.lock htape :), hlost,
      htest.later rfl rfl rfl rfl rfl rfl, (hframe.narrow (by simp)).withCounts (by simp) w⟩

/-- Settles O33: the slot is judged; the winner of the vote is the one that the hypotheses on `w` single out. -/
theorem evaluationTakeJudges : Obligations.EvaluationTakeJudges := by
  intro s k rest hop hn he hq hsound old closed addr votes locked
  obtain ⟨w, hw⟩ := State.exec_evaluationTake hop hn he hq
  rw [State.takeEvaluation_eq] at hw
  dsimp only at hw
  rw [show s.tape.slots[k] = old from rfl] at hw
  obtain ⟨hblocks, hgood, hcorrA, hcorrB⟩ := old.judged_counts s.tape.lock s.tape.carriedRate s.tape.carriedStatus
  have hstate := old.judged_state s.tape.lock s.tape.carriedRate s.tape.carriedStatus
  have hnone := old.judged_none s.tape.lock s.tape.carriedRate s.tape.carriedStatus
  have hwon := fun a : Fin 14 =>
    TapeSlot.judged_won (sl := old) (x := s.tape.lock) s.tape.carriedRate s.tape.carriedStatus (a := a)
  have htape : (s.judgedTake k rest).tape = { s.tape with
      slots := vmod s.tape.slots k fun _ => old.judged s.tape.lock s.tape.carriedRate s.tape.carriedStatus
      evalQueue := rest
      eval := some
        { slot := k, discard := (old.judged s.tape.lock s.tape.carriedRate s.tape.carriedStatus).discarded s.tape.lock
          damage := countStatus (old.judged s.tape.lock s.tape.carriedRate s.tape.carriedStatus).blocks.toList .bad +
            countStatus (old.judged s.tape.lock s.tape.carriedRate s.tape.carriedStatus).blocks.toList .missing
          done := 0 } } := rfl
  obtain ⟨hzc, hzr, hzf⟩ := s.judgedTake_keeps k rest
  generalize old.judged s.tape.lock s.tape.carriedRate s.tape.carriedStatus = y at *
  obtain ⟨hstray, hbad, hmissing, hcount, hraised, hframe⟩ := (s.judgedTake k rest).counted
    ((goodBlocks old.blocks.toList).length - y.good) (countStatus y.blocks.toList .bad)
    (countStatus y.blocks.toList .missing)
  generalize (((s.judgedTake k rest).count .strayBlock ((goodBlocks old.blocks.toList).length - y.good)).count .blocksBad
    (countStatus y.blocks.toList .bad)).count .blocksMissing (countStatus y.blocks.toList .missing) = t at *
  generalize s.judgedTake k rest = z at *
  have htt : t.tape = z.tape := hframe .tape (by simp)
  rw [hzc] at hstray hbad hmissing hcount
  rw [htape] at htt
  have hk : t.tape.slots[k] = y := by
    rw [htt]
    exact vmod_same _ _ _
  have hsettled : ∀ b : Fin 14, (judgedBlocks s.tape.lock.expected old.blocks)[b].status.settled = true :=
    judgedBlocks_settled s.tape.lock.expected old.blocks
  have hother : ∀ j : Fin 4, j ≠ k → t.tape.slots[j] = s.tape.slots[j] := fun j hj => by
    rw [htt]
    exact vmod_other _ _ hj
  have hdamage : countStatus y.blocks.toList .bad + countStatus y.blocks.toList .missing = 14 - y.good := by
    rw [hblocks, hgood, countStatus_eq, countStatus_eq]
    exact blockCount_settled hsettled
  rw [hblocks, countStatus_eq] at hbad hmissing
  rw [hgood, strays_eq] at hstray
  have hcorr : ∀ g : Fin 2, (if g = 0 then y.corrA else y.corrB) =
      corrOfCount (notGood (judgedBlocks s.tape.lock.expected old.blocks).toList g.val) :=
    Fin.forall_fin_two.mpr ⟨(if_pos rfl).trans hcorrA, (if_neg (by decide)).trans hcorrB⟩
  refine ⟨t.withCounts w, hw, ?_⟩
  simp only [State.withCounts_frame, State.counter_eq, hk, hblocks]
  refine ⟨by rw [htt], hother, hstate, fun w h0 hmax hexp hmin => ?_, fun hno => ?_, hgood, fun g n hn => ?_, ?_, hbad,
    hmissing, hcount, by rw [hraised, hzr],
    ((hzf.trans hframe).narrow (by simp)).withCounts (by simp) w⟩
  · have hwin : slotWinner s.tape.lock.expected old.blocks = w := slotWinner_eq _ _ (fun f => rfl) h0 hmax hexp hmin
    obtain ⟨a, ha⟩ := blockCount_pos h0
    obtain ⟨hag, haf⟩ := Bool.and_eq_true_iff.mp ha
    obtain ⟨h1, h2, h3, h4⟩ := hwon a ((judgedBlocks_good _ _ _).mpr
      ⟨beq_iff_eq.mp hag, (beq_iff_eq.mp haf).trans hwin.symm⟩)
    have hcalls : (blockCount fun b => closed b == .good && addr b != w) = blockCount fun b =>
        old.blocks[b].status == .good && !(old.blocks[b].frame == slotWinner s.tape.lock.expected old.blocks) :=
      congrArg blockCount (funext fun b => by rw [hwin, closedOff_good]; rfl)
    rw [hcalls, ← hwin]
    exact ⟨fun b => judgedBlocks_eq _ _ b, h1, h2, h3, h4, hstray⟩
  · have hclosed : ∀ b : Fin 14, (judgedBlocks s.tape.lock.expected old.blocks)[b] = { old.blocks[b] with status := closed b } :=
      judgedBlocks_none _ hno
    have hbad : ∀ b : Fin 14, (judgedBlocks s.tape.lock.expected old.blocks)[b].status ≠ .good := fun b hb =>
      hno b ((judgedBlocks_good _ _ _).mp hb).1
    have hzero : (blockCount fun b => old.blocks[b].status == .good &&
        !(old.blocks[b].frame == slotWinner s.tape.lock.expected old.blocks)) = 0 :=
      blockCount_zero fun b => by rw [beq_false_of_ne (hno b), Bool.false_and]
    rw [hzero, Nat.add_zero, Nat.min_eq_right (show countOf s.counters .strayBlock ≤ 65535 from hsound .strayBlock)] at hstray
    exact ⟨hclosed, (hnone hbad).1, (hnone hbad).2, hstray⟩
  · rw [← corrOfCount_notGood _ hn]
    exact hcorr g
  · rw [htt, hdamage]
    rfl

/-- Settles O60: the port goes to the first engine that may take it, and each engine's next access writes or reads one word. -/
theorem engineGrantsMakeOneAccess : Obligations.EngineGrantsMakeOneAccess := by
  refine ⟨fun s hg => ?_, fun s x hp hx => ?_, fun s e hop hn hg => State.exec_grant_counts hop hn hg,
    fun x => ⟨rfl, rfl, rfl, rfl, rfl, rfl, rfl, x.evalWord_block⟩,
    fun s hwf hop hn hc => ⟨fun j hj hd => ?_, fun he => ⟨fun off v rest hoff hp => ?_, fun n k rest hp => ?_,
      fun k rest hp => ?_, fun g w rest hp => ?_, fun rest hp hne => ?_, fun ws hlen hp hph => ?_⟩⟩⟩
  -- under the guard
  · intro due
    have hdue : ∀ e, s.mayTake e ↔ due e := fun e => and_congr_right fun _ => ⟨fun h => h hg, fun h _ => h⟩
    simpa only [hdue] using s.grantee_iff
  -- the wait counts of a service
  · refine ⟨_, State.exec_row hp x hx, fun e => ?_⟩
    rw [State.normCounts_get, State.waiting_normCounts, State.service_get]
    cases (s.service x).waiting e <;> rfl
  -- the evaluation engine
  · intro e
    obtain ⟨w, hw⟩ := State.exec_evalGrant hop hn hc hj hd
    have hoff : tapeEntry j.slot + 1 + j.done < 4096 := by
      simp only [tapeEntry]
      omega
    obtain ⟨hword, hmem⟩ := State.poked_control (t := (s.evalAccess j).withCounts w) hwf hoff _ rfl
    have haddr : 0x7F000 + (tapeEntry j.slot + 1 + j.done) = e := by
      simp only [tapeEntry, e]
      omega
    rw [haddr] at hword hmem
    exact ⟨_, hw, hword, hmem, rfl, by simp [State.sameBut_iff, State.agree]⟩
  -- the words of a pass
  · exact State.exec_passWritten hop hn hc hwf he hp (by simp) hoff rfl
  · intro e
    have haddr : 0x7F000 + (tapeEntry n + 1 + k.val) = e := by
      simp only [tapeEntry, e]
      omega
    have h := State.exec_passWritten hop hn hc hwf he hp (by simp) (off := tapeEntry n + 1 + k.val)
      (by simp only [tapeEntry]; omega) rfl
    rwa [haddr] at h
  · have h := State.exec_passWritten hop hn hc hwf he hp (by simp) (off := 0x010 + k.val) (by omega) rfl
    rw [← Nat.add_assoc] at h
    obtain ⟨t, ht, hword, hmem, hrep, hframe⟩ := h
    refine ⟨t, ht, hword, hmem, ?_, hrep, hframe⟩
    rw [State.isSet_eq, hrep]
    exact (s.raise_isSet .configInvalid .configInvalid).trans (by simp)
  · have h := State.exec_passWritten hop hn hc hwf he hp (by simp) (off := 0x002 + g.val) (by omega) rfl
    rw [← Nat.add_assoc] at h
    exact h
  · have h := State.exec_passWritten hop hn hc hwf he hp (fun _ => hne) (off := 0x001) (by omega) rfl
    obtain ⟨t, ht, hword, hmem, hrep, hframe⟩ := h
    exact ⟨t, ht, hword, hmem, fun g => by rw [show t.peek 0x7F001 = _ from hword]; exact s.rep.summary_bit g, hrep, hframe⟩
  -- the entry at the consumer index
  · intro w
    obtain ⟨c, hw⟩ := State.exec_readGrant hop hn hc he hp hph
    simp only [entryOffset_addr] at hw
    refine ⟨_, hw, by simp [State.sameBut_iff, State.agree], fun h2 => ?_, fun w0 a1 hws => ?_⟩
    · have hshort : (ws ++ [w]).length < 3 := by
        rw [List.length_append, List.length_singleton]
        omega
      exact congrArg (fun p => { s.cmd with phase := p }) (phaseOfWords_reading hshort)
    · subst hws
      rfl

/-- Settles O39: the half's release and its binding are stated once (`State.Released`, `State.TurnsOver`), and the read that
follows is answered or held from the state that they leave. -/
theorem playbackTurnoverBindsHead : Obligations.PlaybackTurnoverBindsHead := by
  intro s a hport hreg hlast
  have hy := s.freshAccesses.releaseHalf_released (halfOf (s.bus.offset 1 a.toNat))
  refine ⟨fun k rest hrun hq => ?_, fun hrun hq hv => ?_, fun hrun => ?_, fun hrun hq hv => ?_⟩
  · obtain ⟨hover, hraised, hunder⟩ := hy.binds hrun hq
    obtain ⟨t, hexec, ht⟩ := State.exec_turnover hport hreg hlast (by simp [hq]) hover
    exact ⟨t, hexec, ht.freed, ht.mon, ht.output, ht.answered, ht.marked, ht.raised.trans hraised, ht.underruns.trans hunder⟩
  · obtain ⟨hover, hraised, hset, hunder⟩ := hy.underruns hrun hq
    obtain ⟨t, hexec, ht⟩ := State.exec_turnover hport hreg hlast (by simp [hv]) hover
    exact ⟨t, hexec, ht.freed, ht.mon, ht.output, ht.answered, ht.marked, (ht.isSet _).trans hset, ht.raised.trans hraised,
      ht.underruns.trans hunder⟩
  · obtain ⟨hover, hraised, hunder⟩ := hy.stops hrun
    obtain ⟨t, hexec, ht⟩ := State.exec_turnover hport hreg hlast (by simp [hrun]) hover
    exact ⟨t, hexec, ht.freed, ht.mon, ht.output, ht.answered, ht.marked, ht.raised.trans hraised, ht.underruns.trans hunder⟩
  · obtain ⟨t, hexec, hfreed, ⟨hheld, hwait, hop, htable, hvalid, hframe⟩, hmon, hsame, hmarked⟩ :=
      State.exec_turnover_waits hport hreg hlast hrun hq hv
    exact ⟨t, hexec, hfreed, ⟨hheld, hwait.trans hport.2.2.1, hop, htable, hvalid⟩, hmon, hsame, hmarked, hframe⟩

/-- Settles O29: either write is served by a plain passing. -/
theorem passedWritesReachMemoryOnly : Obligations.PassedWritesReachMemoryOnly := by
  refine ⟨fun s a v hwf hport hreg hrun => ?_, fun s off v hwf hport hform => ?_⟩
  · obtain ⟨w, hw⟩ := State.exec_offTapeImageWrite hport v hreg
    rw [if_neg (by rw [hrun]; simp)] at hw
    exact ⟨_, hw, State.passWord_passed hwf a v w⟩
  · have hoff : off.toNat < 4096 := off.isLt
    have hpass : s.freshAccesses.controlWrite (ctlBus off.toNat) v = s.freshAccesses.passWord (ctlBus off.toNat) v := by
      rw [State.controlWrite, ctlOffset_ctlBus hoff]
      obtain ⟨k, hk⟩ | hk := controlWord_of_not_capture (off := off.toNat) (by simpa [WellFormed] using hform)
      · rw [hk]
      · rw [hk]
    obtain ⟨w, hw⟩ := State.upWrite_control (v := v) hport hoff (by simp [hpass, hport.2.1])
    rw [hpass] at hw
    have hdone := State.passWord_passed hwf (ctlBus off.toNat) v w
    rw [ctlBus_toNat hoff] at hdone
    exact ⟨_, congrArg Host.Outcome.next hw, hdone⟩

end

section
/-! PROOFS. The decode service's words: the values of a ramp, a decay and a bridge, and the delivery that is made, case by case
(R67 to R70). -/

namespace Sys2Proof.Machine

/-! ### Values in the range of a word (R67, R68, R70) -/

theorem Word.toInt_bounds (v : Word) : -32768 ≤ v.toInt ∧ v.toInt < 32768 := ⟨v.le_toInt, v.toInt_lt⟩

/-- A value in the range of a word is that word's value. -/
theorem Word.toInt_ofInt_of_bounds {i : Int} (hlow : -32768 ≤ i) (hhigh : i < 32768) : (BitVec.ofInt 16 i).toInt = i :=
  BitVec.toInt_ofInt_eq_self (by decide) hlow hhigh

/-- A quotient truncated toward zero in the range of a word is that word's value. -/
theorem Word.toInt_ofInt_tdiv {i : Int} {m : Nat} (h : i.natAbs < m * 32768) :
    (BitVec.ofInt 16 (Int.tdiv i m)).toInt = Int.tdiv i m := by
  have hsize : (Int.tdiv i m).natAbs < 32768 := (Int.natAbs_tdiv i m).trans_lt (Nat.div_lt_of_lt_mul h)
  exact Word.toInt_ofInt_of_bounds (by omega) (by omega)

theorem decayWord_toInt (v : Word) : (decayWord v).toInt = Int.tdiv (3 * v.toInt) 4 := by
  obtain ⟨hlow, hhigh⟩ := Word.toInt_bounds v
  exact Word.toInt_ofInt_tdiv (m := 4) (by omega)

theorem natAbs_decayWord_le (v : Word) : (decayWord v).toInt.natAbs ≤ v.toInt.natAbs := by
  have hquotient : (decayWord v).toInt.natAbs = (3 * v.toInt).natAbs / 4 := by
    rw [decayWord_toInt]
    exact Int.natAbs_tdiv _ _
  omega

/-- Below its 32nd step a ramp stays in the range of a word. -/
theorem rampWord_toInt (v : Word) {k : Nat} (hk : k ≤ 31) : (rampWord v k).toInt = Int.tdiv (v.toInt * k) 32 := by
  obtain ⟨hlow, hhigh⟩ := Word.toInt_bounds v
  have hmul : (v.toInt * k).natAbs ≤ 32768 * 31 := by
    rw [Int.natAbs_mul]
    exact Nat.mul_le_mul (by omega) hk
  exact Word.toInt_ofInt_tdiv (m := 32) (by omega)

theorem meanWord_toInt (a b : Word) : (meanWord a b).toInt = (a.toInt + b.toInt) / 2 := by
  obtain ⟨halow, hahigh⟩ := Word.toInt_bounds a
  obtain ⟨hblow, hbhigh⟩ := Word.toInt_bounds b
  exact Word.toInt_ofInt_of_bounds (by omega) (by omega)

/-! ### The delivery made (R67 to R70) -/

namespace Ctx

variable {x : Ctx} {limit : Nat}

theorem recover_whole (h : x.mode = .normal ∨ x.mode = .holding) (v : Word) :
    x.recover v = { last := v, mode := .normal, hold := 0, step := 0 } := by
  obtain h | h := h <;> simp only [recover, h]

theorem deliver_muting (h : x.mode = .muting) (next : Option Word) :
    x.deliver limit none next = { kind := .decayed, ctx := x.decay } := by
  simp only [deliver, h]

theorem deliver_recovering (h : x.mode = .recovering) (next : Option Word) :
    x.deliver limit none next = { kind := .held, ctx := x.holdAt 1 } := by
  simp only [deliver, h]

/-- A word that a NORMAL or HOLDING context can bridge (R68). -/
theorem deliver_bridged (h : x.mode = .normal ∨ x.mode = .holding) (w : Word) : x.deliver limit none (some w) =
    { kind := .interpolated, ctx := { last := meanWord x.last w, mode := .normal, hold := 0, step := 0 } } := by
  obtain h | h := h <;> simp only [deliver, h]

/-- A word that it cannot bridge: held below the hold limit, and decayed at it (R69, R70). -/
theorem deliver_unbridged (h : x.mode = .normal ∨ x.mode = .holding) : x.deliver limit none none =
    if x.hold < limit then { kind := .held, ctx := x.holdAt (x.hold + 1) } else { kind := .decayed, ctx := x.decay } := by
  obtain h | h := h <;> simp only [deliver, h]

/-- What an unrecoverable word is delivered as (R68 to R70). -/
theorem deliver_none_cases (x : Ctx) (limit : Nat) (next : Option Word) :
    (x.deliver limit none next).kind = .interpolated ∨
    (∃ run, x.deliver limit none next = { kind := .held, ctx := x.holdAt run }) ∨
    x.deliver limit none next = { kind := .decayed, ctx := x.decay } := by
  have hplain : x.mode = .normal ∨ x.mode = .holding →
      (x.deliver limit none next).kind = .interpolated ∨
      (∃ run, x.deliver limit none next = { kind := .held, ctx := x.holdAt run }) ∨
      x.deliver limit none next = { kind := .decayed, ctx := x.decay } := fun h => by
    cases next with
    | some w => exact .inl (congrArg Delivery.kind (deliver_bridged h w))
    | none =>
      rw [deliver_unbridged h]
      split
      · exact .inr (.inl ⟨_, rfl⟩)
      · exact .inr (.inr rfl)
  cases hm : x.mode with
  | normal => exact hplain (.inl hm)
  | holding => exact hplain (.inr hm)
  | recovering => exact .inr (.inl ⟨1, deliver_recovering hm next⟩)
  | muting => exact .inr (.inr (deliver_muting hm next))

/-- A decayed delivery is the context's last value decayed (R70). -/
theorem ctx_of_decayed {next : Option Word} (h : (x.deliver limit none next).kind = .decayed) :
    (x.deliver limit none next).ctx = x.decay := by
  obtain hk | ⟨run, hd⟩ | hd := x.deliver_none_cases limit next
  · rw [hk] at h
    cases h
  · rw [hd] at h
    cases h
  · rw [hd]

/-- A held or decayed delivery is of no greater magnitude than the last value (R69, R70). -/
theorem natAbs_last_le {next : Option Word}
    (h : (x.deliver limit none next).kind = .held ∨ (x.deliver limit none next).kind = .decayed) :
    (x.deliver limit none next).ctx.last.toInt.natAbs ≤ x.last.toInt.natAbs := by
  obtain hk | ⟨run, hd⟩ | hd := x.deliver_none_cases limit next
  · rw [hk] at h
    simp at h
  · rw [hd]
    exact Nat.le_refl _
  · rw [hd]
    exact natAbs_decayWord_le x.last

/-! ### The ramp out of MUTING (R67) -/

/-- After `n` recovered words, fewer than 32. -/
theorem recover_iterate (h : x.mode = .muting) (v : Word) {n : Nat} (h1 : 1 ≤ n) (h2 : n ≤ 31) :
    (fun y : Ctx => y.recover v)^[n] x = { last := rampWord v n, mode := .recovering, hold := x.hold, step := n + 1 } := by
  induction n, h1 using Nat.le_induction with
  | base => simp only [Function.iterate_one, recover, h]
  | succ n _ ih =>
    rw [Function.iterate_succ_apply', ih (by omega)]
    exact if_pos (Nat.lt_succ_of_le h2)

/-- The 32nd recovered word is whole. -/
theorem recover_iterate_whole (h : x.mode = .muting) (v : Word) :
    (fun y : Ctx => y.recover v)^[32] x = { last := v, mode := .normal, hold := x.hold, step := 0 } := by
  rw [Function.iterate_succ_apply', recover_iterate h v (by decide) (by decide)]
  rfl

end Ctx

/-! ### The next word in time (R68) -/

theorem nextWord_inside (f : Option Nat) {n : Nat} (h : n < 767) : nextWord f n = (f, n + 1) := if_pos h

theorem nextWord_frameEdge {f : Nat} (h : f < 1048575) : nextWord (some f) 767 = (some (f + 1), 0) :=
  congrArg (·, 0) (if_pos h)

end Sys2Proof.Machine
end

section
/-! PROOFS. The class of a requested word and its value, read as stored or rebuilt (R61 to R64). -/

namespace Sys2Proof.Machine

/-! ### The XOR of a group (R64) -/

/-- An XOR over a list, made twice, goes out again. -/
theorem foldl_xor_cancel (f : Nat → Word) (l : List Nat) (x : Word) :
    l.foldl (fun w i => w ^^^ f i) (l.foldl (fun w i => w ^^^ f i) x) = x := by
  rw [foldl_xor_eq f l (l.foldl _ x), foldl_xor_eq f l x, BitVec.xor_assoc, BitVec.xor_self, BitVec.xor_zero]

/-! ### Values (R63, R64) -/

theorem State.tapeWord_eq (s : State) (k : Fin 4) (b p : Nat) : s.tapeWord k b p = s.peek (s.tapeAddr k (132 * b + 2 + p)) := by
  rw [Nat.add_assoc]
  rfl

/-- A word whose group holds the parity relation is rebuilt from the five others and the parity word (R9, R64). -/
theorem State.classValue_rebuilt {s : State} {k : Fin 4} {b p : Nat} {x : Word}
    (h : s.tapeWord k (parityBlock b) p = (partners b).foldl (fun y i => y ^^^ s.tapeWord k i p) x) :
    s.classValue (.rebuilt k b p) = some x := by
  rw [State.classValue, h, foldl_xor_cancel]

/-! ### The class in a COMPLETE slot (R61, R62) -/

section
variable {t : Assembler} {k : Fin 4} {f : Nat} (hk : t.completeAt f = some k) (n c : Nat)
include hk

/-- Without a rate mismatch the class is the block's and its group's. -/
theorem Assembler.classify_complete {rate : Option Nat} (hr : ∀ r, rate = some r → r = t.slots[k].rate) :
    t.classify rate (some f) n c =
      if t.slots[k].isGood (blockOf n c) then .direct k (blockOf n c) (posOf n)
      else if t.slots[k].corrOf (blockOf n c) = .correctable then .rebuilt k (blockOf n c) (posOf n)
      else .lost := by
  have hrate : (rate.any fun r => r != t.slots[k].rate) = false := by
    cases rate with
    | none => rfl
    | some r => exact bne_eq_false_iff_eq.mpr (hr r rfl)
  simp only [Assembler.classify, Option.bind_some, hk, hrate, Bool.false_eq_true, if_false]

theorem Assembler.classify_good (h : t.slots[k].isGood (blockOf n c) = true) :
    t.classify none (some f) n c = .direct k (blockOf n c) (posOf n) := by
  rw [Assembler.classify_complete hk n c (by simp), if_pos h]

theorem Assembler.classify_correctable (h : t.slots[k].isGood (blockOf n c) = false)
    (hc : t.slots[k].corrOf (blockOf n c) = .correctable) :
    t.classify none (some f) n c = .rebuilt k (blockOf n c) (posOf n) := by
  rw [Assembler.classify_complete hk n c (by simp), if_neg (Bool.not_eq_true _ ▸ h), if_pos hc]

theorem Assembler.classify_lost (h : t.slots[k].isGood (blockOf n c) = false)
    (hc : t.slots[k].corrOf (blockOf n c) ≠ .correctable) : t.classify none (some f) n c = .lost := by
  rw [Assembler.classify_complete hk n c (by simp), if_neg (Bool.not_eq_true _ ▸ h), if_neg hc]

theorem Assembler.rateClash_complete {r : Nat} (h : r ≠ t.slots[k].rate) : t.rateClash (some r) (some f) = true := by
  simp only [Assembler.rateClash, Option.bind_some, hk, Option.any_some, bne_iff_ne]
  exact h

end

end Sys2Proof.Machine
end

section
/-! PROOFS. A playback-window read in the half last read, answered at once (R60, R65, R71, R75, R80, R90 to R92). -/

namespace Sys2Proof.Machine

/-! ### What a MONITOR request reads and delivers (R60 to R71) -/

section
variable (s : State) (f : Option Nat) (n : Nat) (c : Fin 2)

/-- The class of the word a MONITOR request names (R61). -/
def State.monitorOwn : WordClass := s.tape.classify none f n c

/-- The class of the next word, where the service looks at it (R68). -/
def State.monitorNext : WordClass := s.tape.classifyNext s.dec.mon[c] (s.monitorOwn f n c) none f n c

/-- The delivery that a MONITOR request makes (R67 to R70). -/
def State.monitorDelivery : Delivery :=
  s.dec.mon[c].deliver s.settings.hold (s.classValue (s.monitorOwn f n c)) (s.classValue (s.monitorNext f n c))

/-- What a decode request leaves (R60, R65, R71, R75). -/
structure State.Decoded (s t : State) (f : Option Nat) (n : Nat) (c : Fin 2) : Prop where
  data : t.bus.data = (s.monitorDelivery f n c).ctx.last
  treatment : t.bus.treatment = .answered
  accesses : t.bus.accesses = readsOf (s.monitorOwn f n c) + readsOf (s.monitorNext f n c)
  dec : t.dec = { s.dec with mon := vset s.dec.mon c (s.monitorDelivery f n c).ctx }
  counters : ∀ k, countOf t.counters k =
    if deliveryCounter (s.monitorDelivery f n c).kind (s.monitorOwn f n c) = some k
    then min 65535 (countOf s.counters k + 1) else countOf s.counters k
  raised : t.rep.raised = s.rep.raised
  uncounted : deliveryCounter (s.monitorDelivery f n c).kind (s.monitorOwn f n c) = none → s.sameBut [.port, .dec] t
  frame : s.sameBut [.port, .dec, .counters, .rep] t

/-- A delivery with no counter counts nothing (R75). -/
theorem State.countDelivery_none {kind : DeliveryKind} {own : WordClass} (h : deliveryCounter kind own = none) :
    s.countDelivery kind own = s := by
  rw [State.countDelivery, h]

theorem State.monitorRequest_eq : s.monitorRequest f n c =
    ((s.modDec fun v => { v with mon := vset v.mon c (s.monitorDelivery f n c).ctx }).addAccesses
      ((s.monitorOwn f n c).cost + (s.monitorNext f n c).cost)).countDelivery
        (s.monitorDelivery f n c).kind (s.monitorOwn f n c) := rfl

theorem State.decodeAnswer_decoded (h : s.bus.accesses = 0) : s.Decoded (s.decodeAnswer f n c) f n c := by
  have hdec : (s.monitorRequest f n c).dec = { s.dec with mon := vset s.dec.mon c (s.monitorDelivery f n c).ctx } := by
    simp [State.monitorRequest_eq]
  refine ⟨?_, rfl, ?_, hdec, fun k => ?_, ?_, fun hnone => ?_, ?_⟩
  · simp only [State.decodeAnswer, State.answer_port, hdec]
    exact congrArg Ctx.last (vset_same _ _ _)
  · simp [State.decodeAnswer, State.monitorRequest_eq, readsOf_eq, h]
  · exact State.countDelivery_counters ..
  · obtain hrep | hrep := s.decodeAnswer_rep f n c
    · rw [hrep]
    · rw [hrep]
      rfl
  · simp [State.decodeAnswer, State.monitorRequest_eq, State.countDelivery_none _ hnone, State.sameBut_iff, State.agree]
  · simp [State.sameBut_iff, State.agree]

end

/-- A word that can be read is not looked past (R68). -/
theorem Assembler.classifyNext_direct (t : Assembler) (x : Ctx) (k : Fin 4) (b p : Nat) (rate f : Option Nat) (n c : Nat) :
    t.classifyNext x (.direct k b p) rate f n c = .lost := rfl

/-- A word of a GOOD block, by a NORMAL context: as stored, whole, with no look at the next word (R61, R63, R67, R68). -/
theorem State.monitorDelivery_good {s : State} {k : Fin 4} {f n : Nat} {c : Fin 2} (hk : s.tape.completeAt f = some k)
    (hgood : s.tape.slots[k].isGood (blockOf n c.val) = true) (hmode : s.dec.mon[c].mode = .normal) :
    s.monitorOwn (some f) n c = .direct k (blockOf n c.val) (posOf n) ∧ s.monitorNext (some f) n c = .lost ∧
      s.monitorDelivery (some f) n c = { kind := .recovered, ctx :=
        { last := s.tapeWord k (blockOf n c.val) (posOf n), mode := .normal, hold := 0, step := 0 } } := by
  have hown : s.monitorOwn (some f) n c = .direct k (blockOf n c.val) (posOf n) := Assembler.classify_good hk n c.val hgood
  refine ⟨hown, ?_, ?_⟩
  · rw [State.monitorNext, hown, Assembler.classifyNext_direct]
  · rw [State.monitorDelivery, hown]
    exact congrArg (Delivery.mk .recovered) (Ctx.recover_whole (.inl hmode) _)

/-! ### The reads that make no decode request (R80, R90 to R92) -/

section
variable {s : State} (x : Txn) (h : Fin 2) (n : Nat) (c : Fin 2)

theorem State.deliver_input (he : s.mon.effective = .input) : s.deliver x h n c = s.answer .answered s.mon.echo[c] := by
  rw [State.deliver, he]

theorem State.deliver_mute (he : s.mon.effective = .mute) : s.deliver x h n c = s.answer .answered 0 := by
  rw [State.deliver, he]

theorem State.deliver_pattern (he : s.mon.effective = .pattern) : s.deliver x h n c =
    (s.answer .answered (patternWord s.mon.pattern s.settings.atten)).modMon fun m =>
      { m with pattern := patternNext m.pattern } := by
  rw [State.deliver, he]

end

/-! ### The service at the port (R146) -/

/-- A frame of the service is one of the transaction, whose end moves only the wait counts (R154). -/
theorem State.sameBut_of_service {s u : State} {ps : List Part} (hport : .port ∈ ps) (h : s.freshAccesses.sameBut ps u)
    (w : WaitCounts) : s.sameBut ps (u.withCounts w) := by
  intro p hp
  cases p with
  | port => exact absurd hport hp
  | _ => exact h _ hp

section
variable {s : State} {a : BusAddr} (hport : s.portFree) (hreg : s.bus.regionOf a.toNat = .playbackWindow)
  (hlast : s.mon.lastHalf = some (halfOf (s.bus.offset 1 a.toNat)))
include hport hreg hlast

/-- A read that is no turnover is delivered (R80). -/
theorem State.exec_read_delivers : ∃ w, exec (.playbackWindowRead a) s =
    .next ((s.freshAccesses.deliver { write := false, addr := a, data := 0 } (halfOf (s.bus.offset 1 a.toNat))
      (pairIn (s.bus.offset 1 a.toNat)) (chanIn (s.bus.offset 1 a.toNat))).withCounts w) := by
  obtain ⟨w, hw⟩ := State.exec_playbackRead hport hreg
  refine ⟨w, hw.trans ?_⟩
  rw [State.playbackRead, if_pos (show s.freshAccesses.mon.lastHalf = _ from hlast)]

/-- A decode request that finds no evaluation running (R48, R80). -/
theorem State.exec_read_decoded (he : s.mon.effective = .decoded) (hv : s.tape.evaluating = false) :
    ∃ t, exec (.playbackWindowRead a) s = .next t ∧
      s.Decoded t (s.mon.halves[halfOf (s.bus.offset 1 a.toNat)].map fun k => s.tape.slots[k].frame)
        (pairIn (s.bus.offset 1 a.toNat)) (chanIn (s.bus.offset 1 a.toNat)) := by
  obtain ⟨w, hw⟩ := State.exec_read_delivers hport hreg hlast
  rw [State.deliver_decoded (y := s.freshAccesses) _ _ _ _ he hv] at hw
  refine ⟨_, hw, ?_⟩
  obtain ⟨hdata, htreat, hreads, hdec, hcount, hraised, hnone, hframe⟩ :=
    s.freshAccesses.decodeAnswer_decoded (s.mon.halves[halfOf (s.bus.offset 1 a.toNat)].map fun k => s.tape.slots[k].frame)
      (pairIn (s.bus.offset 1 a.toNat)) (chanIn (s.bus.offset 1 a.toNat)) rfl
  exact ⟨hdata, htreat, hreads, hdec, hcount, hraised, fun h => State.sameBut_of_service (by decide) (hnone h) w,
    State.sameBut_of_service (by decide) hframe w⟩

end

end Sys2Proof.Machine
end

section
/-! PROOFS. The obligations on decoding and concealment, settled. -/

open Sys2Proof Sys2Proof.Machine

/-- Settles O36: the delivery made in each mode, and the ramp as an iterated recovery. -/
theorem concealmentDecaysAndRamps : Obligations.ConcealmentDecaysAndRamps := by
  refine ⟨fun x limit next => ⟨Ctx.natAbs_last_le, fun h => ?_⟩, fun x limit v hm => ?_,
    fun x limit next => ⟨fun v => ⟨rfl, fun h => Ctx.recover_whole h v⟩, fun h => ?_, fun h => ?_, fun h => ?_, fun h => ?_⟩,
    fun f n => ⟨nextWord_inside (some f), nextWord_frameEdge, rfl⟩⟩
  · rw [Ctx.ctx_of_decayed h]
    exact ⟨decayWord_toInt x.last, rfl⟩
  · intro f
    have hstep : ∀ n, 1 ≤ n → n ≤ 31 → f^[n] x = _ := fun n h1 h2 => Ctx.recover_iterate hm v h1 h2
    have hwhole : f^[32] x = _ := Ctx.recover_iterate_whole hm v
    rw [hwhole]
    refine ⟨fun n h1 h2 => ?_, rfl, rfl⟩
    rw [hstep n h1 h2]
    exact ⟨rfl, rfl, rampWord_toInt v h2⟩
  · rw [Ctx.deliver_muting h]
  · rw [Ctx.deliver_recovering h]
    exact ⟨rfl, rfl⟩
  · refine ⟨?_, ?_, ?_⟩
    · rintro w rfl
      rw [Ctx.deliver_bridged h]
      exact ⟨rfl, meanWord_toInt _ _, rfl, rfl⟩
    · rintro rfl hlimit
      rw [Ctx.deliver_unbridged h, if_pos hlimit]
      exact ⟨rfl, rfl⟩
    · rintro rfl hlimit
      rw [Ctx.deliver_unbridged h, if_neg (Nat.not_lt.mpr hlimit)]
  · rw [Ctx.ctx_of_decayed h]
    exact ⟨rfl, rfl⟩

/-- Settles O37: the class of the word in its slot, and the XOR of its group made twice. -/
theorem classesReadAndRebuild : Obligations.ClassesReadAndRebuild := by
  intro s k f n c _ _ hk b p w
  have hw : ∀ i, s.tapeWord k i p = w i := fun i => s.tapeWord_eq k i p
  refine ⟨fun h => ?_, fun h hc x hx => ?_, fun h hc => ?_, fun r hr => ?_, ?_⟩
  · rw [Assembler.classify_good hk n c h, ← hw]
    rfl
  · rw [Assembler.classify_correctable hk n c h hc]
    refine State.classValue_rebuilt ((hw _).trans (hx.trans ?_))
    exact List.foldl_ext _ _ _ fun y i _ => congrArg (y ^^^ ·) (hw i).symm
  · rw [Assembler.classify_lost hk n c h hc]
    rfl
  · rw [Assembler.classify_rateClash (Assembler.rateClash_complete hk hr)]
    rfl
  · rw [Assembler.classify_complete hk n c (by simp), Assembler.classify_complete hk n c (by simp)]

/-- Settles O38: the read is delivered by the effective source as it stands, and a decode request by what it leaves. -/
theorem playbackReadAnswers : Obligations.PlaybackReadAnswers := by
  refine ⟨fun s a hport hreg hlast => ?_, fun s a k hport hreg hlast he hv hhalf hk => ?_,
    fun s a hport hreg hlast he hv => ?_⟩
  · obtain ⟨w, hw⟩ := State.exec_read_delivers hport hreg hlast
    refine ⟨fun he => ?_, fun he => ?_, fun he => ?_⟩
    · rw [State.deliver_input (s := s.freshAccesses) _ _ _ _ he] at hw
      exact ⟨_, hw, rfl, rfl, State.sameBut_of_service (by decide) (by simp [State.sameBut_iff, State.agree]) w⟩
    · rw [State.deliver_mute (s := s.freshAccesses) _ _ _ _ he] at hw
      exact ⟨_, hw, rfl, rfl, State.sameBut_of_service (by decide) (by simp [State.sameBut_iff, State.agree]) w⟩
    · rw [State.deliver_pattern (s := s.freshAccesses) _ _ _ _ he] at hw
      exact ⟨_, hw, patternWord_toInt _ _, rfl, patternNext_toNat _, rfl,
        State.sameBut_of_service (by decide) (by simp [State.sameBut_iff, State.agree]) w⟩
  · intro n c hgood hmode
    obtain ⟨t, hexec, ht⟩ := State.exec_read_decoded hport hreg hlast he hv
    rw [hhalf, Option.map_some] at ht
    obtain ⟨hown, hnext, hdelivery⟩ := State.monitorDelivery_good hk hgood hmode
    obtain ⟨hdata, htreat, hreads, hdec, -, -, hnone, -⟩ := ht
    rw [hdelivery] at hdata hdec hnone
    rw [hown] at hreads hnone
    rw [hnext] at hreads
    refine ⟨t, hexec, hdata.trans (s.tapeWord_eq _ _ _), htreat, hreads, ?_, hnone rfl⟩
    rw [hdata]
    exact hdec
  · intro n c f own next d reads counted
    obtain ⟨t, hexec, hdata, htreat, hreads, hdec, hcount, hraised, hnone, hframe⟩ :=
      State.exec_read_decoded hport hreg hlast he hv
    have hreadsOf : reads = readsOf := funext fun x => by cases x <;> rfl
    have hcounted : ∀ k, deliveryCounter d.kind own = some k ↔ counted k := fun k => by
      simp only [counted, hreadsOf, readsOf_rebuilt]
      exact deliveryCounter_iff s s.dec.mon[c] s.settings.hold own (s.classValue next) k
    refine ⟨t, hexec, hdata, htreat, hreadsOf ▸ hreads, hdec, fun k => ⟨fun hk => ?_, fun hk => ?_⟩, fun hno => ?_, hraised,
      hframe⟩
    · exact (hcount k).trans (if_pos ((hcounted k).mpr hk))
    · exact (hcount k).trans (if_neg (mt (hcounted k).mp hk))
    · have hquiet : deliveryCounter d.kind own = none :=
        Option.eq_none_iff_forall_ne_some.mpr fun k hk => hno k ((hcounted k).mp hk)
      exact hnone hquiet .rep (by decide)

end

section
/-! PROOFS. Every command keeps the laws of every state (R92, R154, R157, R158, R164, R172): canonical memory, the ring, the
ranges of counters, settings and wait counts, and the pattern register. -/

namespace Sys2Proof.Machine

/-- A phase that is IDLE wherever the one before it was keeps the ring's law (R158). -/
theorem CommandUnit.sound_setPhase {c : CommandUnit} {p : CmdPhase} (h : c.sound) (hp : c.phase = .idle → p = .idle) :
    CommandUnit.sound { c with phase := p } := by
  obtain ⟨hout, hbusy⟩ := h
  refine ⟨hout, fun hb => hbusy ?_⟩
  simp only [CommandUnit.busy, bne_iff_ne] at hb ⊢
  exact mt hp hb

theorem CommandUnit.sound_passBegun {c : CommandUnit} (h : c.sound) :
    CommandUnit.sound { c with phase := c.phase.passBegun } :=
  CommandUnit.sound_setPhase h fun e => congrArg CmdPhase.passBegun e

theorem CommandUnit.sound_passEnded {c : CommandUnit} (h : c.sound) :
    CommandUnit.sound { c with phase := c.phase.passEnded } :=
  CommandUnit.sound_setPhase h fun e => congrArg CmdPhase.passEnded e

/-- A command unit whose completion is due, or half written, is busy (R157, R160). -/
theorem CommandUnit.busy_of_completing {c : CommandUnit} {k : CmdKind} {r : Result}
    (h : c.phase = .due k r ∨ c.phase = .written k r) : c.busy = true := by
  rcases h with h | h <;> simp [CommandUnit.busy, h]

section
variable {s : State} (hs : s.Sound)
include hs

/-- The RESET input puts every block at its reset value and leaves memory as it stands (R156). -/
theorem State.sound_assertReset : s.assertReset.Sound :=
  have hreset : State.reset.Sound := resetKeepsTheLaws.1
  ⟨hs.mem, hreset.ring, hreset.counters, hreset.settings, hreset.waits, hreset.pattern⟩

theorem State.sound_upWrite {a : BusAddr} {v : Word} : (s.upWrite a v).Sound :=
  State.sound_settle (State.sound_arrive hs)

theorem State.sound_upRead {a : BusAddr} : (s.upRead a).Sound :=
  State.sound_settle (State.sound_arrive hs)

/-- A completion that is due, or half written, made in one step (R160). -/
theorem State.sound_completion {k : CmdKind} {r : Result} {w : Bool}
    (h : s.cmd.phase = .due k r ∨ s.cmd.phase = .written k r) : (s.complete k r w).settle.Sound :=
  State.sound_settle (State.sound_complete hs (CommandUnit.busy_of_completing h))

/-- The rows of the RESET input (R156, R173). -/
theorem State.sound_resetRows {i : Instr} {t : State} (hi : i = .resetAsserted ∨ i = .resetReleased ∨ i = .initEnd)
    (ht : exec i s = .next t) : t.Sound := by
  rcases hi with rfl | rfl | rfl <;> obtain rfl := Host.Outcome.next.inj ht
  · exact State.sound_assertReset hs
  · split
    · exact State.sound_modBus hs fun _ => rfl
    · exact hs
  · split
    · exact State.sound_settle (State.sound_endInit hs)
    · exact hs

/-- The rows of the part's own engines (R33, R48, R51, R153, R160, R168). -/
theorem State.sound_engineRows {i : Instr} {t : State} (hi : i = .commandCompletion ∨ i = .enginePortGrant ∨
    i = .closeEnd ∨ i = .evaluationTake ∨ i = .evaluationEnd ∨ i = .reportPassBegin ∨ i = .reportPassEnd)
    (ht : exec i s = .next t) : t.Sound := by
  rcases hi with rfl | rfl | rfl | rfl | rfl | rfl | rfl <;> obtain rfl := Host.Outcome.next.inj ht
  · split
    · split
      · next h => exact State.sound_completion hs (.inl h)
      · next h => exact State.sound_completion hs (.inr h)
      · exact hs
    · exact hs
  · split
    · split
      · exact State.sound_settle (State.sound_grant hs)
      · exact hs
    · exact hs
  · split
    · exact State.sound_settle (State.sound_finishClose hs)
    · exact hs
  · split
    · split
      · exact State.sound_settle (State.sound_takeEvaluation _ _ hs)
      · exact hs
    · exact hs
  · split
    · exact State.sound_settle (State.sound_finishEvaluation hs)
    · exact hs
  · have h := State.sound_beginPass hs
    split
    · exact State.sound_settle (State.sound_modCmd h (CommandUnit.sound_passBegun h.ring))
    · exact hs
  · have h := State.sound_endPass hs
    split
    · exact State.sound_settle (State.sound_modCmd h (CommandUnit.sound_passEnded h.ring))
    · exact hs

end

/-- Every command keeps the laws. -/
theorem State.sound_exec {s t : State} (hs : s.Sound) (i : Instr) (ht : exec i s = .next t) : t.Sound := by
  cases i
  case resetAsserted | resetReleased | initEnd => exact State.sound_resetRows hs (by simp) ht
  case commandCompletion | enginePortGrant | closeEnd | evaluationTake | evaluationEnd | reportPassBegin | reportPassEnd =>
    exact State.sound_engineRows hs (by simp) ht
  case nop | recordStart | recordStop | playStart | playStop | monitorSelect | editLoad | editParam | editCancel | editArm |
      editDisarm | locate | locateCancel | policySeal | clearCounters | clearSticky | softResetRecord | softResetPlayback |
      softResetEdit | softResetCounters | unknownCommand =>
    obtain rfl := Host.Outcome.next.inj ht
    exact State.sound_command hs (fun x hx => by simp [hx]) fun x => by simp
  case recordWindowRead | playbackWindowRead | recordImageRead | causeWordRead =>
    obtain rfl := Host.Outcome.next.inj ht
    exact State.sound_upRead hs
  all_goals
    obtain rfl := Host.Outcome.next.inj ht
    exact State.sound_upWrite hs

end Sys2Proof.Machine
end

section
/-! PROOFS. MONITOR_SELECT judged by its owner (R86), and what is left once the effective source is re-judged (R87, R89,
R137, R138). -/

namespace Sys2Proof.Machine

theorem sourceOf_code (x : Source) : sourceOf x.code = some x := by cases x <;> rfl

/-- No source has a code past MUTE's (R86, R175). -/
theorem sourceOf_eq_none {n : Nat} (h : 4 < n) : sourceOf n = none := by
  rw [sourceOf, if_neg (by omega), if_neg (by omega), if_neg (by omega), if_neg (by omega), if_neg (by omega)]

/-- The selection set, before the effective source is judged by it (R86). -/
def State.selecting (s : State) (x : Source) (o : Bool) : State :=
  s.modMon fun m => { m with selected := x, override := o }

theorem State.selecting_unmarked_keeps (s : State) (x : Source) (o : Bool) :
    s.sameBut [.mon, .rep] (s.unmarked.selecting x o) := by
  simp [State.selecting, State.sameBut_iff, State.agree]

section
variable {source override : Word}

/-- The tests of MONITOR_SELECT (R86). -/
theorem State.monitorSelect_refused (s : State)
    (h : 4 < source.toNat ∨ 1 < override.toNat ∨ (source = 0 ∧ override = 1)) :
    s.monitorSelect source override = (s, .range) := by
  unfold State.monitorSelect
  split
  · rfl
  · next x hx =>
    refine if_pos ?_
    obtain h | h | ⟨h0, h1⟩ := h
    · simp [sourceOf_eq_none h] at hx
    · exact .inl h
    · subst h0
      exact .inr ⟨(Option.some.inj hx).symm, h1⟩

/-- A selection that passes the tests: nothing at a repeat, else it is set and the effective source re-judged (R86). -/
theorem State.monitorSelect_taken (s : State) {x : Source} (hx : source.toNat = x.code) (ho : override.toNat ≤ 1)
    (h : ¬(source = 0 ∧ override = 1)) :
    s.monitorSelect source override =
      if s.mon.selected = x ∧ s.mon.override = decide (override = 1) then (s, .done)
      else ((s.selecting x (decide (override = 1))).markPlayback.rejudge, .done) := by
  have hpass : ¬(1 < override.toNat ∨ (x = .auto ∧ override = 1)) := by
    rintro (h1 | ⟨rfl, h1⟩)
    · omega
    · exact h ⟨BitVec.eq_of_toNat_eq hx, h1⟩
  unfold State.monitorSelect
  rw [hx, sourceOf_code]
  exact if_neg hpass

end

section
variable {s u : State} {i : Instr} {k : CmdKind} {owner : State → State × Result} {r : Result}

/-- A command whose owner makes `u` of the state, marks the playback status record and re-judges the effective source: what
`sourceJudged` says from `u` to the state that the command leaves (R89, R168). -/
theorem State.command_sourceJudged (h : s.aboutToTake i) (ho : owner s.unmarked = (u.unmarked.markPlayback.rejudge, r))
    (hb : u.bus = s.bus) (hm : u.rep.marks = s.rep.marks) :
    u.sourceJudged (s.command i k owner) ∧ (s.command i k owner).rep.marks.playback = true := by
  have hplay := (u.unmarked.markPlayback.onlyMarks_rejudge).playback rfl
  obtain ⟨w, hw⟩ := State.command_marked (k := k) h ho (by simpa using hb) (ReportUnit.touched_of_playback hplay)
  rw [hw]
  refine ⟨?_, by simp [Marks.union, hplay]⟩
  refine State.sourceJudged_congr u.unmarked.markPlayback.sourceJudged_rejudge rfl rfl rfl
    (State.effectiveOf_congr rfl rfl rfl rfl rfl) rfl rfl rfl rfl (fun hp => by simp [Marks.union, hp]) fun b hk => ?_
  have hk' : u.unmarked.markPlayback.rejudge.rep.marks.copy = b := hk.trans (Bool.false_or b)
  simp [Marks.union, hk', hm, Bool.or_comm]

end

end Sys2Proof.Machine
end

section
/-! PROOFS. The obligations on the monitor output, settled. -/

open Sys2Proof Sys2Proof.Machine

/-- Settles O3: a step runs a command on the rest of the queue, and every command keeps the laws. -/
theorem stepKeepsSound : Obligations.StepKeepsSound := by
  intro s t hs hstep
  unfold step at hstep
  split at hstep
  · obtain rfl := Host.Outcome.next.inj hstep
    exact hs
  · next c rest _ => exact State.sound_exec (s := { s with pending := rest }) (hs.of_agree rfl rfl rfl rfl rfl rfl) c hstep

/-- Settles O40: a refusal and a repeat leave the owner's state; a change leaves the selection set and the effective source
re-judged by it, which is what `sourceJudged` says of the state that the command leaves. -/
theorem monitorSelectSelects : Obligations.MonitorSelectSelects := by
  intro s source override h
  refine ⟨fun hrange => ?_, fun x hx hle hauto => ⟨fun hrepeat => ?_, fun hchange => ?_⟩⟩
  · obtain ⟨t, ht, hrest⟩ := State.command_refused (k := .monitorSelect) (owner := (·.monitorSelect source override)) h
      (s.unmarked.monitorSelect_refused hrange)
    exact ⟨t, congrArg Host.Outcome.next ht, hrest⟩
  · obtain ⟨t, ht, hrest⟩ := State.command_refused (k := .monitorSelect) (owner := (·.monitorSelect source override)) h
      ((s.unmarked.monitorSelect_taken hx hle hauto).trans (if_pos hrepeat))
    exact ⟨t, congrArg Host.Outcome.next ht, hrest⟩
  · have ho := (s.unmarked.monitorSelect_taken hx hle hauto).trans (if_neg hchange)
    obtain ⟨t, ht, hcmd, hj⟩ := State.command_judged (k := .monitorSelect) (owner := (·.monitorSelect source override)) h
      ho rfl rfl
    have hsource := State.command_sourceJudged (k := .monitorSelect) (u := s.selecting x (decide (override = 1)))
      (owner := (·.monitorSelect source override)) h ho rfl rfl
    rw [ht] at hsource
    obtain ⟨⟨hmon, hcopy, hset, hreentry, hstay⟩, hmark⟩ := hsource
    have hdec : t.effectiveOf ≠ .decoded ∨ s.mon.effective = .decoded → t.dec = s.dec := fun he => by
      rw [hj.mix, hstay he]
      rfl
    refine ⟨t, congrArg Host.Outcome.next ht, hcmd, hmon, hreentry, fun he => ⟨hdec ?_, hcopy he⟩, ?_, fun hne => ?_,
      fun hne => hdec (.inl hne), hmark, hj.raised, ?_⟩
    · by_cases hd : t.effectiveOf = .decoded
      · exact .inr (he.symm.trans hd)
      · exact .inl hd
    · rw [hj.mix]
      rfl
    · exact State.outputSet_congr (hset hne).1 rfl rfl rfl rfl rfl rfl
    · exact ((s.selecting_unmarked_keeps x _).trans hj.frame).narrow (by simp)

end

section
/-! PROOFS. What a step can do to the edit list and the punch state, as moves of a plan of them (R96, R110): the laws of the list
are kept by every move. -/

namespace Sys2Proof.Machine

/-- What the laws of the edit list speak of: each entry's location and kind, the punch state, and whether the record job is
RECORDING. -/
structure EditPlan where
  list : List (Nat × PunchKind)
  punch : Punch
  recording : Bool

def State.editPlan (s : State) : EditPlan :=
  { list := s.edit.list.map fun x => (x.loc, x.kind), punch := s.edit.punch, recording := s.coder.job == .recording }

/-- The kinds alternate, the first opposite to the punch state (R96). -/
def kindsLawful (p : Punch) (l : List (Nat × PunchKind)) : Prop :=
  (∀ a, l.head? = some a → (a.2 = .punchOut ↔ p = .inside)) ∧ (l.map Prod.snd).IsChain (· ≠ ·)

/-- The changes of the edit list and the punch state that the rules make. -/
inductive EditPlan.Move : EditPlan → EditPlan → Prop where
  /-- Entries leave at the tail (R101, R113, R116). -/
  | cut (l r : List (Nat × PunchKind)) (p : Punch) (b : Bool) : Move ⟨l ++ r, p, b⟩ ⟨l, p, b⟩
  /-- The return test misses the head with the entry after it (R113). -/
  | missed (x y : Nat × PunchKind) (l : List (Nat × PunchKind)) (p : Punch) (b : Bool) : Move ⟨x :: y :: l, p, b⟩ ⟨l, p, b⟩
  /-- The head fires while the job records (R108). -/
  | fired (x : Nat × PunchKind) (l : List (Nat × PunchKind)) (p : Punch) : Move ⟨x :: l, p, true⟩ ⟨l, x.2.after, true⟩
  /-- The job stops with the punch IN: a PUNCH_OUT at the head is cancelled (R110). -/
  | stoppedInside (n : Nat) (l : List (Nat × PunchKind)) (b : Bool) :
      Move ⟨(n, .punchOut) :: l, .inside, b⟩ ⟨l, .outside, false⟩
  /-- The job stops with the punch OUT, or with no PUNCH_OUT at the head (R110). -/
  | stopped (l : List (Nat × PunchKind)) (p : Punch) (b : Bool) (h : p = .inside → ∀ x, l.head? = some x → x.2 ≠ .punchOut) :
      Move ⟨l, p, b⟩ ⟨l, .outside, false⟩
  /-- The job starts (R110). -/
  | started (l : List (Nat × PunchKind)) (p : Punch) : Move ⟨l, p, false⟩ ⟨l, .outside, true⟩
  /-- An entry is placed by its location, and keeps the kinds alternating (R96, R97). -/
  | loaded (l r : List (Nat × PunchKind)) (x : Nat × PunchKind) (p : Punch) (b : Bool) (hlen : (l ++ r).length < 8)
      (hl : ∀ y ∈ l, y.1 < x.1) (hr : ∀ y, r.head? = some y → x.1 < y.1) (hk : kindsLawful p (l ++ x :: r)) :
      Move ⟨l ++ r, p, b⟩ ⟨l ++ x :: r, p, b⟩

/-- Location order, and at most eight entries (R96). -/
def EditPlan.ordered (e : EditPlan) : Prop := e.list.length ≤ 8 ∧ (e.list.map Prod.fst).Pairwise (· < ·)

/-- The law of kinds, and of the punch state outside a recording (R96, R110). -/
def EditPlan.punchLaw (e : EditPlan) : Prop := kindsLawful e.punch e.list ∧ (e.recording = false → e.punch = .outside)

theorem State.editPlan_ordered (s : State) : s.editPlan.ordered ↔ s.edit.ordered := by
  simp [EditPlan.ordered, EditEngine.ordered, State.editPlan, Function.comp_def]

theorem State.editPlan_punchLaw (s : State) : s.editPlan.punchLaw ↔ s.punchLaw := by
  simp only [EditPlan.punchLaw, kindsLawful, State.punchLaw, State.editPlan, List.map_map, Function.comp_def, and_assoc]
  refine and_congr ?_ (and_congr .rfl (by simp))
  cases s.edit.list <;> simp

/-- Every move keeps the list in order and of at most eight entries. -/
theorem EditPlan.Move.ordered {e f : EditPlan} (h : e.Move f) (he : e.ordered) : f.ordered := by
  obtain ⟨hlen, hsort⟩ := he
  cases h with
  | cut l r =>
    simp only [List.length_append, List.map_append, List.pairwise_append] at hlen hsort
    exact ⟨by dsimp only; omega, hsort.1⟩
  | missed x y l =>
    simp only [List.length_cons, List.map_cons, List.pairwise_cons] at hlen hsort
    exact ⟨by dsimp only; omega, hsort.2.2⟩
  | fired x l | stoppedInside n l =>
    simp only [List.length_cons, List.map_cons, List.pairwise_cons] at hlen hsort
    exact ⟨by dsimp only; omega, hsort.2⟩
  | stopped | started => exact ⟨hlen, hsort⟩
  | loaded l r x _ _ hroom hl hr =>
    refine ⟨by simp only [List.length_append, List.length_cons] at *; omega, ?_⟩
    simp only [List.map_append, List.map_cons, List.pairwise_append, List.pairwise_cons] at hsort ⊢
    obtain ⟨hsl, hsr, hlr⟩ := hsort
    have hall : ∀ n ∈ r.map Prod.fst, x.1 < n := by
      cases r with
      | nil => simp
      | cons y r =>
        have hy := hr y rfl
        simp only [List.map_cons, List.pairwise_cons, List.mem_cons, forall_eq_or_imp] at hsr ⊢
        exact ⟨hy, fun n hn => hy.trans (hsr.1 n hn)⟩
    refine ⟨hsl, ⟨hall, hsr⟩, fun m hm n hn => ?_⟩
    rcases List.mem_cons.mp hn with rfl | hn
    · obtain ⟨y, hy, rfl⟩ := List.mem_map.mp hm
      exact hl y hy
    · exact hlr m hm n hn

/-- Past a lawful head the kinds are lawful from the punch state that the head's punch leaves. -/
theorem kindsLawful_cons (p : Punch) (x : Nat × PunchKind) (l : List (Nat × PunchKind)) :
    kindsLawful p (x :: l) ↔ x.2.after ≠ p ∧ kindsLawful x.2.after l := by
  obtain ⟨n, k⟩ := x
  cases l with
  | nil => cases k <;> cases p <;> simp [kindsLawful, PunchKind.after]
  | cons y l =>
    obtain ⟨m, j⟩ := y
    cases k <;> cases p <;> cases j <;> simp [kindsLawful, PunchKind.after, List.isChain_cons_cons]

theorem kindsLawful_append {p : Punch} {l r : List (Nat × PunchKind)} (h : kindsLawful p (l ++ r)) : kindsLawful p l := by
  induction l generalizing p with
  | nil => simp [kindsLawful]
  | cons x l ih =>
    rw [List.cons_append, kindsLawful_cons] at h
    rw [kindsLawful_cons]
    exact ⟨h.1, ih h.2⟩

/-- Two punches of different kinds leave the punch state as they found it. -/
theorem PunchKind.after_of_ne {p q : Punch} {k : PunchKind} (h1 : k.after ≠ p) (h2 : q ≠ k.after) : q = p := by
  cases k <;> cases p <;> cases q <;> simp_all [PunchKind.after]

/-- Every move keeps the law of kinds. -/
theorem EditPlan.Move.punchLaw {e f : EditPlan} (h : e.Move f) (he : e.punchLaw) : f.punchLaw := by
  obtain ⟨hkinds, hrest⟩ := he
  cases h with
  | cut l r => exact ⟨kindsLawful_append hkinds, hrest⟩
  | missed x y l p =>
    simp only [kindsLawful_cons] at hkinds
    obtain ⟨hx, hy, hl⟩ := hkinds
    rw [PunchKind.after_of_ne hx hy] at hl
    exact ⟨hl, hrest⟩
  | fired x l => exact ⟨((kindsLawful_cons _ _ _).mp hkinds).2, fun h => by cases h⟩
  | stoppedInside n l => exact ⟨((kindsLawful_cons _ _ _).mp hkinds).2, fun _ => rfl⟩
  | stopped l p b hp =>
    refine ⟨?_, fun _ => rfl⟩
    cases p with
    | outside => exact hkinds
    | inside =>
      cases l with
      | nil => simp [kindsLawful]
      | cons x l => exact absurd ((hkinds.1 x rfl).mpr rfl) (hp rfl x rfl)
  | started l p =>
    obtain rfl : p = .outside := hrest rfl
    exact ⟨hkinds, fun h => by cases h⟩
  | loaded l r x p b _ _ _ hk => exact ⟨hk, hrest⟩

/-- The test of EDIT_LOAD is the law of kinds (R96, R97). -/
theorem alternates_iff (p : Punch) (l : List Entry) :
    alternates p l = true ↔ kindsLawful p (l.map fun x => (x.loc, x.kind)) := by
  induction l generalizing p with
  | nil => simp [alternates, kindsLawful]
  | cons x l ih => simp [alternates, kindsLawful_cons, ih]

end Sys2Proof.Machine
end

section
/-! PROOFS. What each operation of the edit engine and of the record path does to the edit list and the punch state (R96, R110): no
more than the moves of `EditPlan.Move`. -/

namespace Sys2Proof.Machine

/-- The edit list and the punch state of `t` are reached from those of `s` by moves. -/
structure State.EditsTo (s t : State) : Prop where
  moves : Relation.ReflTransGen EditPlan.Move s.editPlan t.editPlan

theorem State.EditsTo.of_plan {s t : State} (h : t.editPlan = s.editPlan) : s.EditsTo t := ⟨by rw [h]⟩

/-- Nothing moves where the edit engine and the job stand. -/
theorem State.EditsTo.of_frame {s t : State} (he : t.edit = s.edit) (hj : t.coder.job = s.coder.job) : s.EditsTo t :=
  .of_plan (by simp [State.editPlan, he, hj])

theorem State.EditsTo.refl (s : State) : s.EditsTo s := .of_frame rfl rfl

theorem State.EditsTo.trans {s t u : State} (h1 : s.EditsTo t) (h2 : t.EditsTo u) : s.EditsTo u :=
  ⟨h1.moves.trans h2.moves⟩

theorem State.EditsTo.of_move {s t : State} (h : s.editPlan.Move t.editPlan) : s.EditsTo t :=
  ⟨.single h⟩

/-- Moves may follow on a state of the same plan. -/
theorem State.EditsTo.of_same {s t u : State} (h : t.EditsTo u) (hp : t.editPlan = s.editPlan) : s.EditsTo u := ⟨hp ▸ h.moves⟩

/-- What leaves the edit engine and the job may follow on moves. -/
theorem State.EditsTo.then_frame {s t u : State} (h : s.EditsTo t) (he : u.edit = t.edit) (hj : u.coder.job = t.coder.job) :
    s.EditsTo u := h.trans (.of_frame he hj)

/-- What every move keeps, moves keep. -/
theorem State.EditsTo.keeps {P : EditPlan → Prop} (hP : ∀ e f : EditPlan, e.Move f → P e → P f) {s t : State}
    (h : s.EditsTo t) (hs : P s.editPlan) : P t.editPlan := by
  obtain ⟨hm⟩ := h
  generalize t.editPlan = f at hm
  induction hm with
  | refl => exact hs
  | tail _ hm ih => exact hP _ _ hm ih

theorem State.EditsTo.ordered {s t : State} (h : s.EditsTo t) (hs : s.edit.ordered) : t.edit.ordered :=
  t.editPlan_ordered.mp (h.keeps (fun _ _ hm => hm.ordered) (s.editPlan_ordered.mpr hs))

theorem State.EditsTo.punchLaw {s t : State} (h : s.EditsTo t) (hs : s.punchLaw) : t.punchLaw :=
  t.editPlan_punchLaw.mp (h.keeps (fun _ _ hm => hm.punchLaw) (s.editPlan_punchLaw.mpr hs))

/-! ### The edit engine -/

section
variable (e : EditEngine)

@[simp] theorem EditEngine.finish_rest (hs : List (Fin 8)) (st : OutcomeState) :
    (e.finish hs st).list = e.list ∧ (e.finish hs st).punch = e.punch := by
  rw [EditEngine.finish_eq]
  exact ⟨rfl, rfl⟩

/-- Putting the head in a state moves no location and no kind, and leaves the punch (R94). -/
@[simp] theorem EditEngine.setHead_plan (st : EntryState) :
    (e.setHead st).list.map (fun x => (x.loc, x.kind)) = e.list.map (fun x => (x.loc, x.kind)) ∧
      (e.setHead st).punch = e.punch := by
  unfold EditEngine.setHead
  split
  · exact ⟨rfl, rfl⟩
  · next h => simp [EditEngine.setOutcome, h]

@[simp] theorem EditEngine.returnEntry_plan :
    e.returnEntry.list.map (fun x => (x.loc, x.kind)) = e.list.map (fun x => (x.loc, x.kind)) ∧
      e.returnEntry.punch = e.punch := by
  unfold EditEngine.returnEntry
  split
  · exact e.setHead_plan .pending
  · exact ⟨rfl, rfl⟩

@[simp] theorem EditEngine.armTop_plan :
    e.armTop.list.map (fun x => (x.loc, x.kind)) = e.list.map (fun x => (x.loc, x.kind)) ∧ e.armTop.punch = e.punch := by
  unfold EditEngine.armTop
  split
  · exact ⟨rfl, rfl⟩
  · exact e.setHead_plan .armed

end

/-- The return test misses entries in pairs from the head, or the one entry that is left (R113). -/
theorem returnTest_moves (p : Option Nat) (k : Punch) (b : Bool) : ∀ l : List Entry,
    Relation.ReflTransGen EditPlan.Move ⟨l.map fun x => (x.loc, x.kind), k, b⟩
      ⟨(returnTest p l).1.map fun x => (x.loc, x.kind), k, b⟩
  | [] => .refl
  | [x] => by
    unfold returnTest
    split
    · exact .single (.cut [] _ k b)
    · exact .refl
  | x :: y :: l => by
    unfold returnTest
    split
    · exact .head (.missed _ _ _ k b) (returnTest_moves p k b l)
    · exact .refl

section
variable (s : State)

theorem State.applyReturnTest_edits : s.EditsTo s.applyReturnTest := by
  unfold State.applyReturnTest
  dsimp only
  split
  · refine .trans (t := s.modEdit fun e =>
      { e with list := (returnTest s.coder.position s.edit.list).1, returnTest := false }.finish
        (returnTest s.coder.position s.edit.list).2 .missed) ?_ ?_
    · refine ⟨?_⟩
      simp only [State.editPlan, State.modEdit_edit, State.modEdit_coder, EditEngine.finish_rest]
      exact returnTest_moves _ _ _ _
    · split
      · exact .refl _
      · exact .of_frame (by simp) (by simp)
  · exact .refl s

theorem State.armHead_edits : s.EditsTo s.armHead := by
  unfold State.armHead
  split
  · exact s.applyReturnTest_edits.trans (.of_plan (by simp [State.editPlan]))
  · exact .refl s

theorem State.endLocate_edits : s.EditsTo s.endLocate := by
  rw [State.endLocate_eq]
  exact (s.located.armHead_edits.then_frame (by simp) (by simp)).of_same rfl

theorem State.locateTest_edits (a : Nat) : s.EditsTo (s.locateTest a) := by
  unfold State.locateTest
  split
  · exact s.endLocate_edits.then_frame (by simp) (by simp)
  · exact .refl s

/-- The head fires while the job records (R108). -/
theorem State.firePunch_edits {x : Entry} {rest : List Entry} (hl : s.edit.list.map (fun x => (x.loc, x.kind)) =
      (x.loc, x.kind) :: rest.map fun x => (x.loc, x.kind)) (hj : s.coder.job = .recording) (q : Nat) (forced : Bool) :
    s.EditsTo (s.firePunch x q forced) := by
  refine .of_move ?_
  have e1 : s.editPlan = ⟨(x.loc, x.kind) :: rest.map fun x => (x.loc, x.kind), s.edit.punch, true⟩ := by
    simp [State.editPlan, hl, hj]
  have e2 : (s.firePunch x q forced).editPlan = ⟨rest.map fun x => (x.loc, x.kind), x.kind.after, true⟩ := by
    have := congrArg List.tail hl
    simp only [List.tail_cons, ← List.map_tail] at this
    simp [State.editPlan, State.firePunch, State.raiseIf_frame, EditEngine.fire, hj, this]
  rw [e1, e2]
  exact .fired _ _ _

theorem State.level2_edits {x : Entry} {rest : List Entry} (hl : s.edit.list.map (fun x => (x.loc, x.kind)) =
      (x.loc, x.kind) :: rest.map fun x => (x.loc, x.kind)) (hj : s.coder.job = .recording) (q : Nat) (old : Vector Word 2) :
    s.EditsTo (s.level2 x q old) := by
  unfold State.level2
  dsimp only
  split
  · exact s.firePunch_edits hl hj q false
  · split
    · exact s.firePunch_edits hl hj q true
    · exact .of_plan rfl

theorem State.level1_edits {x : Entry} {rest : List Entry} (hl : s.edit.list = x :: rest) (hj : s.coder.job = .recording)
    (q : Nat) (old : Vector Word 2) : s.EditsTo (s.level1 x q old) := by
  unfold State.level1
  split
  · exact .refl s
  · split
    · exact s.firePunch_edits (rest := rest) (by simp [hl]) hj q false
    · exact (State.level2_edits _ (rest := rest) (by simp [hl]) (by simp [hj]) q old).of_same (by simp [State.editPlan])

theorem State.comparator_edits (hj : s.coder.job = .recording) (q : Nat) (old : Option (Vector Word 2)) :
    s.EditsTo (s.comparator q old) := by
  unfold State.comparator
  split
  · next hl => exact s.level1_edits hl hj q _
  · next rest _ _ hl => exact s.level2_edits (rest := rest) (by simp [hl]) hj q _
  · exact .refl s

theorem State.fadeWait_edits (q : Nat) : s.EditsTo (s.fadeWait q) := by
  unfold State.fadeWait
  split
  · exact (State.armHead_edits _).of_same rfl
  · exact .refl s

theorem State.pairEvent_edits (hj : s.coder.job = .recording) (q : Nat) (old : Option (Vector Word 2)) :
    s.EditsTo (s.pairEvent q old) := by
  unfold State.pairEvent
  have hwait := State.fadeWait_edits (s.modCoder fun c => { c with recPos := some q }) q
  have hfire := State.comparator_edits ((s.modCoder fun c => { c with recPos := some q }).fadeWait q) (by simpa using hj) q old
  exact ((hwait.trans hfire).then_frame (by simp) (by simp)).of_same rfl

/-! ### The edit commands -/

/-- An entry is placed before the first one past its location (R97). -/
theorem insertEntry_split (x : Entry) (l : List Entry) : ∃ a b, l = a ++ b ∧ insertEntry x l = a ++ x :: b ∧
    (∀ y ∈ a, y.loc ≤ x.loc) ∧ ∀ y, b.head? = some y → x.loc < y.loc := by
  induction l with
  | nil => exact ⟨[], [], rfl, rfl, by simp, by simp⟩
  | cons y l ih =>
    unfold insertEntry
    split
    · next h => exact ⟨[], y :: l, rfl, rfl, by simp, by simpa using h⟩
    · next h =>
      obtain ⟨a, b, hl, hi, ha, hb⟩ := ih
      exact ⟨y :: a, b, by simp [hl], by simp [hi], by simpa using ⟨by omega, ha⟩, hb⟩

/-- A load that passes the tests finds room, its location free and the kinds alternating with it (R97). -/
theorem State.loadTest_passed {x : Entry} (h : s.loadTest x = none) : s.edit.list.length < 8 ∧
    (∀ y ∈ s.edit.list, y.loc ≠ x.loc) ∧ alternates s.edit.punch (insertEntry x s.edit.list) = true := by
  unfold State.loadTest at h
  dsimp only at h
  split at h; · cases h
  split at h; · cases h
  split at h; · cases h
  split at h; · cases h
  split at h; · cases h
  next hroom _ hfree _ hkinds => exact ⟨by omega, by simpa using hfree, by simpa using hkinds⟩

theorem State.takeLoad_edits {x : Entry} (h : s.loadTest x = none) : s.EditsTo (s.takeLoad x) := by
  obtain ⟨hroom, hfree, hkinds⟩ := s.loadTest_passed h
  obtain ⟨a, b, hl, hi, ha, hb⟩ := insertEntry_split x s.edit.list
  have hload : s.EditsTo (s.modEdit fun e => e.load x) := by
    refine .of_move ?_
    simp only [State.editPlan, State.modEdit_edit, State.modEdit_coder, EditEngine.load, hi]
    rw [alternates_iff, hi] at hkinds
    rw [hl] at hroom hfree ⊢
    simp only [List.map_append, List.map_cons] at hkinds ⊢
    refine .loaded _ _ _ _ _ (by simpa using hroom) ?_ ?_ hkinds
    · rintro z hz
      obtain ⟨y, hy, rfl⟩ := List.mem_map.mp hz
      exact lt_of_le_of_ne (ha y hy) (hfree y (List.mem_append_left _ hy))
    · rintro _ hy
      cases b with
      | nil => cases hy
      | cons y b => cases hy; exact hb y rfl
  unfold State.takeLoad
  dsimp only
  refine hload.trans ?_
  split
  · exact (State.armHead_edits _).then_frame (by simp) (by simp)
  · exact .of_frame (by simp) (by simp)

theorem State.editLoad_edits (handle : BitVec 4) (kind : BitVec 2) (hi : BitVec 5) (lo pair : Word) :
    s.EditsTo (s.editLoad handle kind hi lo pair).1 := by
  unfold State.editLoad
  dsimp only
  split
  · split
    · exact .of_plan rfl
    · split
      · exact .of_plan rfl
      · next h => exact s.takeLoad_edits h
  · exact .of_plan rfl

theorem State.editParam_edits (cond : BitVec 2) (chan : BitVec 1) (expo : BitVec 4) (shape : BitVec 2) (threshold span : Word) :
    s.EditsTo (s.editParam cond chan expo shape threshold span).1 := by
  unfold State.editParam
  generalize (if chan = 0 then (0 : Fin 2) else 1) = c
  have hset (h : Fin 8) (cond : Condition) (sh : Shape) : s.EditsTo (s.modEdit fun e =>
      { e with list := e.list.map fun x =>
          if x.handle = h then x.withParams cond c threshold.toNat span.toNat expo.toNat sh else x }).markEdit := by
    refine .of_plan ?_
    simp only [State.editPlan, State.markEdit_frame, State.modEdit_edit, State.modEdit_coder, List.map_map]
    congr 1
    refine List.map_congr_left fun x _ => ?_
    simp only [Function.comp_apply]
    split <;> rfl
  repeat' split
  case h_1.isFalse => exact hset _ _ _
  all_goals exact .refl s

theorem EditEngine.cancelFrom_rest (e : EditEngine) (h : Fin 8) :
    (e.cancelFrom h).list = entriesBefore h e.list ∧ (e.cancelFrom h).punch = e.punch := by
  unfold EditEngine.cancelFrom
  dsimp only
  split <;> simp [EditEngine.release]

theorem State.editCancel_edits (handle : BitVec 4) : s.EditsTo (s.editCancel handle).1 := by
  unfold State.editCancel
  split
  · next h =>
    split
    · have hsplit := List.takeWhile_append_dropWhile (p := fun x : Entry => x.handle != ⟨handle.toNat, h⟩) (l := s.edit.list)
      refine .of_move ?_
      simp only [State.editPlan, State.markEdit_frame, State.modEdit_edit, State.modEdit_coder, EditEngine.cancelFrom_rest]
      conv => lhs; rw [← hsplit]
      rw [List.map_append]
      exact .cut _ _ _ _
    · exact .refl s
  · exact .refl s

theorem State.editArm_edits : s.EditsTo s.editArm.1 := by
  unfold State.editArm
  split
  · exact .refl s
  · split
    · exact .of_frame rfl rfl
    · exact ((State.armHead_edits _).then_frame (by simp) (by simp)).of_same (t := s.modEdit fun e => { e with arm := .armed }) rfl

theorem State.editDisarm_edits : s.EditsTo s.editDisarm.1 := by
  unfold State.editDisarm
  split
  · exact .refl s
  · exact .of_plan (by simp [State.editPlan])

theorem State.locate_edits (hi lo : Word) : s.EditsTo (s.locate hi lo).1 := by
  unfold State.locate
  split
  · exact .refl s
  · exact .of_plan (by simp [State.editPlan])

theorem State.locateCancel_edits : s.EditsTo s.locateCancel.1 := by
  unfold State.locateCancel
  split
  · exact s.endLocate_edits
  · exact .refl s

theorem State.editReset_edits : s.EditsTo (s.modEdit EditEngine.softReset).markEdit := by
  refine .of_move ?_
  have e : (s.modEdit EditEngine.softReset).markEdit.editPlan = ⟨[], s.edit.punch, s.coder.job == .recording⟩ := by
    simp [State.editPlan, EditEngine.softReset, EditEngine.release]
  rw [e]
  exact .cut [] _ _ _

end

end Sys2Proof.Machine
end

section
/-! PROOFS. The edit list and the punch state under the record path, the bus path and the engines (R96, R110): the record job's
start, pair events and stop move them, and nothing else does. -/

namespace Sys2Proof.Machine

/-! ### The record job where it stands -/

section
variable (s : State)

@[simp] theorem State.leaveHalf_job : s.leaveHalf.coder.job = s.coder.job := by
  rw [s.leaveHalf_keeps.1]

@[simp] theorem State.bindHalf_job (h : Fin 2) (b : Binding) : (s.bindHalf h b).coder.job = s.coder.job := rfl

@[simp] theorem State.openFrame_job : s.openFrame.coder.job = s.coder.job := by
  simp [State.openFrame]

@[simp] theorem State.beginFrame_job (h : Fin 2) : (s.beginFrame h).coder.job = s.coder.job := by
  unfold State.beginFrame
  dsimp only
  repeat' split
  all_goals simp

@[simp] theorem State.fetchOld_job (n : Nat) : (s.fetchOld n).coder.job = s.coder.job := by
  rw [State.fetchOld_coder]

@[simp] theorem State.fetched_job (n : Nat) : (s.fetched n).coder.job = s.coder.job := by
  rw [State.fetched_coder]

@[simp] theorem State.settleAndStore_job (k : Fin 4) (n : Nat) (c : Fin 2) (v : Word) :
    (s.settleAndStore k n c v).coder.job = s.coder.job := by
  rw [State.settleAndStore_coder]

@[simp] theorem State.watchRelease_job (y : Nat) : (s.watchRelease y).coder.job = s.coder.job := by
  unfold State.watchRelease
  repeat' split
  all_goals simp

@[simp] theorem State.clearSticky_job : s.clearSticky.coder.job = s.coder.job := rfl

@[simp] theorem State.closeAccess_job (j : CloseJob) : (s.closeAccess j).coder.job = s.coder.job := by
  unfold State.closeAccess State.closeHead State.closeStages State.setClose
  dsimp only
  repeat' split
  all_goals simp

end

/-! ### The record path -/

section
variable (s : State)

theorem State.prepared_edits (hj : s.coder.job = .recording) (k : Fin 4) (n : Nat) : s.EditsTo (s.prepared k n) := by
  unfold State.prepared
  split
  · exact (State.pairEvent_edits (s.fetched n) (by simpa using hj) _ _).of_same (by simp [State.editPlan])
  · exact .of_frame (by simp) (by simp)

theorem State.wordWrite_edits (hj : s.coder.job = .recording) (k : Fin 4) (n : Nat) (c : Fin 2) (v : Word) :
    s.EditsTo (s.wordWrite k n c v) := by
  rw [State.wordWrite_eq]
  exact (s.prepared_edits hj k n).then_frame (by simp) (by simp)

theorem State.landWrite_edits (hj : s.coder.job = .recording) (t : Txn) (h : Fin 2) (n : Nat) (c : Fin 2) (v : Word) :
    s.EditsTo (s.landWrite t h n c v) := by
  unfold State.landWrite
  split
  · split
    · split
      · exact .of_frame (by simp) (by simp)
      · exact (State.wordWrite_edits (s.echoIn c v) (by simpa using hj) _ n c v).of_same (by simp [State.editPlan])
    · exact .of_frame (by simp) (by simp)
  · exact .of_frame (by simp) (by simp)
  · exact .of_frame (by simp) (by simp)

theorem State.restJob_edits : s.EditsTo s.restJob := by
  refine .of_plan ?_
  simp only [State.editPlan, State.restJob_frame, State.restJob_coder]
  split
  · next h =>
    rw [h]
    split <;> rfl
  · rfl

/-- The stop of a job reaches the list by the punch state and the kind of the head (R110). -/
theorem State.stopEdit_edits {t : State} (he : t.edit = s.edit.stop) (hj : t.coder.job ≠ .recording) : s.EditsTo t := by
  have hrec : (t.coder.job == .recording) = false := beq_false_of_ne hj
  have hp : s.edit.returnEntry.punch = s.edit.punch := s.edit.returnEntry_plan.2
  have hl := s.edit.returnEntry_plan.1
  refine .of_move ?_
  simp only [State.editPlan, he, hrec, EditEngine.stop]
  rw [← hl]
  unfold EditEngine.cancelOpenPunch
  split
  · next x rest hin hlist =>
    rw [hlist, hp.symm.trans hin]
    split
    · next hk =>
      rw [List.map_cons, hk]
      exact .stoppedInside _ _ _
    · next hk =>
      rw [hlist]
      exact .stopped _ _ _ fun _ y hy => by cases hy; exact hk
  · next hno =>
    refine .stopped _ _ _ fun hin y hy => ?_
    cases hlist : s.edit.returnEntry.list with
    | nil => rw [hlist] at hy; cases hy
    | cons x rest => exact absurd hlist (hno x rest (hp.trans hin))

theorem State.stopJob_edits : s.EditsTo s.stopJob := by
  rw [State.stopJob_eq]
  refine State.EditsTo.trans ?_ (State.restJob_edits _)
  exact s.stopEdit_edits (by simp [State.stopped]) (by simp [State.stopped])

theorem State.turnover_edits (hj : s.coder.job = .recording) (t : Txn) (h : Fin 2) (n : Nat) (c : Fin 2) (v : Word) :
    s.EditsTo (s.turnover t h n c v) := by
  unfold State.turnover
  split
  · unfold State.rangeEnd
    exact ((State.stopJob_edits ((s.echoIn c v).leaveHalf.raise .rangeEnd)).then_frame (by simp) (by simp)).of_same
      (by simp [State.editPlan])
  · exact (State.landWrite_edits _ (by simpa using hj) t h n c v).of_same (by simp [State.editPlan])

theorem State.recordWrite_edits (t : Txn) (o : Nat) (v : Word) : s.EditsTo (s.recordWrite t o v) := by
  unfold State.recordWrite
  dsimp only
  split
  · next hj =>
    split
    · exact (State.landWrite_edits _ (by simpa using hj) _ _ _ _ _).of_same (by simp [State.editPlan])
    · split
      · exact s.landWrite_edits hj _ _ _ _ _
      · split
        · exact .of_frame (by simp) (by simp)
        · exact s.turnover_edits hj _ _ _ _ _
  · exact .of_frame (by simp) (by simp)

theorem State.finishClose_edits (j : CloseJob) : s.EditsTo (s.finishClose j) := by
  rw [State.finishClose_eq]
  refine State.EditsTo.trans (.of_frame ?_ ?_) (State.restJob_edits _)
  · unfold State.startPending State.closeDone
    split <;> simp
  · unfold State.startPending State.closeDone
    split <;> simp

theorem State.recordStart_edits (mode : BitVec 2) (hi lo : Word) : s.EditsTo (s.recordStart mode hi lo).1 := by
  unfold State.recordStart
  split; · exact .refl s
  split; · exact .refl s
  split; · exact .refl s
  split; · exact .refl s
  next hidle _ _ _ =>
  obtain ⟨hcoder, hedit, -⟩ := s.startRecording_keeps (if mode = 0 then .assemble else .insert) (frameOf hi lo)
  have hl (m : RecMode) : (s.edit.start m).list.map (fun x => (x.loc, x.kind)) = s.edit.list.map fun x => (x.loc, x.kind) := by
    cases m
    · exact s.edit.returnEntry_plan.1
    · rfl
  refine .of_move ?_
  simp only [State.editPlan, hcoder, hedit, hl, (s.edit.start_keeps _).1, not_not.mp hidle]
  exact .started _ _

theorem State.recordStop_edits : s.EditsTo s.recordStop.1 := by
  unfold State.recordStop
  split
  · dsimp only
    exact s.stopJob_edits
  · exact .refl s

theorem State.resetRecord_edits : s.EditsTo s.resetRecord := by
  obtain ⟨hcoder, -, -, -, hedit, -⟩ := s.recordCleared_keeps
  rw [State.resetRecord_eq]
  exact s.stopEdit_edits (by simpa using hedit) (by simp [hcoder])

/-! ### The bus path -/

theorem State.frameHanded_edits (g a d : Nat) : s.EditsTo (s.frameHanded g a d) := by
  unfold State.frameHanded
  exact (State.locateTest_edits _ a).of_same (by simp [State.editPlan])

theorem State.settleFrame_edits (j : EvalJob) : s.EditsTo (s.settleFrame j) := by
  rw [State.settleFrame_eq]
  refine (State.frameHanded_edits (s.frameJudged j) _ _ _).of_same ?_
  unfold State.frameJudged
  split <;> simp [State.editPlan]

theorem State.finishEvaluation_edits (j : EvalJob) : s.EditsTo (s.finishEvaluation j) := by
  unfold State.finishEvaluation
  dsimp only
  split
  · exact .of_frame (by simp) (by simp)
  · exact ((State.settleFrame_edits (s.modTape fun t => { t with eval := none }) j).then_frame (by simp) (by simp)).of_same rfl

theorem State.serveWrite_edits (t : Txn) : s.EditsTo (s.serveWrite t) := by
  unfold State.serveWrite
  split
  case h_2 => exact s.recordWrite_edits _ _ _
  case h_5 => split <;> exact .of_frame (by simp) (by simp)
  all_goals exact .of_frame (by simp) (by simp)

theorem State.serveRead_edits (t : Txn) : s.EditsTo (s.serveRead t) := by
  refine .of_frame (by simp) ?_
  unfold State.serveRead
  split <;> simp

theorem State.serve_edits (t : Txn) : s.EditsTo (s.serve t) := by
  unfold State.serve
  split
  · exact s.serveWrite_edits t
  · exact s.serveRead_edits t

theorem State.service_edits (t : Txn) : s.EditsTo (s.service t) := by
  unfold State.service
  exact ((s.freshAccesses.serve_edits t).then_frame (by simp) (by simp)).of_same (by simp [State.editPlan])

theorem State.arrive_edits (t : Txn) : s.EditsTo (s.arrive t) := by
  unfold State.arrive
  split
  · exact .of_frame rfl rfl
  · split
    · exact .of_frame (by simp) (by simp)
    · split
      · exact .of_frame (by simp) (by simp)
      · exact s.service_edits t

theorem State.resume_edits (x : Held) : s.EditsTo (s.resume x) := by
  unfold State.resume
  dsimp only
  split
  case h_4 => exact s.service_edits _
  all_goals exact .of_frame (by simp) (by simp)

theorem State.release_edits : s.EditsTo s.release := by
  unfold State.release
  split
  · exact .refl s
  · split
    · exact (State.resume_edits _ _).of_same rfl
    · exact .refl s

theorem State.drain_edits (l : List Txn) : s.EditsTo (s.drain l) := by
  induction l generalizing s with
  | nil => exact .of_frame rfl rfl
  | cons t rest ih =>
    unfold State.drain
    split
    · exact .of_frame rfl rfl
    · exact ((s.arrive_edits t).then_frame (by simp) (by simp)).trans (ih _)

end

/-- What follows an event moves the list no further than the transactions that it serves (R152). -/
theorem State.EditsTo.settle {s t : State} (h : s.EditsTo t) : s.EditsTo t.settle := by
  unfold State.settle
  dsimp only
  have hrel : s.EditsTo t.normCounts.release.normCounts :=
    (h.trans ((State.release_edits t.normCounts).of_same (by simp [State.editPlan]))).then_frame (by simp) (by simp)
  split
  · exact hrel
  · exact hrel.trans (State.drain_edits _ _)

/-- A command moves what its owner moves (R159). -/
theorem State.command_edits (s : State) (i : Instr) (k : CmdKind) (o : State → State × Result)
    (ho : ∀ x : State, x.EditsTo (o x).1) : s.EditsTo (s.command i k o) := by
  unfold State.command
  split
  · refine State.EditsTo.settle (State.EditsTo.then_frame ((ho (s.finishReads.modRep ReportUnit.unmarked)).of_same
      (by simp [State.editPlan])) ?_ ?_)
    · rw [(State.take_parts _ k o).2.2.2.2.2.1]
    · rw [(State.take_parts _ k o).2.1]
  · exact .refl s

/-! ### The rows of exec -/

theorem State.upWrite_edits (s : State) (a : BusAddr) (v : Word) : s.EditsTo (s.upWrite a v) := (s.arrive_edits _).settle

theorem State.upRead_edits (s : State) (a : BusAddr) : s.EditsTo (s.upRead a) := (s.arrive_edits _).settle

/-- The RESET input empties the list, with the punch OUT and the job IDLE (R93, R156). -/
theorem State.assertReset_edits (s : State) : s.EditsTo s.assertReset :=
  ⟨.head (.cut [] _ _ _) (.single (.stopped [] _ _ fun _ _ h => by cases h))⟩

/-- The rows of the part's own engines (R33, R48, R51, R153, R160, R168). -/
theorem State.engineRows_edits {s t : State} {i : Instr} (hi : i = .commandCompletion ∨ i = .enginePortGrant ∨
    i = .closeEnd ∨ i = .evaluationTake ∨ i = .evaluationEnd ∨ i = .reportPassBegin ∨ i = .reportPassEnd)
    (ht : exec i s = .next t) : s.EditsTo t := by
  rcases hi with rfl | rfl | rfl | rfl | rfl | rfl | rfl <;> obtain rfl := Host.Outcome.next.inj ht
  · split
    · split
      · exact State.EditsTo.settle (.of_frame (by simp) (by simp))
      · exact State.EditsTo.settle (.of_frame (by simp) (by simp))
      · exact .refl s
    · exact .refl s
  · split
    · split
      · refine State.EditsTo.settle (.of_frame ?_ ?_)
        · unfold State.grant State.engineAccess
          repeat' split
          all_goals simp
        · unfold State.grant State.engineAccess
          repeat' split
          all_goals simp
      · exact .refl s
    · exact .refl s
  · split
    · exact (s.finishClose_edits _).settle
    · exact .refl s
  · split
    · split
      · exact State.EditsTo.settle (.of_frame (by simp) (by simp))
      · exact .refl s
    · exact .refl s
  · split
    · exact (s.finishEvaluation_edits _).settle
    · exact .refl s
  · split
    · exact State.EditsTo.settle (.of_frame (by simp) (by simp))
    · exact .refl s
  · split
    · exact State.EditsTo.settle (.of_frame (by simp) (by simp))
    · exact .refl s

/-- Every command moves the edit list and the punch state by the moves of the rules alone. -/
theorem State.exec_edits {s t : State} (i : Instr) (ht : exec i s = .next t) : s.EditsTo t := by
  cases i
  case commandCompletion | enginePortGrant | closeEnd | evaluationTake | evaluationEnd | reportPassBegin | reportPassEnd =>
    exact State.engineRows_edits (by simp) ht
  all_goals obtain rfl := Host.Outcome.next.inj ht
  case resetAsserted => exact s.assertReset_edits
  case resetReleased =>
    split
    · exact .of_frame rfl rfl
    · exact .refl s
  case initEnd =>
    split
    · exact State.EditsTo.settle (.of_frame (by simp [State.endInit]) (by simp [State.endInit]))
    · exact .refl s
  case recordStart => exact s.command_edits _ _ _ fun x => x.recordStart_edits _ _ _
  case recordStop => exact s.command_edits _ _ _ fun x => x.recordStop_edits
  case editLoad => exact s.command_edits _ _ _ fun x => x.editLoad_edits _ _ _ _ _
  case editParam => exact s.command_edits _ _ _ fun x => x.editParam_edits _ _ _ _ _ _
  case editCancel => exact s.command_edits _ _ _ fun x => x.editCancel_edits _
  case editArm => exact s.command_edits _ _ _ fun x => x.editArm_edits
  case editDisarm => exact s.command_edits _ _ _ fun x => x.editDisarm_edits
  case locate => exact s.command_edits _ _ _ fun x => x.locate_edits _ _
  case locateCancel => exact s.command_edits _ _ _ fun x => x.locateCancel_edits
  case softResetRecord =>
    refine s.command_edits _ _ _ fun x => ?_
    dsimp only
    exact x.resetRecord_edits
  case softResetEdit => exact s.command_edits _ _ _ fun x => x.editReset_edits
  case nop | playStart | playStop | monitorSelect | policySeal | clearCounters | clearSticky | softResetPlayback |
      softResetCounters | unknownCommand =>
    exact s.command_edits _ _ _ fun x => .of_frame (by simp) (by simp)
  case recordWindowRead | playbackWindowRead | recordImageRead | causeWordRead => exact s.upRead_edits _
  all_goals exact s.upWrite_edits _ _

end Sys2Proof.Machine
end

section
/-! PROOFS. The commands of the edit engine: what an owner leaves once its command is taken (R168), and the arming of the head after
a return test, if one is pending (R104, R113). -/

namespace Sys2Proof.Machine

/-! ### An edit command taken (R159, R168) -/

/-- A frame that holds of both parts of the bus path holds of the bus path. -/
theorem State.sameBut.bus {ps : List Part} {s t : State} (h : s.sameBut ps t) (hb : .bus ∉ ps) (hp : .port ∉ ps) :
    t.bus = s.bus := by
  obtain ⟨h1, h2, h3, h4, h5⟩ := h .bus hb
  obtain ⟨h6, h7, h8, h9⟩ := h .port hp
  cases hs : s.bus
  cases ht : t.bus
  simp_all

section
variable {s v : State} {i : Instr} {k : CmdKind} {owner : State → State × Result} {r : Result}

/-- A command whose owner marks the edit status record and leaves all but the edit engine and the report unit. -/
theorem State.command_edited (h : s.aboutToTake i) (ho : owner s.unmarked = (v, r)) (hv : s.sameBut [.edit, .rep] v)
    (hm : v.rep.marks.edit = true) :
    ∃ t, s.command i k owner = t ∧ t.cmd = s.cmd.takenMarked k r ∧ t.edit = v.edit ∧
      t.rep = { v.rep with marks := v.rep.marks.union s.rep.marks } ∧ s.sameBut [.port, .edit, .cmd, .rep] t := by
  obtain ⟨w, hw⟩ := State.command_marked (k := k) h ho (hv.bus (by decide) (by decide))
    (by simp [ReportUnit.touched, Marks.any, hm])
  refine ⟨_, hw, ?_, rfl, rfl, ?_⟩
  · have hc : v.cmd = s.cmd := hv .cmd (by decide)
    simp [CommandUnit.takenMarked, hc]
  · have hrest : v.sameBut [.port, .cmd, .rep] ((s.takenAs v (.waitPass k r)).withCounts w) := by
      simp [State.sameBut_iff, State.agree]
    exact (hv.trans hrest).narrow (by simp)

/-- The marks put by come back beside the one of the edit status record (R168). -/
theorem State.markEdit_union (s : State) :
    { s.unmarked.markEdit.rep with marks := s.unmarked.markEdit.rep.marks.union s.rep.marks } = s.markEdit.rep := by
  simp [State.markEdit, State.unmarked, State.modRep, ReportUnit.unmarked, Marks.union, Marks.clear]

/-- A command whose owner changes the edit engine and marks the edit status record, and does nothing else. -/
theorem State.command_set (f : EditEngine → EditEngine) (h : s.aboutToTake i)
    (ho : owner s.unmarked = ((s.unmarked.modEdit f).markEdit, r)) :
    ∃ t, s.command i k owner = t ∧ t.cmd = s.cmd.takenMarked k r ∧ t.edit = f s.edit ∧ t.rep = s.markEdit.rep ∧
      s.sameBut [.port, .edit, .cmd, .rep] t := by
  obtain ⟨t, ht, hcmd, hedit, hrep, hframe⟩ := State.command_edited (k := k) h ho
    (by simp [State.sameBut_iff, State.agree]) rfl
  exact ⟨t, ht, hcmd, hedit, hrep.trans s.markEdit_union, hframe⟩

/-- A refused EDIT_LOAD drops the parameter target and marks nothing (R97, R160). -/
theorem State.command_dropped (h : s.aboutToTake i) (ho : owner s.unmarked = (s.unmarked.dropParam, r)) :
    ∃ t, s.command i k owner = t ∧ t.cmd = s.cmd.takenQuiet k r ∧ t.edit = { s.edit with param := none } ∧
      s.sameBut [.port, .edit, .cmd] t := by
  obtain ⟨w, hw⟩ := State.command_takenAs (k := k) h ho (by simp)
  have hquiet : s.unmarked.dropParam.rep.touched s.rep = false := s.touched_unmarked
  rw [if_neg (Bool.eq_false_iff.mp hquiet)] at hw
  refine ⟨_, hw, rfl, rfl, ?_⟩
  simp [State.sameBut_iff, State.agree, Marks.union, Marks.clear]

end

/-! ### The head armed, after the return test where it is pending (R104, R113) -/

/-- The return test, where it is pending, misses `gone` and leaves `kept`; else the list stands (R113). -/
def State.tests (s : State) (gone kept : List Entry) : Prop :=
  (s.edit.returnTest = false ∧ gone = [] ∧ kept = s.edit.list) ∨
    (s.edit.returnTest = true ∧ returnSplit s.coder.position s.edit.list gone kept)

/-- The report of the missed entries, if there are any (R113). -/
def State.reportMissed (s : State) (gone : List Entry) : State := if gone = [] then s else s.markEdit.raise .missed

@[simp] theorem State.reportMissed_frame (s : State) (gone : List Entry) :
    (s.reportMissed gone).bus = s.bus ∧ (s.reportMissed gone).coder = s.coder ∧ (s.reportMissed gone).tape = s.tape ∧
    (s.reportMissed gone).dec = s.dec ∧ (s.reportMissed gone).mon = s.mon ∧ (s.reportMissed gone).edit = s.edit ∧
    (s.reportMissed gone).copy = s.copy ∧ (s.reportMissed gone).settings = s.settings ∧
    (s.reportMissed gone).counters = s.counters ∧ (s.reportMissed gone).cmd = s.cmd ∧ (s.reportMissed gone).mem = s.mem ∧
    (s.reportMissed gone).pending = s.pending := by
  unfold State.reportMissed
  split <;> simp

@[simp] theorem missedRecords_nil (o : Vector OutcomeRec 8) : missedRecords [] o = o := by
  simp [missedRecords]

/-- The head of a list that is tested and armed: where R104 allows, from what the test leaves. -/
theorem State.armHead_tested {s : State} {gone kept : List Entry} (h : s.edit.canArm = true) (ht : s.tests gone kept) :
    s.armHead = ((s.reportMissed gone).modEdit fun e => EditEngine.armTop
      { e with list := kept, returnTest := false, outcomes := missedRecords gone e.outcomes }).markEdit := by
  rcases ht with ⟨hr, rfl, rfl⟩ | ⟨hr, hs⟩
  · rw [State.armHead_clear s h hr]
    simp [State.reportMissed, State.modEdit, ← hr]
  · exact State.armHead_split s gone kept h hr hs

section
variable {s : State} {gone kept : List Entry} (h : s.edit.canArm = true) (ht : s.tests gone kept)
include h ht

theorem State.armHead_rep : s.armHead.rep = (s.markEdit.reportMissed gone).rep := by
  rw [State.armHead_tested h ht]
  unfold State.reportMissed
  split <;> rfl

theorem State.armHead_emptied (hk : kept = []) : s.armHead.edit =
    { s.edit with list := [], returnTest := false, outcomes := missedRecords gone s.edit.outcomes } := by
  rw [State.armHead_tested h ht, hk]
  simp [EditEngine.armTop]

theorem State.armHead_armed {z : Entry} {rest : List Entry} (hk : kept = z :: rest) : s.armHead.edit =
    { s.edit with
      list := { z with state := .armed } :: rest, owner := .waitL1, entry := some z.handle, deadline := none,
      prevTrig := none, returnTest := false,
      outcomes := vset (missedRecords gone s.edit.outcomes) z.handle { s.edit.outcomes[z.handle] with state := .armed } } := by
  rw [State.armHead_tested h ht, hk]
  simp only [State.markEdit_frame, State.modEdit_edit, State.reportMissed_frame]
  rw [EditEngine.armTop_cons _ z rest rfl, missedRecords_withState]

end

/-- A condition of R104 fails. -/
theorem EditEngine.canArm_of_not {e : EditEngine} (h : e.arm = .disarmed ∨ e.owner ≠ .idle ∨ e.rearm ≠ none ∨ e.list = []) :
    e.canArm = false := by
  unfold EditEngine.canArm
  rcases h with h | h | h | h
  · simp [h]
  · simp [h]
  · simp [Option.isNone_iff_eq_none, h]
  · simp [h]

theorem EditEngine.canArm_of {e : EditEngine} (ha : e.arm = .armed) (ho : e.owner = .idle) (hr : e.rearm = none)
    (hl : ∃ x rest, e.list = x :: rest ∧ x.state = .pending) : e.canArm = true := by
  obtain ⟨x, rest, hl, hx⟩ := hl
  simp [EditEngine.canArm, ha, ho, hr, hl, hx]

end Sys2Proof.Machine
end

section
/-! PROOFS. The owners of the edit commands, case by case of their tests (R97 to R103, R111, R116). -/

namespace Sys2Proof.Machine

section
variable (s : State)

/-! ### EDIT_PARAM (R99, R100) -/

theorem keepsSequence_iff (k : Option CmdKind) : keepsSequence k = true ↔
    k = some .editLoad ∨ k = some .editParam ∨ k = some .nop := by
  simp [keepsSequence, or_assoc]

theorem OutcomeRec.inUse_of_pending {o : OutcomeRec} (h : o.state = .pending) : o.inUse = true := by
  simp [OutcomeRec.inUse, h]

section
variable {cond : BitVec 2} {chan : BitVec 1} {expo : BitVec 4} {shape : BitVec 2} {threshold span : Word} {h : Fin 8}

theorem State.editParam_sequence (hs : s.edit.param = none ∨ keepsSequence s.cmd.prev = false) :
    s.editParam cond chan expo shape threshold span = (s, .sequence) := by
  unfold State.editParam
  split
  · next hk => rw [hs.resolve_right (by simp [hk])]
  · rfl

variable (hs : keepsSequence s.cmd.prev = true) (hp : s.edit.param = some h)
include hs hp

theorem State.editParam_state (ho : s.edit.outcomes[h].state ≠ .pending) :
    s.editParam cond chan expo shape threshold span = (s, .state) := by
  unfold State.editParam
  rw [if_pos hs, hp]
  dsimp only
  rw [if_neg ho]
  split <;> rfl

variable (ho : s.edit.outcomes[h].state = .pending)
include ho

theorem State.editParam_range (hr : conditionOf cond.toNat = none ∨ shapeOf shape.toNat = none ∨ 4095 < span.toNat) :
    s.editParam cond chan expo shape threshold span = (s, .range) := by
  unfold State.editParam
  rw [if_pos hs, hp]
  dsimp only
  rw [if_pos ho, if_pos (OutcomeRec.inUse_of_pending ho)]
  split
  · next hc hsh =>
    obtain hr | hr | hr := hr
    · rw [hr] at hc; cases hc
    · rw [hr] at hsh; cases hsh
    · rw [if_pos hr]
  · rfl

theorem State.editParam_taken {c : Condition} {sh : Shape} (hc : conditionOf cond.toNat = some c)
    (hsh : shapeOf shape.toNat = some sh) (hn : span.toNat ≤ 4095) : s.editParam cond chan expo shape threshold span =
    ((s.modEdit fun e =>
      { e with list := e.list.map fun x =>
          if x.handle = h then x.withParams c (if chan = 0 then 0 else 1) threshold.toNat span.toNat expo.toNat sh
          else x }).markEdit, .done) := by
  unfold State.editParam
  rw [if_pos hs, hp]
  dsimp only
  rw [if_pos ho, if_pos (OutcomeRec.inUse_of_pending ho), hc, hsh]
  exact if_neg (by omega)

end

theorem conditionOf_lt {cond : BitVec 2} (h : cond.toNat < 3) : conditionOf cond.toNat =
    some (if cond = 0 then .always else if cond = 1 then .zeroCross else .below) := by
  revert h
  revert cond
  decide

theorem shapeOf_le {shape : BitVec 2} (h : shape.toNat ≤ 1) : shapeOf shape.toNat =
    some (if shape = 0 then .linear else .power) := by
  revert h
  revert shape
  decide

/-- The exponent by its ends (R100). -/
theorem clampExpo_eq (expo : BitVec 4) : clampExpo expo.toNat =
    if expo = 0 then 0 else if expo.toNat < 4 then 4 else if 11 < expo.toNat then 11 else expo.toNat := by
  revert expo
  decide

/-- The fields of R100 by the code of the condition. -/
theorem Entry.withParams_codes (x : Entry) {cond : BitVec 2} (h : cond.toNat < 3) (chan : Fin 2) (threshold span : Nat)
    (expo : BitVec 4) (shape : Shape) :
    x.withParams (if cond = 0 then .always else if cond = 1 then .zeroCross else .below) chan threshold span expo.toNat shape =
      { x with
        cond := if cond = 0 then .always else if cond = 1 then .zeroCross else .below
        chan := if cond = 0 then none else some chan
        threshold := if cond = 2 then some (min 32767 threshold) else none
        span := if cond = 0 then none else some span
        expo := if expo = 0 then 0 else if expo.toNat < 4 then 4 else if 11 < expo.toNat then 11 else expo.toNat
        shape := shape } := by
  have hcases : cond = 0 ∨ cond = 1 ∨ cond = 2 := by
    revert h
    revert cond
    decide
  rw [Entry.withParams, clampExpo_eq]
  rcases hcases with rfl | rfl | rfl <;> rfl

/-- Of the listed entries' outcome records the state is set, and the others stand (R95). -/
theorem EditEngine.finish_outcomes (e : EditEngine) (l : List Entry) (st : OutcomeState) (k : Fin 8) :
    (e.finish (l.map Entry.handle) st).outcomes[k] =
      if ∃ y ∈ l, y.handle = k then { e.outcomes[k] with state := st } else e.outcomes[k] := by
  rw [EditEngine.finish_eq]
  simp

/-! ### EDIT_CANCEL (R101) -/

section
variable {kept gone : List Entry} {x : Entry}

theorem entriesBefore_split (hk : ∀ y ∈ kept, y.handle ≠ x.handle) : entriesBefore x.handle (kept ++ x :: gone) = kept := by
  simp only [entriesBefore]
  rw [List.takeWhile_append_of_pos fun y hy => by simpa using hk y hy]
  simp

theorem entriesFrom_split (hk : ∀ y ∈ kept, y.handle ≠ x.handle) : entriesFrom x.handle (kept ++ x :: gone) = x :: gone := by
  simp only [entriesFrom]
  rw [List.dropWhile_append_of_pos fun y hy => by simpa using hk y hy]
  simp

/-- The entry and those after it gone, their outcome records CANCELLED, and the comparator released where its entry is one of
them (R101). -/
theorem EditEngine.cancelFrom_split {e : EditEngine} (hl : e.list = kept ++ x :: gone)
    (hk : ∀ y ∈ kept, y.handle ≠ x.handle) :
    e.cancelFrom x.handle =
      let e1 := { e with list := kept }.finish ((x :: gone).map Entry.handle) .cancelled
      if ∃ y ∈ x :: gone, e.entry = some y.handle then e1.release else e1 := by
  unfold EditEngine.cancelFrom
  dsimp only
  rw [hl, entriesFrom_split hk, entriesBefore_split hk]
  refine if_congr ?_ rfl rfl
  simp only [Option.any_eq_true, List.contains_iff_mem, List.mem_map]
  constructor
  · rintro ⟨_, hy, y, hmem, rfl⟩
    exact ⟨y, hmem, hy⟩
  · rintro ⟨y, hmem, hy⟩
    exact ⟨_, hy, y, hmem, rfl⟩

/-- What EDIT_CANCEL leaves of the edit engine (R101). -/
theorem EditEngine.cancelFrom_keeps {e : EditEngine} (hl : e.list = kept ++ x :: gone)
    (hk : ∀ y ∈ kept, y.handle ≠ x.handle) :
    let t := e.cancelFrom x.handle
    t.list = kept ∧
    (∀ k : Fin 8, t.outcomes[k] =
      if ∃ y ∈ x :: gone, y.handle = k then { e.outcomes[k] with state := .cancelled } else e.outcomes[k]) ∧
    ((∃ y ∈ x :: gone, e.entry = some y.handle) →
      t.owner = .idle ∧ t.entry = none ∧ t.deadline = none ∧ t.prevTrig = none) ∧
    ((¬∃ y ∈ x :: gone, e.entry = some y.handle) → t = { e with list := kept, outcomes := t.outcomes }) ∧
    t.punch = e.punch ∧ t.trans = e.trans ∧ t.arm = e.arm := by
  have ho (k : Fin 8) := EditEngine.finish_outcomes { e with list := kept } (x :: gone) .cancelled k
  rw [EditEngine.cancelFrom_split hl hk]
  dsimp only
  rw [EditEngine.finish_eq] at ho ⊢
  split
  · next h => exact ⟨rfl, ho, fun _ => ⟨rfl, rfl, rfl, rfl⟩, fun hno => absurd h hno, rfl, rfl, rfl⟩
  · next h => exact ⟨rfl, ho, fun hyes => absurd hyes h, fun _ => rfl, rfl, rfl, rfl⟩

variable {handle : BitVec 4} {k : Fin 8}

theorem State.editCancel_range (h : 7 < handle.toNat) : s.editCancel handle = (s, .range) := dif_neg (by omega)

theorem State.editCancel_unused (hk : handle.toNat = k.val) (h : s.edit.outcomes[k].inUse = false) :
    s.editCancel handle = (s, .state) := by
  obtain ⟨n, hlt⟩ := k
  obtain rfl : handle.toNat = n := hk
  unfold State.editCancel
  rw [dif_pos hlt]
  exact if_neg (Bool.eq_false_iff.mp h)

theorem State.editCancel_taken (hk : handle.toNat = k.val) (h : s.edit.outcomes[k].inUse = true) :
    s.editCancel handle = ((s.modEdit fun e => e.cancelFrom k).markEdit, .done) := by
  obtain ⟨n, hlt⟩ := k
  obtain rfl : handle.toNat = n := hk
  unfold State.editCancel
  rw [dif_pos hlt]
  exact if_pos h

end

/-! ### EDIT_LOAD (R97, R98) -/

section
variable {handle : BitVec 4} {kind : BitVec 2} {hi : BitVec 5} {lo pair : Word}

/-- A field out of its range (R97). -/
theorem State.editLoad_range (h : 7 < handle.toNat ∨ 1 < kind.toNat ∨ 1048575 < 65536 * hi.toNat + lo.toNat ∨
    767 < pair.toNat) : s.editLoad handle kind hi lo pair = (s.dropParam, .range) := by
  unfold State.editLoad
  split
  · exact if_pos (h.resolve_left (by omega))
  · rfl

/-- The entry that an EDIT_LOAD of fields in their ranges places, and its frame address (R98). -/
theorem newEntry_frame (h : Fin 8) (k : PunchKind) {f n : Nat} (hn : n ≤ 767) : (newEntry h k (position f n)).frame = f := by
  simp only [Entry.frame, newEntry, position, Config.pairsPerFrame]
  omega

variable {h : Fin 8} (hh : handle.toNat = h.val) (hk : kind.toNat ≤ 1) (hf : 65536 * hi.toNat + lo.toNat ≤ 1048575)
  (hn : pair.toNat ≤ 767) {x : Entry}
  (hx : x = newEntry h (if kind = 0 then .punchIn else .punchOut) (position (65536 * hi.toNat + lo.toNat) pair.toNat))
include hh hk hf hn hx

theorem State.editLoad_tested : s.editLoad handle kind hi lo pair =
    (s.loadTest x).elim (s.takeLoad x, .done) fun r => (s.dropParam, r) := by
  obtain ⟨n, hlt⟩ := h
  obtain rfl : handle.toNat = n := hh
  subst hx
  unfold State.editLoad
  rw [dif_pos hlt, if_neg (by simp only [Config.maxFrame, Config.pairsPerFrame]; omega)]
  dsimp only
  split
  · next ht => rw [ht]; rfl
  · next ht => rw [ht]; rfl

end

section
variable {x : Entry} (hroom : s.edit.list.length < 8)

omit hroom in
theorem State.loadTest_full (h : 8 ≤ s.edit.list.length) : s.loadTest x = some .full := if_pos h

include hroom

/-- A handle in use or a location taken (R97). -/
theorem State.loadTest_clash (h : s.edit.outcomes[x.handle].inUse = true ∨ ∃ y ∈ s.edit.list, y.loc = x.loc) :
    s.loadTest x = some .conflict := by
  unfold State.loadTest
  dsimp only
  rw [if_neg (by omega)]
  split
  · rfl
  · next hu => rw [if_pos (by simpa using h.resolve_left hu)]

variable {l r : List Entry} (hlist : s.edit.list = l ++ r) (hl : ∀ y ∈ l, y.loc < x.loc) (hr : ∀ y ∈ r, x.loc < y.loc)

omit s hroom in
include hl hr in
theorem insertEntry_between : insertEntry x (l ++ r) = l ++ x :: r := by
  induction l with
  | nil =>
    cases r with
    | nil => rfl
    | cons y r => exact if_pos (hr y (by simp))
  | cons y l ih =>
    have hy := hl y (by simp)
    rw [List.cons_append, insertEntry, if_neg (by omega), ih fun z hz => hl z (by simp [hz])]
    rfl

variable (hfree : s.edit.outcomes[x.handle].inUse = false)
include hlist hl hr hfree

/-- The tests that are left where there is room, the handle is free and the entry has its place between `l` and `r` (R97). -/
theorem State.loadTest_placed : s.loadTest x =
    if (∃ y ∈ r, y.state ≠ .pending) ∨ alternates s.edit.punch (l ++ x :: r) = false then some .conflict
    else if s.copy.isProtected x.frame = true ∨ spansProtected s.copy (l ++ x :: r) = true then some .prot
    else if s.edit.arm = .armed ∧ s.coder.job = .recording ∧ s.coder.position.any (fun p => decide (x.loc ≤ p)) = true then
      some .late
    else none := by
  have hloc : ¬(s.edit.list.any fun y => y.loc == x.loc) = true := by
    simp only [hlist, List.any_eq_true, List.mem_append, beq_iff_eq, not_exists, not_and]
    rintro y (hy | hy)
    · exact (hl y hy).ne
    · exact (hr y hy).ne'
  have hclash : (s.edit.list.any fun y => y.state != .pending && decide (x.loc < y.loc)) = true ↔
      ∃ y ∈ r, y.state ≠ .pending := by
    simp only [hlist, List.any_eq_true, List.mem_append, Bool.and_eq_true, bne_iff_ne, decide_eq_true_eq]
    constructor
    · rintro ⟨y, hy | hy, hs, hlt⟩
      · exact absurd hlt (by have := hl y hy; omega)
      · exact ⟨y, hy, hs⟩
    · rintro ⟨y, hy, hs⟩
      exact ⟨y, .inr hy, hs, hr y hy⟩
  unfold State.loadTest
  dsimp only
  rw [if_neg (by omega), if_neg (by rw [hfree]; exact Bool.false_ne_true), if_neg hloc, hlist,
    insertEntry_between hl hr, ← hlist, ite_or, ite_or]
  simp only [hclash, Bool.not_eq_true']

end

/-- What a taken EDIT_LOAD leaves where the entry is not the head, or R104 does not arm it (R98). -/
theorem State.takeLoad_waits {x : Entry} (h : s.edit.list ≠ [] ∨ (s.edit.load x).canArm = false) :
    s.takeLoad x = (s.modEdit fun e => e.load x).markEdit := by
  unfold State.takeLoad
  dsimp only
  split
  · next he =>
    rw [State.armHead_of_not]
    exact h.resolve_left (by simpa using he)
  · rfl

/-- What it leaves where the entry is the head (R98). -/
theorem State.takeLoad_first {x : Entry} (h : s.edit.list = []) :
    s.takeLoad x = (s.modEdit fun e => e.load x).armHead.markEdit := by
  unfold State.takeLoad
  rw [h]
  rfl

/-! ### The comparator entry returned (R103, R110, R111) -/

theorem EditEngine.returnEntry_free {e : EditEngine} (h : e.owner = .idle ∨ e.owner = .locateWait) : e.returnEntry = e := by
  refine if_neg ?_
  rcases h with h | h <;> simp [EditEngine.waiting, h]

theorem EditEngine.returnEntry_head {e : EditEngine} {x : Entry} {rest : List Entry}
    (h : e.owner = .waitL1 ∨ e.owner = .waitL2) (hl : e.list = x :: rest) : e.returnEntry =
      { e with
        list := { x with state := .pending } :: rest, owner := .idle, entry := none, deadline := none, prevTrig := none,
        outcomes := vset e.outcomes x.handle { e.outcomes[x.handle] with state := .pending } } := by
  have hw : e.waiting = true := by rcases h with h | h <;> simp [EditEngine.waiting, h]
  simp only [EditEngine.returnEntry, hw, if_true, EditEngine.setHead, hl, EditEngine.release]
  rfl

end

end Sys2Proof.Machine
end

section
/-! PROOFS. EDIT_ARM, LOCATE and their opposites, and an EDIT_LOAD that arms its entry: what the arming leaves and reports
(R98, R102 to R104, R111 to R113). -/

namespace Sys2Proof.Machine

/-! ### What the arming of the head reports (R104, R113) -/

section
variable (s : State)

/-- The return test raises MISSED and no other cause (R113). -/
theorem State.applyReturnTest_isSet_of {d : Cause} (h : d ≠ .missed) : s.applyReturnTest.rep.isSet d = s.rep.isSet d := by
  unfold State.applyReturnTest
  dsimp only
  repeat' split
  · rfl
  · rw [State.raise_isSet, beq_false_of_ne h, Bool.or_false]
    rfl
  · rfl

theorem State.armHead_isSet_of {d : Cause} (h : d ≠ .missed) : s.armHead.rep.isSet d = s.rep.isSet d := by
  unfold State.armHead
  split
  · rw [(State.onlyMarks_markEdit _).flags.2.2]
    exact s.applyReturnTest_isSet_of h
  · rfl

/-- Where nothing is armed, or no return test is pending, the edit status record is all that is reported. -/
theorem State.armHead_quiet (h : s.edit.canArm = false ∨ s.edit.returnTest = false) :
    s.armHead.markEdit.rep = s.markEdit.rep := by
  cases hcan : s.edit.canArm with
  | false => rw [State.armHead_of_not s hcan]
  | true =>
    rw [State.armHead_clear s hcan (h.resolve_left (by simp [hcan]))]
    rfl

/-- The marks put by come back beside the report of the missed entries (R168). -/
theorem State.reportMissed_union {z : State} {gone : List Entry} (h : z.rep = (s.unmarked.markEdit.reportMissed gone).rep) :
    { z.markEdit.rep with marks := z.markEdit.rep.marks.union s.rep.marks } = (s.markEdit.reportMissed gone).rep := by
  simp only [State.markEdit, State.modRep_rep, h, State.reportMissed]
  split
  · exact s.markEdit_union
  · simp [State.raise, State.unmarked, State.modRep, ReportUnit.unmarked, Marks.union, Marks.clear]

/-! ### EDIT_ARM and EDIT_DISARM (R102, R103) -/

/-- The list armed, before its head is (R102). -/
def State.listArmed (s : State) : State := s.modEdit fun e => { e with arm := .armed }

theorem State.editArm_refused (hm : s.coder.mode = .assemble) (hj : s.coder.job ≠ .idle) : s.editArm = (s, .state) := by
  refine if_pos ⟨hm, ?_⟩
  cases hjob : s.coder.job with
  | idle => exact absurd hjob hj
  | recording => exact .inl rfl
  | stopping => exact .inr rfl

theorem State.editArm_taken (h : s.coder.mode = .insert ∨ s.coder.job = .idle) :
    s.editArm = if s.edit.arm = .armed then (s.markEdit, .done) else (s.listArmed.armHead.markEdit, .done) := by
  refine if_neg fun ⟨hm, hj⟩ => ?_
  rcases h with h | h
  · rw [h] at hm; cases hm
  · rw [h] at hj; rcases hj with hj | hj <;> cases hj

theorem State.editDisarm_taken (h : s.edit.arm = .armed) :
    s.editDisarm = ((s.modEdit fun e => { e.returnEntry with arm := .disarmed }).markEdit, .done) :=
  if_neg (by simp [h])

/-! ### LOCATE (R111) -/

theorem State.locate_taken {hi lo : Word} (h : 65536 * hi.toNat + lo.toNat ≤ 1048575) : s.locate hi lo =
    ((s.modEdit fun e => { e.returnEntry with owner := .locateWait, target := some (frameOf hi lo) }).markEdit, .done) :=
  if_neg (Nat.not_lt.mpr h)

theorem State.endLocate_isSet_of {d : Cause} (h : d ≠ .missed) : s.endLocate.rep.isSet d = s.rep.isSet d := by
  rw [State.endLocate_eq, (State.onlyMarks_markEdit _).flags.2.2, State.armHead_isSet_of _ h]
  rfl

end

theorem ArmState.armed_of_not {a : ArmState} (h : a ≠ .disarmed) : a = .armed := by
  cases a with
  | armed => rfl
  | disarmed => exact absurd rfl h

/-! ### EDIT_LOAD of an entry past every other (R98, R104, R113) -/

section
variable {s : State} {x : Entry}

/-- The edit engine with an entry placed past every other. -/
theorem EditEngine.load_last {e : EditEngine} (h : ∀ y ∈ e.list, y.loc < x.loc) : e.load x =
    { e with
      list := e.list ++ [x], param := some x.handle,
      outcomes := vset e.outcomes x.handle
        { state := .pending, kind := some x.kind, loc := some x.loc, fire := none, forced := none } } := by
  have hplace : insertEntry x e.list = e.list ++ [x] := by
    have := insertEntry_between (r := []) h (by simp)
    rwa [List.append_nil] at this
  rw [EditEngine.load, hplace]

/-- The return test keeps a lone entry whose location the recording has not reached (R113). -/
theorem State.tests_lone (hl : s.edit.list = [x])
    (hp : ∀ p, s.coder.position = some p → p < x.loc) : s.tests [] [x] := by
  cases hr : s.edit.returnTest with
  | false => exact .inl ⟨hr, rfl, hl.symm⟩
  | true =>
    refine .inr ⟨hr, hl, .inl rfl, fun n y hy => by simp at hy, fun y p hy hpos => ?_⟩
    obtain rfl : x = y := by simpa using hy
    have := hp p hpos
    omega

/-- An entry past every other passes the tests that are left where the recording, if the list is armed, has not reached it (R97). -/
theorem State.loadTest_tail (hroom : s.edit.list.length < 8) (hfree : s.edit.outcomes[x.handle].inUse = false)
    (hlast : ∀ y ∈ s.edit.list, y.loc < x.loc) (hkinds : alternates s.edit.punch (s.edit.list ++ [x]) = true)
    (hprot : s.copy.isProtected x.frame = false) (hspan : spansProtected s.copy (s.edit.list ++ [x]) = false)
    (hp : s.edit.arm = .armed → ∀ p, s.coder.position = some p → p < x.loc) : s.loadTest x = none := by
  have hno : ¬(s.edit.arm = .armed ∧ s.coder.job = .recording ∧
      s.coder.position.any (fun p => decide (x.loc ≤ p)) = true) := by
    rintro ⟨harm, -, hany⟩
    obtain ⟨p, hpos, hle⟩ := (Option.any_eq_true _ _).mp hany
    exact absurd (of_decide_eq_true hle) (Nat.not_le.mpr (hp harm p hpos))
  rw [s.loadTest_placed hroom (List.append_nil _).symm hlast (by simp) hfree, if_neg (by simp [hkinds]),
    if_neg (by simp [hprot, hspan]), if_neg hno]

/-- An entry that is the head and that R104 arms: it is armed, and nothing but the status record is reported. -/
theorem State.takeLoad_armed (hl : s.edit.list = []) (ha : s.edit.arm = .armed) (ho : s.edit.owner = .idle)
    (hr : s.edit.rearm = none) (hx : x.state = .pending) (hp : ∀ p, s.coder.position = some p → p < x.loc) :
    (s.takeLoad x).rep = s.markEdit.rep ∧ (s.takeLoad x).edit =
      { s.edit with
        list := [{ x with state := .armed }], param := some x.handle, owner := .waitL1, entry := some x.handle,
        deadline := none, prevTrig := none, returnTest := false,
        outcomes := vset s.edit.outcomes x.handle
          { state := .armed, kind := some x.kind, loc := some x.loc, fire := none, forced := none } } := by
  have hlist : (s.edit.load x).list = [x] := by simp [EditEngine.load, hl, insertEntry]
  have hcan : (s.edit.load x).canArm = true := EditEngine.canArm_of ha ho hr ⟨x, [], hlist, hx⟩
  have htests : (s.modEdit fun e => e.load x).tests [] [x] := State.tests_lone hlist hp
  rw [s.takeLoad_first hl]
  constructor
  · rw [State.markEdit, State.modRep_rep, State.armHead_rep hcan htests]
    rfl
  · rw [(State.markEdit_frame _).2.2.2.2.2.1, State.armHead_armed hcan htests rfl, missedRecords_nil]
    simp [EditEngine.load, vset]

/-- An entry past every other that is not armed (R98). -/
theorem State.takeLoad_placed (hlast : ∀ y ∈ s.edit.list, y.loc < x.loc)
    (h : s.edit.list ≠ [] ∨ s.edit.arm = .disarmed ∨ s.edit.owner ≠ .idle ∨ s.edit.rearm ≠ none) :
    (s.takeLoad x).rep = s.markEdit.rep ∧ (s.takeLoad x).edit =
      { s.edit with
        list := s.edit.list ++ [x], param := some x.handle,
        outcomes := vset s.edit.outcomes x.handle
          { state := .pending, kind := some x.kind, loc := some x.loc, fire := none, forced := none } } := by
  rw [s.takeLoad_waits (h.imp_right fun hno => EditEngine.canArm_of_not (e := s.edit.load x) ?_)]
  · exact ⟨rfl, EditEngine.load_last hlast⟩
  · exact hno.imp_right (Or.imp_right .inl)

end

end Sys2Proof.Machine
end

section
/-! PROOFS. A first-write pair event at the edit engine: the fade wait's end, the comparator's two levels and the fire
(R104 to R109, R113). -/

namespace Sys2Proof.Machine

/-! ### The entry's fire (R108) -/

section
variable {e : EditEngine} {x : Entry} {rest : List Entry} (hl : e.list = x :: rest)
include hl

theorem EditEngine.setHead_cons (st : EntryState) : e.setHead st =
    { e with
      list := { x with state := st } :: rest,
      outcomes := vset e.outcomes x.handle { e.outcomes[x.handle] with state := st.outcome } } := by
  simp only [EditEngine.setHead, hl]
  rfl

/-- The fire overwrites what an earlier level did to the head and its outcome record. -/
theorem EditEngine.setHead_fire (st : EntryState) (q : Nat) (forced : Bool) :
    (e.setHead st).fire x q forced = e.fire x q forced := by
  rw [EditEngine.setHead_cons hl]
  simp [EditEngine.fire, EditEngine.release, hl, vmod, vset]

end

/-- What the fire of the head leaves (R108). -/
theorem EditEngine.fire_head {e : EditEngine} {x : Entry} {rest : List Entry} (hl : e.list.tail = rest) (q : Nat) (forced : Bool) :
    e.fire x q forced =
      { e with
        list := rest, owner := .idle, entry := none, deadline := none, prevTrig := none, rearm := some (q + fadeLength x.expo),
        punch := x.kind.after,
        trans := some { pos := q, kind := x.kind, len := fadeLength x.expo, shape := x.shape, prior := e.punch },
        outcomes := vset e.outcomes x.handle
          { e.outcomes[x.handle] with state := .fired, fire := some q, forced := some forced } } := by
  simp only [EditEngine.fire, EditEngine.release, hl, vmod]

section
variable {s : State} {x : Entry} {q : Nat} {old : Vector Word 2}

/-- Entry `x` has fired at `q`: the edit engine after it, FIRED, and FORCED where it was (R108). -/
structure State.firedTo (s t : State) (x : Entry) (q : Nat) (forced : Bool) : Prop where
  edit : t.edit = s.edit.fire x q forced
  isSet : ∀ d, t.rep.isSet d = (s.rep.isSet d || d == .fired || (forced && d == .forced))
  mark : t.rep.marks.edit = true

theorem State.firePunch_fired (forced : Bool) : s.firedTo (s.firePunch x q forced) x q forced := by
  refine ⟨by simp [State.firePunch], fun d => ?_, ?_⟩
  · rw [State.firePunch, State.raiseIf_isSet, State.raise_isSet, (State.onlyMarks_markEdit _).flags.2.2]
    rfl
  · rw [State.firePunch, (State.raiseIf_marks _ _ _).1]
    rfl

/-! ### The comparator's levels (R106, R107) -/

/-- The condition of a SEEKING entry by its kind (R107). -/
theorem Entry.met_iff (p : Option Word) (v : Word) : x.met p v = true ↔
    x.cond = .always ∨ (x.cond = .below ∧ v.toInt.natAbs ≤ x.threshold.getD 0) ∨
      (x.cond = .zeroCross ∧ ∃ w, p = some w ∧
        ((w.toInt < 0 ∧ 0 ≤ v.toInt) ∨ (0 ≤ w.toInt ∧ v.toInt < 0))) := by
  unfold Entry.met
  cases hc : x.cond with
  | always => simp
  | below => simp
  | zeroCross => cases p <;> simp

/-- With no previous value only BELOW can be met at level 2 (R106, R107). -/
theorem Entry.met_none (hc : x.cond ≠ .always) (v : Word) : x.met none v = true ↔
    x.cond = .below ∧ v.toInt.natAbs ≤ x.threshold.getD 0 := by
  simp [Entry.met_iff, hc]

theorem State.level2_met (hm : x.met s.edit.prevTrig old[x.chan.getD 0] = true) :
    s.level2 x q old = s.firePunch x q false := if_pos hm

theorem State.level2_deadline {d : Nat} (hm : ¬x.met s.edit.prevTrig old[x.chan.getD 0] = true)
    (hd : s.edit.deadline = some d) (hq : d ≤ q) : s.level2 x q old = s.firePunch x q true := by
  rw [State.level2, if_neg hm, hd, if_pos (by simpa using hq)]

theorem State.level2_waits (hm : ¬x.met s.edit.prevTrig old[x.chan.getD 0] = true)
    (hd : ∀ d, s.edit.deadline = some d → q < d) :
    s.level2 x q old = s.modEdit fun e => { e with prevTrig := some old[x.chan.getD 0] } := by
  have hno : ¬(s.edit.deadline.any fun d => decide (d ≤ q)) = true := by
    cases hdl : s.edit.deadline with
    | none => simp
    | some d => simpa using hd d hdl
  rw [State.level2, if_neg hm, if_neg hno]

/-- The head gone from level 1 to level 2, with its deadline and no previous value (R106). -/
def State.seeking (s : State) (x : Entry) : State :=
  (s.modEdit fun e =>
    { e.setHead .seeking with owner := .waitL2, deadline := some (x.loc + x.span.getD 0), prevTrig := none }).markEdit

theorem State.seeking_isSet (d : Cause) : (s.seeking x).rep.isSet d = s.rep.isSet d := rfl

theorem State.level1_early (h : q < x.loc) : s.level1 x q old = s := if_pos h

theorem State.level1_always (h : x.loc ≤ q) (hc : x.cond = .always) : s.level1 x q old = s.firePunch x q false := by
  rw [State.level1, if_neg (Nat.not_lt.mpr h), if_pos hc]

theorem State.level1_seeks (h : x.loc ≤ q) (hc : x.cond ≠ .always) : s.level1 x q old = (s.seeking x).level2 x q old := by
  rw [State.level1, if_neg (Nat.not_lt.mpr h), if_neg hc]
  rfl

/-- A fire at level 2 in the event that took the head there leaves what a fire at level 1 does. -/
theorem State.firedTo.of_seeking {rest : List Entry} {t : State} {forced : Bool} (hl : s.edit.list = x :: rest)
    (h : (s.seeking x).firedTo t x q forced) : s.firedTo t x q forced :=
  ⟨h.edit.trans (EditEngine.setHead_fire hl .seeking q forced), h.isSet, h.mark⟩

/-- The ARMED head fires: of condition NONE, with BELOW met, or FORCED at its deadline (R106, R107). -/
theorem State.level1_fired {rest : List Entry} {forced : Bool} (hl : s.edit.list = x :: rest)
    (h : (x.cond = .always ∧ x.loc ≤ q ∧ forced = false) ∨
      (x.loc ≤ q ∧ (x.cond = .below ∧ old[x.chan.getD 0].toInt.natAbs ≤ x.threshold.getD 0) ∧ forced = false) ∨
      (x.cond ≠ .always ∧ x.loc + x.span.getD 0 ≤ q ∧
        ¬(x.cond = .below ∧ old[x.chan.getD 0].toInt.natAbs ≤ x.threshold.getD 0) ∧ forced = true)) :
    s.firedTo (s.level1 x q old) x q forced := by
  rcases h with ⟨hc, hq, rfl⟩ | ⟨hq, hb, rfl⟩ | ⟨hc, hq, hb, rfl⟩
  · rw [State.level1_always hq hc]
    exact State.firePunch_fired false
  · have hc : x.cond ≠ .always := by simp [hb.1]
    rw [State.level1_seeks hq hc, State.level2_met ((Entry.met_none hc _).mpr hb)]
    exact (State.firePunch_fired false).of_seeking hl
  · rw [State.level1_seeks (by omega) hc, State.level2_deadline (mt (Entry.met_none hc _).mp hb) rfl hq]
    exact (State.firePunch_fired true).of_seeking hl

/-- The ARMED head goes to SEEKING and does not fire (R106, R107). -/
theorem State.level1_waits {rest : List Entry} (hl : s.edit.list = x :: rest) (hc : x.cond ≠ .always) (hq : x.loc ≤ q)
    (hb : ¬(x.cond = .below ∧ old[x.chan.getD 0].toInt.natAbs ≤ x.threshold.getD 0)) (hd : q < x.loc + x.span.getD 0) :
    (s.level1 x q old).edit = { s.edit with
      list := { x with state := .seeking } :: rest, owner := .waitL2, deadline := some (x.loc + x.span.getD 0),
      prevTrig := some old[x.chan.getD 0],
      outcomes := vset s.edit.outcomes x.handle { s.edit.outcomes[x.handle] with state := .seeking } } ∧
    (∀ d, (s.level1 x q old).rep.isSet d = s.rep.isSet d) ∧ (s.level1 x q old).rep.marks.edit = true := by
  rw [State.level1_seeks hq hc, State.level2_waits (mt (Entry.met_none hc _).mp hb) (by rintro d ⟨⟩; exact hd)]
  refine ⟨?_, fun _ => rfl, rfl⟩
  simp only [State.seeking, State.modEdit_edit, State.markEdit_frame, EditEngine.setHead_cons hl]
  rfl

/-- The SEEKING head fires: with its condition met, or FORCED at its deadline (R107). -/
theorem State.level2_fired {forced : Bool}
    (h : (x.met s.edit.prevTrig old[x.chan.getD 0] = true ∧ forced = false) ∨
      (¬x.met s.edit.prevTrig old[x.chan.getD 0] = true ∧ (∃ d, s.edit.deadline = some d ∧ d ≤ q) ∧ forced = true)) :
    s.firedTo (s.level2 x q old) x q forced := by
  rcases h with ⟨hm, rfl⟩ | ⟨hm, ⟨d, hd, hq⟩, rfl⟩
  · rw [State.level2_met hm]
    exact State.firePunch_fired false
  · rw [State.level2_deadline hm hd hq]
    exact State.firePunch_fired true

theorem State.comparator_level1 {rest : List Entry} (ho : s.edit.owner = .waitL1) (hl : s.edit.list = x :: rest) :
    s.comparator q (some old) = s.level1 x q old := by
  simp only [State.comparator, ho, hl]

theorem State.comparator_level2 {rest : List Entry} (ho : s.edit.owner = .waitL2) (hl : s.edit.list = x :: rest) :
    s.comparator q (some old) = s.level2 x q old := by
  simp only [State.comparator, ho, hl]

/-- No edit entry holds the comparator (R105 step 2). -/
theorem State.comparator_free (h : s.edit.owner = .idle ∨ s.edit.owner = .locateWait) (o : Option (Vector Word 2)) :
    s.comparator q o = s := by
  unfold State.comparator
  rcases h with h | h <;> rw [h]

end

/-! ### The fade wait at the event (R105 step 1, R109) -/

section
variable (s : State) (q : Nat)

/-- The state that the comparator takes the event in: the record position moved, and the fade wait's end judged (R105 step 1). -/
def State.atEvent : State := (s.modCoder fun c => { c with recPos := some q }).fadeWait q

/-- The fade wait over, before R104 arms a head. -/
def State.waitOver : State := (s.modCoder fun c => { c with recPos := some q }).modEdit fun e => { e with rearm := none }

variable {s q}

theorem State.atEvent_reached (h : ∃ r, s.edit.rearm = some r ∧ r ≤ q) : s.atEvent q = (s.waitOver q).armHead := by
  obtain ⟨r, hr, hq⟩ := h
  exact if_pos ((Option.any_eq_true _ _).mpr ⟨r, hr, by simpa using hq⟩)

theorem State.atEvent_before (h : ¬∃ r, s.edit.rearm = some r ∧ r ≤ q) :
    s.atEvent q = s.modCoder fun c => { c with recPos := some q } := by
  refine if_neg fun hany => h ?_
  obtain ⟨r, hr, hq⟩ := (Option.any_eq_true _ _).mp hany
  exact ⟨r, hr, by simpa using hq⟩

/-- Where no head is armed at a wait's end, the re-arm position is all that may go. -/
theorem State.atEvent_plain (h : (∃ r, s.edit.rearm = some r ∧ r ≤ q) → (s.waitOver q).edit.canArm = false) :
    (s.atEvent q).edit = { s.edit with rearm := s.edit.rearm.filter (q < ·) } ∧ (s.atEvent q).rep = s.rep := by
  by_cases hreached : ∃ r, s.edit.rearm = some r ∧ r ≤ q
  · rw [State.atEvent_reached hreached, State.armHead_of_not _ (h hreached)]
    obtain ⟨r, hr, hq⟩ := hreached
    have hfilter : s.edit.rearm.filter (q < ·) = none := by simpa [hr] using hq
    rw [hfilter]
    exact ⟨rfl, rfl⟩
  · rw [State.atEvent_before hreached]
    have hfilter : s.edit.rearm.filter (q < ·) = s.edit.rearm := by
      cases hr : s.edit.rearm with
      | none => rfl
      | some r => simpa [hr] using hreached
    rw [hfilter]
    exact ⟨rfl, rfl⟩

/-- Where an entry or a LOCATE holds the comparator the wait's end arms nothing. -/
theorem State.atEvent_held (h : s.edit.owner ≠ .idle) :
    (s.atEvent q).edit = { s.edit with rearm := s.edit.rearm.filter (q < ·) } ∧ (s.atEvent q).rep = s.rep :=
  State.atEvent_plain fun _ => EditEngine.canArm_of_not (.inr (.inl h))

/-- The fade wait ends at `q` where R104 arms a head; the return test, where it is pending, misses `gone` and leaves `kept`
(R105 step 1, R113). -/
def State.waitEnds (s : State) (q : Nat) (gone kept : List Entry) : Prop :=
  s.edit.owner = .idle ∧ s.edit.arm = .armed ∧ (∃ r, s.edit.rearm = some r ∧ r ≤ q) ∧
    (∃ y l, s.edit.list = y :: l ∧ y.state = .pending) ∧
    ((s.edit.returnTest = false ∧ gone = []) ∨ (s.edit.returnTest = true ∧
      returnSplit (if s.coder.job = .recording then some q else none) s.edit.list gone kept))

section
variable {gone kept : List Entry} (hl : s.edit.list = gone ++ kept) (h : s.waitEnds q gone kept)
include hl h

theorem State.waitEnds.tests :
    s.atEvent q = (s.waitOver q).armHead ∧ (s.waitOver q).edit.canArm = true ∧ (s.waitOver q).tests gone kept := by
  obtain ⟨ho, ha, hr, hp, hs⟩ := h
  refine ⟨State.atEvent_reached hr, EditEngine.canArm_of ha ho rfl hp, hs.imp_left fun ⟨hr, hg⟩ => ⟨hr, hg, ?_⟩⟩
  rw [hg, List.nil_append] at hl
  exact hl.symm

/-- MISSED is what a wait's end may raise (R113). -/
theorem State.waitEnds.isSet (d : Cause) :
    (s.atEvent q).rep.isSet d = (s.rep.isSet d || (d == .missed && !gone.isEmpty)) := by
  obtain ⟨he, hcan, ht⟩ := h.tests hl
  rw [he, State.armHead_rep hcan ht, State.reportMissed]
  cases gone with
  | nil => simp [State.waitOver]; rfl
  | cons y l => rw [if_neg (by simp), State.raise_isSet]; simp; rfl

theorem State.waitEnds.mark : (s.atEvent q).rep.marks.edit = true := by
  obtain ⟨he, hcan, ht⟩ := h.tests hl
  rw [he, State.armHead_rep hcan ht, State.reportMissed]
  split <;> rfl

theorem State.waitEnds.emptied (hk : kept = []) : (s.atEvent q).edit =
    { s.edit with list := [], rearm := none, returnTest := false, outcomes := missedRecords gone s.edit.outcomes } := by
  obtain ⟨he, hcan, ht⟩ := h.tests hl
  rw [he, State.armHead_emptied hcan ht hk]
  rfl

theorem State.waitEnds.armed {x : Entry} {rest : List Entry} (hk : kept = x :: rest) : (s.atEvent q).edit =
    { s.edit with
      list := { x with state := .armed } :: rest, owner := .waitL1, entry := some x.handle, deadline := none,
      prevTrig := none, rearm := none, returnTest := false,
      outcomes := vset (missedRecords gone s.edit.outcomes) x.handle { s.edit.outcomes[x.handle] with state := .armed } } := by
  obtain ⟨he, hcan, ht⟩ := h.tests hl
  rw [he, State.armHead_armed hcan ht hk]
  rfl

end

/-- Entry `x` holds the comparator when it takes the event: it did before, or the wait's end arms it (R105). -/
def State.compares (s : State) (q : Nat) (gone : List Entry) (x : Entry) (rest : List Entry) : Prop :=
  (s.edit.owner ≠ .idle ∧ gone = []) ∨ s.waitEnds q gone (x :: rest)

section
variable {gone rest : List Entry} {x : Entry} (hl : s.edit.list = gone ++ x :: rest) (h : s.compares q gone x rest)
include hl h

theorem State.compares.isSet (d : Cause) :
    (s.atEvent q).rep.isSet d = (s.rep.isSet d || (d == .missed && !gone.isEmpty)) := by
  rcases h with ⟨ho, rfl⟩ | h
  · rw [(State.atEvent_held ho).2]
    simp
  · exact h.isSet hl d

theorem State.compares.head : ∃ st, (s.atEvent q).edit.list = { x with state := st } :: rest := by
  rcases h with ⟨ho, rfl⟩ | h
  · rw [(State.atEvent_held ho).1]
    exact ⟨x.state, hl⟩
  · rw [h.armed hl rfl]
    exact ⟨.armed, rfl⟩

/-- The edit engine after the fire of the comparator entry, from what it was before the event (R105, R108, R113). -/
theorem State.compares.fire (forced : Bool) : (s.atEvent q).edit.fire x q forced =
    { s.edit with
      list := rest, owner := .idle, entry := none, deadline := none, prevTrig := none, rearm := some (q + fadeLength x.expo),
      returnTest := s.edit.returnTest && decide (s.edit.owner ≠ .idle), punch := x.kind.after,
      trans := some { pos := q, kind := x.kind, len := fadeLength x.expo, shape := x.shape, prior := s.edit.punch },
      outcomes := vset (missedRecords gone s.edit.outcomes) x.handle
        { s.edit.outcomes[x.handle] with state := .fired, fire := some q, forced := some forced } } := by
  rcases h with ⟨ho, rfl⟩ | h
  · rw [(State.atEvent_held ho).1]
    refine (EditEngine.fire_head (by rw [hl]) q forced).trans ?_
    simp [ho]
  · have hidle : s.edit.owner = .idle := h.1
    rw [h.armed hl rfl]
    refine (EditEngine.fire_head rfl q forced).trans ?_
    dsimp only
    rw [vset_vset, vset_same, hidle]
    simp

section
variable {old : Vector Word 2} (ho : (s.atEvent q).edit.owner = .waitL1)
include ho

/-- Below its location the ARMED head waits (R106). -/
theorem State.compares.early (hq : q < x.loc) : (s.atEvent q).comparator q (some old) = s.atEvent q := by
  obtain ⟨st, hat⟩ := h.head hl
  rw [State.comparator_level1 ho hat]
  exact State.level1_early hq

theorem State.compares.level1_fires {forced : Bool}
    (hf : (x.cond = .always ∧ x.loc ≤ q ∧ forced = false) ∨
      (x.loc ≤ q ∧ (x.cond = .below ∧ old[x.chan.getD 0].toInt.natAbs ≤ x.threshold.getD 0) ∧ forced = false) ∨
      (x.cond ≠ .always ∧ x.loc + x.span.getD 0 ≤ q ∧
        ¬(x.cond = .below ∧ old[x.chan.getD 0].toInt.natAbs ≤ x.threshold.getD 0) ∧ forced = true)) :
    (s.atEvent q).firedTo ((s.atEvent q).comparator q (some old)) x q forced := by
  obtain ⟨st, hat⟩ := h.head hl
  rw [State.comparator_level1 ho hat]
  have hfired := State.level1_fired hat hf
  exact ⟨hfired.edit, hfired.isSet, hfired.mark⟩

/-- The head that goes to SEEKING, from what it was before the event (R106). -/
theorem State.compares.seeks (hc : x.cond ≠ .always) (hq : x.loc ≤ q)
    (hb : ¬(x.cond = .below ∧ old[x.chan.getD 0].toInt.natAbs ≤ x.threshold.getD 0)) (hd : q < x.loc + x.span.getD 0) :
    ((s.atEvent q).comparator q (some old)).edit = { s.edit with
      list := { x with state := .seeking } :: rest, owner := .waitL2, deadline := some (x.loc + x.span.getD 0),
      prevTrig := some old[x.chan.getD 0],
      entry := (if s.edit.owner = .idle then some x.handle else s.edit.entry), rearm := s.edit.rearm.filter (q < ·),
      returnTest := s.edit.returnTest && decide (s.edit.owner ≠ .idle),
      outcomes := vset (missedRecords gone s.edit.outcomes) x.handle
        { s.edit.outcomes[x.handle] with state := .seeking } } ∧
    (∀ d, ((s.atEvent q).comparator q (some old)).rep.isSet d = (s.atEvent q).rep.isSet d) ∧
    ((s.atEvent q).comparator q (some old)).rep.marks.edit = true := by
  obtain ⟨st, hat⟩ := h.head hl
  rw [State.comparator_level1 ho hat]
  obtain ⟨hedit, hset, hmark⟩ := State.level1_waits (old := old) hat hc hq hb hd
  refine ⟨hedit.trans ?_, hset, hmark⟩
  rcases h with ⟨hno, rfl⟩ | h
  · rw [(State.atEvent_held hno).1]
    simp [hno]
  · obtain ⟨hidle, -, ⟨r, hr, hrq⟩, -⟩ := id h
    have hfilter : s.edit.rearm.filter (q < ·) = none := by simpa [hr] using hrq
    rw [h.armed hl rfl, hfilter, hidle]
    dsimp only
    rw [vset_vset, vset_same]
    simp

end

end

section
variable {x : Entry} {rest : List Entry} {old : Vector Word 2} (ho : s.edit.owner = .waitL2) (hl : s.edit.list = x :: rest)
include ho hl

/-- A SEEKING head is judged by the trigger value and the deadline that it had (R107). -/
theorem State.atEvent_level2 : (s.atEvent q).comparator q (some old) = (s.atEvent q).level2 x q old ∧
    (s.atEvent q).edit.prevTrig = s.edit.prevTrig ∧ (s.atEvent q).edit.deadline = s.edit.deadline := by
  obtain ⟨he, -⟩ := State.atEvent_held (s := s) (q := q) (by simp [ho])
  exact ⟨State.comparator_level2 (by rw [he]; exact ho) (by rw [he]; exact hl), by rw [he], by rw [he]⟩

theorem State.level2_fires {forced : Bool}
    (h : (x.met s.edit.prevTrig old[x.chan.getD 0] = true ∧ forced = false) ∨
      (¬x.met s.edit.prevTrig old[x.chan.getD 0] = true ∧ (∃ d, s.edit.deadline = some d ∧ d ≤ q) ∧ forced = true)) :
    (s.atEvent q).firedTo ((s.atEvent q).comparator q (some old)) x q forced := by
  obtain ⟨he, hprev, hdead⟩ := State.atEvent_level2 (q := q) (old := old) ho hl
  rw [he]
  rw [← hprev, ← hdead] at h
  exact State.level2_fired h

theorem State.level2_keeps (hm : ¬x.met s.edit.prevTrig old[x.chan.getD 0] = true)
    (hd : ∀ d, s.edit.deadline = some d → q < d) :
    (s.atEvent q).comparator q (some old) =
      (s.atEvent q).modEdit fun e => { e with prevTrig := some old[x.chan.getD 0] } := by
  obtain ⟨he, hprev, hdead⟩ := State.atEvent_level2 (q := q) (old := old) ho hl
  rw [he]
  rw [← hprev] at hm
  rw [← hdead] at hd
  exact State.level2_waits hm hd

end

end

/-! ### The event as a whole (R25, R89, R105) -/

section
variable (s : State) (q : Nat) (old : Option (Vector Word 2))

theorem State.pairEvent_edit : (s.pairEvent q old).edit = ((s.atEvent q).comparator q old).edit :=
  (State.rejudge_frame _).2.2.2.1

theorem State.pairEvent_isSet_eq (d : Cause) :
    (s.pairEvent q old).isSet d = ((s.atEvent q).comparator q old).rep.isSet d :=
  (State.onlyMarks_rejudge _).flags.2.2 d

theorem State.pairEvent_mark (h : ((s.atEvent q).comparator q old).rep.marks.edit = true) :
    (s.pairEvent q old).rep.marks.edit = true := (State.onlyMarks_rejudge _).edit h

/-- What every pair event keeps: all but the record position, the edit engine and the re-judged source (R89). -/
theorem State.pairEvent_rest : (s.pairEvent q old).coder = { s.coder with recPos := some q } ∧
    (s.pairEvent q old).mon.effective = (s.pairEvent q old).effectiveOf ∧
    s.sameBut [.coder, .dec, .mon, .edit, .copy, .rep] (s.pairEvent q old) := by
  refine ⟨(s.pairEvent_keeps q old).1, ?_, by simp [State.sameBut_iff, State.agree]⟩
  rw [State.pairEvent, State.rejudge_mon, State.rejudge_effectiveOf]

end

section
variable {s : State} {q : Nat} {old : Option (Vector Word 2)}

/-- What a pair event keeps where its return test, if it makes one, misses `gone`. -/
def State.eventKept (s t : State) (q : Nat) (gone : List Entry) : Prop :=
  t.isSet .missed = (s.isSet .missed || !gone.isEmpty) ∧ t.coder = { s.coder with recPos := some q } ∧
    t.mon.effective = t.effectiveOf ∧ s.sameBut [.coder, .dec, .mon, .edit, .copy, .rep] t

variable {gone : List Entry}
  (hset : ∀ d, (s.atEvent q).rep.isSet d = (s.rep.isSet d || (d == .missed && !gone.isEmpty)))
include hset

/-- An event in which nothing fires. -/
theorem State.pairEvent_quiet
    (h : ∀ d, ((s.atEvent q).comparator q old).rep.isSet d = (s.atEvent q).rep.isSet d) :
    (s.pairEvent q old).isSet .fired = s.isSet .fired ∧ (s.pairEvent q old).isSet .forced = s.isSet .forced ∧
      s.eventKept (s.pairEvent q old) q gone := by
  refine ⟨?_, ?_, ?_, s.pairEvent_rest q old⟩
  all_goals rw [State.pairEvent_isSet_eq, h, hset, State.isSet_eq]
  · exact Bool.or_false _
  · exact Bool.or_false _
  · rfl

/-- An event in which an entry fires. -/
theorem State.pairEvent_fired {x : Entry} {forced : Bool}
    (h : (s.atEvent q).firedTo ((s.atEvent q).comparator q old) x q forced) :
    (s.pairEvent q old).isSet .fired = true ∧ (forced = true → (s.pairEvent q old).isSet .forced = true) ∧
      (forced = false → (s.pairEvent q old).isSet .forced = s.isSet .forced) ∧ (s.pairEvent q old).rep.marks.edit = true ∧
      s.eventKept (s.pairEvent q old) q gone := by
  have hs (d : Cause) : (s.pairEvent q old).isSet d =
      (s.rep.isSet d || (d == .missed && !gone.isEmpty) || d == .fired || (forced && d == .forced)) := by
    rw [State.pairEvent_isSet_eq, h.isSet, hset]
  refine ⟨?_, ?_, ?_, s.pairEvent_mark q old h.mark, ?_, s.pairEvent_rest q old⟩
  all_goals rw [hs]
  · simp
  · rintro rfl
    simp
  · rintro rfl
    change (s.rep.isSet .forced || false || false || false) = s.rep.isSet .forced
    simp
  · change (s.rep.isSet .missed || (true && !gone.isEmpty) || false || (forced && false)) =
      (s.rep.isSet .missed || !gone.isEmpty)
    simp

end

end Sys2Proof.Machine
end

section
/-! PROOFS. The obligations on the edit list and the trigger comparator, settled. -/

open Sys2Proof Sys2Proof.Machine

/-- Settles O47: a step runs a command on the rest of the queue, every command moves the edit list and the punch state by the moves
of `EditPlan.Move`, and each move keeps both laws. -/
theorem editListStaysOrdered : Obligations.EditListStaysOrdered := by
  have hstep (s t : State) (h : step s = .next t) : s.EditsTo t := by
    unfold step at h
    split at h
    · obtain rfl := Host.Outcome.next.inj h
      exact .refl s
    · next c rest _ => exact (State.exec_edits (s := { s with pending := rest }) c h).of_same rfl
  exact ⟨fun s t hs h => (hstep s t h).ordered hs, fun s t hs h => (hstep s t h).punchLaw hs⟩

/-- Settles O42: the tests one by one, and the six fields of the target entry by the codes of its condition and shape. -/
theorem editParamSetsTheTarget : Obligations.EditParamSetsTheTarget := by
  intro s cond chan expo shape threshold span h
  refine ⟨fun hseq => ?_, fun k hparam hprev => ⟨fun hstate => ?_, fun hstate hrange => ?_, fun hstate hcond hshape hspan => ?_⟩⟩
  · have hno : s.edit.param = none ∨ keepsSequence s.cmd.prev = false := by
      refine hseq.imp_right fun ⟨h1, h2, h3⟩ => ?_
      rw [← Bool.not_eq_true, keepsSequence_iff]
      rintro (e | e | e)
      · exact h1 e
      · exact h2 e
      · exact h3 e
    obtain ⟨t, ht, hrest⟩ := State.command_refused (k := .editParam) (owner := (·.editParam cond chan expo shape threshold span)) h
      (s.unmarked.editParam_sequence hno)
    exact ⟨t, congrArg Host.Outcome.next ht, hrest⟩
  · obtain ⟨t, ht, hrest⟩ := State.command_refused (k := .editParam) (owner := (·.editParam cond chan expo shape threshold span)) h
      (s.unmarked.editParam_state ((keepsSequence_iff _).mpr hprev) hparam hstate)
    exact ⟨t, congrArg Host.Outcome.next ht, hrest⟩
  · have hcodes : conditionOf cond.toNat = none ∨ shapeOf shape.toNat = none ∨ 4095 < span.toNat := by
      refine hrange.imp (fun e => ?_) (Or.imp_left fun e => ?_)
      · rw [e]; rfl
      · rw [shapeOf, if_neg (by omega), if_neg (by omega)]
    obtain ⟨t, ht, hrest⟩ := State.command_refused (k := .editParam) (owner := (·.editParam cond chan expo shape threshold span)) h
      (s.unmarked.editParam_range ((keepsSequence_iff _).mpr hprev) hparam hstate hcodes)
    exact ⟨t, congrArg Host.Outcome.next ht, hrest⟩
  · obtain ⟨t, ht, hcmd, hedit, hrep, hframe⟩ := State.command_set (k := .editParam)
      (owner := (·.editParam cond chan expo shape threshold span)) _ h
      (s.unmarked.editParam_taken ((keepsSequence_iff _).mpr hprev) hparam hstate (conditionOf_lt hcond) (shapeOf_le hshape) hspan)
    refine ⟨t, congrArg Host.Outcome.next ht, hcmd, hedit.trans ?_, hrep, hframe⟩
    simp only [Entry.withParams_codes _ hcond]

/-- Settles O43: the list split at the handle's entry. -/
theorem editCancelTruncates : Obligations.EditCancelTruncates := by
  intro s handle h
  refine ⟨fun hrange => ?_, fun k hk => ⟨fun hunused => ?_, fun kept gone x hused hlist hx hkept => ?_⟩⟩
  · obtain ⟨t, ht, hrest⟩ := State.command_refused (k := .editCancel) (owner := (·.editCancel handle)) h
      (s.unmarked.editCancel_range hrange)
    exact ⟨t, congrArg Host.Outcome.next ht, hrest⟩
  · obtain ⟨t, ht, hrest⟩ := State.command_refused (k := .editCancel) (owner := (·.editCancel handle)) h
      (s.unmarked.editCancel_unused hk hunused)
    exact ⟨t, congrArg Host.Outcome.next ht, hrest⟩
  · subst hx
    obtain ⟨t, ht, hcmd, hedit, hrep, hframe⟩ := State.command_set (k := .editCancel) (owner := (·.editCancel handle)) _ h
      (s.unmarked.editCancel_taken hk hused)
    obtain ⟨hl, ho, hfree, hheld, hpunch, htrans, harm⟩ := EditEngine.cancelFrom_keeps hlist hkept
    rw [← hedit] at hl ho hfree hheld hpunch htrans harm
    refine ⟨t, congrArg Host.Outcome.next ht, hcmd, hl, fun y hy => ?_, fun j hj => ?_, fun y hy he => hfree ⟨y, hy, he⟩,
      fun hno => hheld fun ⟨y, hy, he⟩ => hno y hy he, hpunch, htrans, harm, hrep, hframe⟩
    · rw [ho, if_pos ⟨y, hy, rfl⟩]
    · rw [ho, if_neg fun ⟨y, hy, e⟩ => hj y hy e]

/-- Settles O46: the removed handles' outcome records by `finish_outcomes`. -/
theorem softResetEditEmptiesTheList : Obligations.SoftResetEditEmptiesTheList := by
  intro s h
  obtain ⟨t, ht, hcmd, hedit, hrep, hframe⟩ := State.command_set (k := .softReset) (r := .done)
    (owner := fun x => ((x.modEdit EditEngine.softReset).markEdit, .done)) EditEngine.softReset h rfl
  have ho (k : Fin 8) : t.edit.outcomes[k] =
      if ∃ y ∈ s.edit.list, y.handle = k then { s.edit.outcomes[k] with state := .cancelled } else s.edit.outcomes[k] := by
    rw [hedit]
    exact EditEngine.finish_outcomes { s.edit with list := [] } s.edit.list .cancelled k
  refine ⟨t, congrArg Host.Outcome.next ht, hcmd, ?_, fun x hx => ?_, fun k hk => ?_, hrep, hframe⟩
  · rw [hedit, EditEngine.softReset, EditEngine.finish_eq]
    rfl
  · rw [ho, if_pos ⟨x, hx, rfl⟩]
  · rw [ho, if_neg fun ⟨y, hy, e⟩ => hk y hy e]

/-- Settles O44: a head that R104 arms is the one that the return test leaves, by `armHead_emptied` and `armHead_armed`. -/
theorem editArmAndDisarm : Obligations.EditArmAndDisarm := by
  refine ⟨fun s h => ⟨fun hmode hjob => ?_, fun hfree => ?_⟩, fun s h => ⟨fun hoff => ?_, fun hon => ?_⟩⟩
  · obtain ⟨t, ht, hrest⟩ := State.command_refused (k := .editArm) (owner := State.editArm) h
      (s.unmarked.editArm_refused hmode hjob)
    exact ⟨t, congrArg Host.Outcome.next ht, hrest⟩
  · have hown := s.unmarked.editArm_taken hfree
    cases harm : s.edit.arm with
    | armed =>
      obtain ⟨t, ht, hcmd, hedit, hrep, hframe⟩ := State.command_set (k := .editArm) id h (hown.trans (if_pos harm))
      exact ⟨t, congrArg Host.Outcome.next ht, hcmd, fun _ => hedit, fun h => (by cases h), fun _ _ h => (by cases h),
        fun _ => hrep, fun _ _ h => (by cases h), hframe⟩
    | disarmed =>
      obtain ⟨t, ht, hcmd, hedit, hrep, hframe⟩ := State.command_edited (k := .editArm) h
        (hown.trans (if_neg (by simp [harm]))) (by simp [State.sameBut_iff, State.agree, State.listArmed]) rfl
      have hquiet (hno : s.unmarked.listArmed.edit.canArm = false ∨ s.edit.returnTest = false) : t.rep = s.markEdit.rep := by
        rw [hrep, State.armHead_quiet _ hno]
        exact s.markEdit_union
      refine ⟨t, congrArg Host.Outcome.next ht, hcmd, fun h => (by cases h), fun _ hno => ?_,
        fun x rest _ ho hr htest hl hx => ?_, fun hno => hquiet ?_, fun gone kept _ ho hr htest hl hs => ?_, hframe⟩
      · rw [hedit, State.armHead_of_not s.unmarked.listArmed (EditEngine.canArm_of_not (.inr hno))]
        rfl
      · have hcan : s.unmarked.listArmed.edit.canArm = true := EditEngine.canArm_of rfl ho hr ⟨x, rest, hl, hx⟩
        have e := State.armHead_armed hcan (.inl ⟨htest, rfl, rfl⟩) hl
        rw [missedRecords_nil] at e
        rw [hedit]
        exact e.trans (by simp [State.listArmed, htest])
      · rcases hno with h | h | h | h | h
        · cases h
        · exact .inl (EditEngine.canArm_of_not (.inr (.inl h)))
        · exact .inl (EditEngine.canArm_of_not (.inr (.inr (.inl h))))
        · exact .inl (EditEngine.canArm_of_not (.inr (.inr (.inr h))))
        · exact .inr h
      · have hcan : s.unmarked.listArmed.edit.canArm = true := EditEngine.canArm_of rfl ho hr hl
        have htests : s.unmarked.listArmed.tests gone kept := .inr ⟨htest, hs⟩
        have hreport : t.rep = (s.markEdit.reportMissed gone).rep := by
          rw [hrep]
          exact s.reportMissed_union ((State.armHead_rep hcan htests).trans (by unfold State.reportMissed; split <;> rfl))
        refine ⟨fun hg => hreport.trans (by rw [State.reportMissed, if_pos hg]),
          fun hg => hreport.trans (by rw [State.reportMissed, if_neg hg]; rfl), fun hk => hedit.trans ?_, fun z rest hk => hedit.trans ?_⟩
        · exact State.armHead_emptied hcan htests hk
        · exact State.armHead_armed hcan htests hk
  · obtain ⟨t, ht, hrest⟩ := State.command_refused (k := .editDisarm) (owner := State.editDisarm) h (if_pos hoff)
    exact ⟨t, congrArg Host.Outcome.next ht, hrest⟩
  · obtain ⟨t, ht, hcmd, hedit, hrep, hframe⟩ := State.command_set (k := .editDisarm) _ h (s.unmarked.editDisarm_taken hon)
    refine ⟨t, congrArg Host.Outcome.next ht, hcmd, fun ho => ?_, fun x rest ho hl => ?_, hrep, hframe⟩
    · rw [hedit, EditEngine.returnEntry_free ho]
    · rw [hedit, EditEngine.returnEntry_head ho hl]

/-- Settles O45: LOCATE returns the comparator entry, and LOCATE_CANCEL ends the LOCATE, which `locateEnded` describes. -/
theorem locateAndCancel : Obligations.LocateAndCancel := by
  refine ⟨fun s hi lo h => ⟨fun hrange => ?_, fun hle => ?_⟩, fun s h => ⟨fun hno => ?_, fun hwait => ?_⟩⟩
  · obtain ⟨t, ht, hrest⟩ := State.command_refused (k := .locate) (owner := (·.locate hi lo)) h (if_pos hrange)
    exact ⟨t, congrArg Host.Outcome.next ht, hrest⟩
  · obtain ⟨t, ht, hcmd, hedit, hrep, hframe⟩ := State.command_set (k := .locate) (owner := (·.locate hi lo)) _ h
      (s.unmarked.locate_taken hle)
    refine ⟨t, congrArg Host.Outcome.next ht, hcmd, fun ho => ?_, fun x rest ho hl => ?_, hrep, hframe⟩
    · rw [hedit, EditEngine.returnEntry_free ho]
      rfl
    · rw [hedit, EditEngine.returnEntry_head ho hl]
      rfl
  · obtain ⟨t, ht, hrest⟩ := State.command_refused (k := .locateCancel) (owner := State.locateCancel) h (if_neg hno)
    exact ⟨t, congrArg Host.Outcome.next ht, hrest⟩
  · obtain ⟨htarget, -, -, hmark⟩ := s.unmarked.endLocate_keeps
    obtain ⟨t, ht, hcmd, hedit, hrep, hframe⟩ := State.command_edited (k := .locateCancel) (owner := State.locateCancel) h
      (if_pos hwait) (by simp [State.sameBut_iff, State.agree]) hmark
    refine ⟨t, congrArg Host.Outcome.next ht, hcmd, by rw [hedit, htarget],
      s.unmarked.endLocate_ended.congr rfl rfl rfl hedit (by rw [hrep]; rfl), ?_, ?_, hframe⟩
    · rw [State.isSet_eq, State.isSet_eq, hrep]
      exact s.unmarked.endLocate_isSet_of (d := .located) (by decide)
    · simp [hrep, Marks.union, hmark]

/-- Settles O41: the refusals by the tests in their order, and an entry at the tail by what is left of them; the head that is armed
is the new entry, which the return test does not miss. -/
theorem editLoadPlacesAtTheTail : Obligations.EditLoadPlacesAtTheTail := by
  intro s handle kind hi lo pair h f q
  refine ⟨fun hrange => ?_, fun k hh hk hf hn => ?_⟩
  · obtain ⟨t, ht, hrest⟩ := State.command_dropped (k := .editLoad) (owner := (·.editLoad handle kind hi lo pair)) h
      (s.unmarked.editLoad_range hrange)
    exact ⟨t, congrArg Host.Outcome.next ht, hrest⟩
  intro x o
  have hown := s.unmarked.editLoad_tested hh hk hf hn (x := x) rfl
  have hframe : x.frame = f := newEntry_frame _ _ hn
  have hrefused {r : Result} (hr : s.loadTest x = some r) :
      ∃ t, exec (.editLoad handle kind hi lo pair) s = .next t ∧ t.cmd = s.cmd.takenQuiet .editLoad r ∧
        t.edit = { s.edit with param := none } ∧ s.sameBut [.port, .edit, .cmd] t := by
    obtain ⟨t, ht, hrest⟩ := State.command_dropped (k := .editLoad) (owner := (·.editLoad handle kind hi lo pair)) h
      (hown.trans (congrArg (fun o => Option.elim o _ _) hr))
    exact ⟨t, congrArg Host.Outcome.next ht, hrest⟩
  refine ⟨fun hfull => hrefused (s.loadTest_full hfull), fun hroom hclash => hrefused (s.loadTest_clash hroom hclash),
    fun l r hlist hl hr hroom hfree => ?_, fun hroom hfree hlast hkinds hprot hspan hlate => ?_⟩
  · intro placed clash shut refused
    have htests := s.loadTest_placed (x := x) hroom hlist hl hr hfree
    rw [hframe] at htests
    refine ⟨fun hc => hrefused (htests.trans (if_pos hc)), fun hc ha hs => hrefused ?_, fun hc ha hs harm hjob hp => hrefused ?_⟩
    all_goals
      have hkinds : ¬(clash ∨ alternates s.edit.punch placed = false) := by simp [hc, ha]
      rw [htests, if_neg hkinds]
    · exact if_pos hs
    · obtain ⟨p, hp, hle⟩ := hp
      rw [if_neg hs, if_pos ⟨harm, hjob, by simpa [hp] using hle⟩]
  · have hahead (harm : s.edit.arm = .armed) (p : Nat) (hp : s.coder.position = some p) : p < x.loc := by
      refine hlate harm ?_ p hp
      by_contra hjob
      simp [RecordCoder.position, hjob] at hp
    have hpassed : s.loadTest x = none :=
      State.loadTest_tail hroom hfree hlast hkinds (hframe ▸ hprot) hspan hahead
    obtain ⟨t, ht, hcmd, hedit, hrep, hkeep⟩ := State.command_edited (k := .editLoad)
      (owner := (·.editLoad handle kind hi lo pair)) h (hown.trans (congrArg (fun o => Option.elim o _ _) hpassed))
      (by simp [State.sameBut_iff, State.agree]) rfl
    have hplaced := State.takeLoad_placed (s := s.unmarked) (x := x) hlast
    have harmed (hl : s.edit.list = []) (ha : s.edit.arm = .armed) (ho : s.edit.owner = .idle) (hr : s.edit.rearm = none) :=
      State.takeLoad_armed (s := s.unmarked) hl ha ho hr (x := x) rfl (hahead ha)
    have hquiet : (s.unmarked.takeLoad x).rep = s.unmarked.markEdit.rep := by
      by_cases hwaits : s.edit.list ≠ [] ∨ s.edit.arm = .disarmed ∨ s.edit.owner ≠ .idle ∨ s.edit.rearm ≠ none
      · exact (hplaced hwaits).1
      · simp only [not_or, not_not] at hwaits
        obtain ⟨hl, ha, ho, hr⟩ := hwaits
        exact (harmed hl (ArmState.armed_of_not ha) ho hr).1
    have hmark : t.rep = s.markEdit.rep := by
      rw [hrep, hquiet]
      exact s.markEdit_union
    exact ⟨t, congrArg Host.Outcome.next ht, hcmd, fun hwaits => hedit.trans (hplaced hwaits).2,
      fun hl ha ho hr => hedit.trans (harmed hl ha ho hr).2, by rw [hmark]; rfl, by rw [hmark]; rfl, hkeep⟩

/-- Settles O48: the comparator entry when the event comes (`compares`), then the levels by their cases. -/
theorem punchFires : Obligations.PunchFires := by
  refine ⟨fun s gone rest x q old hlist => ?_, fun s q old => ?_⟩
  · intro v t len rearm below cross met stop ended level1 level2 test records kept quiet
    have hedit : t.edit = ((s.atEvent q).comparator q (some old)).edit := s.pairEvent_edit q (some old)
    have hlevel1 (h : level1) : s.compares q gone x rest ∧ (s.atEvent q).edit.owner = .waitL1 := by
      rcases h with ⟨ho, hg⟩ | h
      · have hno : s.edit.owner ≠ .idle := by simp [ho]
        exact ⟨.inl ⟨hno, hg⟩, by rw [(State.atEvent_held hno).1]; exact ho⟩
      · exact ⟨.inr h, by rw [State.waitEnds.armed hlist h rfl]⟩
    have hlevel2 (h : level2) : s.compares q gone x rest ∧ s.edit.owner = .waitL2 ∧ s.edit.list = x :: rest := by
      obtain ⟨ho, rfl⟩ := h
      exact ⟨.inl ⟨by simp [ho], rfl⟩, ho, hlist⟩
    have hmet : x.met s.edit.prevTrig v = true ↔ met := Entry.met_iff _ _
    have hquiet (h : s.compares q gone x rest)
        (hs : ∀ d, ((s.atEvent q).comparator q (some old)).rep.isSet d = (s.atEvent q).rep.isSet d) : quiet :=
      State.pairEvent_quiet (h.isSet hlist) hs
    refine ⟨fun forced h => ?_, fun ho hg hq => ?_, fun h hq => ?_, fun h hc hq hb hd => ?_, fun h hm hd => ?_⟩
    · have hfired : s.compares q gone x rest ∧
          (s.atEvent q).firedTo ((s.atEvent q).comparator q (some old)) x q forced := by
        rcases h with ⟨h, hf⟩ | ⟨h, hf⟩ | ⟨h, hf⟩ | ⟨h, hm, hf⟩ | ⟨h, hm, hf⟩
        · obtain ⟨hcomp, ho⟩ := hlevel1 h
          exact ⟨hcomp, hcomp.level1_fires hlist ho (.inl hf)⟩
        · obtain ⟨hcomp, ho⟩ := hlevel1 h
          exact ⟨hcomp, hcomp.level1_fires hlist ho (.inr (.inl hf))⟩
        · obtain ⟨hcomp, ho⟩ := hlevel1 h
          exact ⟨hcomp, hcomp.level1_fires hlist ho (.inr (.inr hf))⟩
        · obtain ⟨hcomp, ho, hl⟩ := hlevel2 h
          exact ⟨hcomp, State.level2_fires ho hl (.inl ⟨hmet.mpr hm, hf⟩)⟩
        · obtain ⟨hcomp, ho, hl⟩ := hlevel2 h
          exact ⟨hcomp, State.level2_fires ho hl (.inr ⟨mt hmet.mp hm, hf⟩)⟩
      obtain ⟨hcomp, hfired⟩ := hfired
      refine ⟨?_, State.pairEvent_fired (hcomp.isSet hlist) hfired⟩
      rw [hedit, hfired.edit, hcomp.fire hlist]
      rfl
    · obtain ⟨hcomp, hat⟩ := hlevel1 (.inl ⟨ho, hg⟩)
      have he := hcomp.early (old := old) hlist hat hq
      refine ⟨?_, hquiet hcomp fun d => by rw [he]⟩
      rw [hedit, he, (State.atEvent_held (by simp [ho])).1]
    · obtain ⟨hcomp, hat⟩ := hlevel1 (.inr h)
      have he := hcomp.early (old := old) hlist hat hq
      refine ⟨?_, s.pairEvent_mark q _ ?_, hquiet hcomp fun d => by rw [he]⟩
      · rw [hedit, he, State.waitEnds.armed hlist h rfl]
      · rw [he]
        exact State.waitEnds.mark hlist h
    · obtain ⟨hcomp, hat⟩ := hlevel1 h
      obtain ⟨he, hset, hmark⟩ := hcomp.seeks (old := old) hlist hat hc hq hb hd
      exact ⟨hedit.trans he, s.pairEvent_mark q _ hmark, hquiet hcomp hset⟩
    · obtain ⟨hcomp, ho, hl⟩ := hlevel2 h
      have he := State.level2_keeps (q := q) (old := old) ho hl (mt hmet.mp hm) hd
      refine ⟨?_, hquiet hcomp fun d => by rw [he]; rfl⟩
      rw [hedit, he, State.modEdit_edit, (State.atEvent_held (by simp [ho])).1]
  · intro t reached kept
    have hedit : t.edit = ((s.atEvent q).comparator q (some old)).edit := s.pairEvent_edit q (some old)
    refine ⟨fun h => ?_, fun ho ha hr hl htest hsplit => ?_⟩
    · have hplain := State.atEvent_plain (s := s) (q := q) fun hr => EditEngine.canArm_of_not (by
        rcases h with ho | ⟨-, hno | ha | hl⟩
        · exact .inr (.inl (by simp [State.waitOver, ho]))
        · exact absurd hr hno
        · exact .inl ha
        · exact .inr (.inr (.inr hl)))
      have hfree : (s.atEvent q).edit.owner = .idle ∨ (s.atEvent q).edit.owner = .locateWait := by
        rw [hplain.1]
        exact h.symm.imp_left And.left
      have he := State.comparator_free (q := q) hfree (some old)
      obtain ⟨hfired, hforced, hmissed, hrest⟩ := State.pairEvent_quiet (s := s) (q := q) (old := some old) (gone := [])
        (fun d => by rw [hplain.2]; simp) (fun d => by rw [he])
      refine ⟨?_, hmissed.trans (Bool.or_false _), hfired, hforced, hrest⟩
      rw [hedit, he, hplain.1]
    · have hends : s.waitEnds q s.edit.list [] := ⟨ho, ha, hr, hl, .inr ⟨htest, hsplit⟩⟩
      have hlist : s.edit.list = s.edit.list ++ [] := (List.append_nil _).symm
      have hat := hends.emptied hlist rfl
      have he := State.comparator_free (s := s.atEvent q) (q := q) (.inl (by rw [hat]; exact ho)) (some old)
      obtain ⟨hfired, hforced, hmissed, hrest⟩ := State.pairEvent_quiet (s := s) (q := q) (old := some old)
        (hends.isSet hlist) (fun d => by rw [he])
      refine ⟨?_, ?_, s.pairEvent_mark q _ ?_, hfired, hforced, hrest⟩
      · rw [hedit, he, hat]
      · obtain ⟨y, l, hl, -⟩ := hl
        rw [hmissed, hl]
        simp
      · rw [he]
        exact hends.mark hlist

end

section
/-! PROOFS. The crossfade mixer: the weights of a fade and their sums (R119 to R121), the mix and its saturation (R122, R123), and
the stored word by its position against the transition (R117). -/

namespace Sys2Proof.Machine

/-! ### The weights of a fade (R119, R120) -/

/-- A fade length that divides 16384 gives step `k` an odd multiple of the weight of half a step. -/
theorem linearWeight_eq {len : Nat} (hlen : len ∣ 16384) (k : Nat) : linearWeight len k = (2 * k + 1) * (16384 / len) :=
  Nat.mul_div_assoc _ hlen

theorem linearWeight_mul {len : Nat} (hlen : len ∣ 16384) (k : Nat) : linearWeight len k * len = (2 * k + 1) * 16384 :=
  Nat.div_mul_cancel (hlen.mul_left _)

theorem le_linearWeight {len : Nat} (hlen : len ∣ 16384) (k : Nat) : 16384 / len ≤ linearWeight len k := by
  rw [linearWeight_eq hlen]
  exact Nat.le_mul_of_pos_left _ (by omega)

theorem linearWeight_le {len k : Nat} (hlen : len ∣ 16384) (hk : k < len) : linearWeight len k ≤ 32768 - 16384 / len := by
  have hsteps : (2 * k + 2) * (16384 / len) ≤ 2 * len * (16384 / len) := Nat.mul_le_mul_right _ (by omega)
  have hwhole : len * (16384 / len) = 16384 := Nat.mul_div_cancel' hlen
  rw [linearWeight_eq hlen]
  lia

theorem fadeIn_add_fadeOut_linear {x : Nat} (hx : x ≤ 32768) : fadeIn .linear x + fadeOut .linear x = 32768 :=
  Nat.add_sub_cancel' hx

/-- The POWER fade-in lies above the linear one by the bulge x·(32768 − x) / 32768. -/
theorem fadeIn_power {x : Nat} (hx : x ≤ 32768) : fadeIn .power x = x + x * (32768 - x) / 32768 := by
  have hsplit : x * (65536 - x) = x * (32768 - x) + 32768 * x := by
    rw [show 65536 - x = (32768 - x) + 32768 by omega]
    ring
  simp only [fadeIn]
  omega

/-- The POWER fade-out lies above the linear one by the same bulge. -/
theorem fadeOut_power (x : Nat) : fadeOut .power x = (32768 - x) + x * (32768 - x) / 32768 := by
  have hsplit : (32768 - x) * (32768 + x) = x * (32768 - x) + 32768 * (32768 - x) := by ring
  simp only [fadeOut]
  omega

/-- POWER weights sum to the linear sum and twice the bulge, which is greatest in the middle of the fade. -/
theorem fadeIn_add_fadeOut_power_le {x : Nat} (hx : x ≤ 32768) : fadeIn .power x + fadeOut .power x ≤ 49152 := by
  obtain ⟨y, hy⟩ := Nat.exists_eq_add_of_le hx
  have hbulge : x * (32768 - x) ≤ 16384 * 16384 := by
    rw [show 32768 - x = y by omega]
    nlinarith only [hy, four_mul_le_sq_add x y]
  rw [fadeIn_power hx, fadeOut_power]
  omega

/-- Two from either end of the range the bulge is at least 1. -/
theorem lt_fadeIn_add_fadeOut_power {x : Nat} (hlow : 2 ≤ x) (hhigh : x ≤ 32766) :
    32768 < fadeIn .power x + fadeOut .power x := by
  have hbulge : 2 * 32766 ≤ x * (32768 - x) := by
    obtain ⟨y, hy⟩ := Nat.exists_eq_add_of_le hlow
    obtain ⟨z, hz⟩ := Nat.exists_eq_add_of_le hhigh
    rw [show 32768 - x = z + 2 by omega, hy]
    nlinarith only [hy, hz]
  rw [fadeIn_power (by omega), fadeOut_power]
  omega

/-! ### The mix (R122, R123) -/

/-- Weights that sum to 32768 mix two samples to a value between them. -/
theorem mixRaw_between (new old : Word) {wNew wOld : Nat} (hw : wNew + wOld = 32768) :
    min new.toInt old.toInt ≤ mixRaw new old wNew wOld ∧ mixRaw new old wNew wOld ≤ max new.toInt old.toInt := by
  have hsum : (wNew : Int) + wOld = 32768 := by exact_mod_cast hw
  have hnew : (0 : Int) ≤ wNew := wNew.cast_nonneg
  have hold : (0 : Int) ≤ wOld := wOld.cast_nonneg
  constructor
  · have h1 := mul_le_mul_of_nonneg_right (min_le_left new.toInt old.toInt) hnew
    have h2 := mul_le_mul_of_nonneg_right (min_le_right new.toInt old.toInt) hold
    have hmin : min new.toInt old.toInt * 32768 ≤ new.toInt * wNew + old.toInt * wOld := by
      rw [← hsum, mul_add]
      exact add_le_add h1 h2
    rw [mixRaw]
    omega
  · have h1 := mul_le_mul_of_nonneg_right (le_max_left new.toInt old.toInt) hnew
    have h2 := mul_le_mul_of_nonneg_right (le_max_right new.toInt old.toInt) hold
    have hmax : new.toInt * wNew + old.toInt * wOld ≤ max new.toInt old.toInt * 32768 := by
      rw [← hsum, mul_add]
      exact add_le_add h1 h2
    rw [mixRaw]
    omega

theorem saturate_eq (r : Int) : saturate r = max (-32768) (min 32767 r) := by
  unfold saturate
  omega

theorem Stored.ofMix_toInt (new old : Word) (wNew wOld : Nat) :
    (Stored.ofMix new old wNew wOld).word.toInt = max (-32768) (min 32767 (mixRaw new old wNew wOld)) := by
  rw [← saturate_eq]
  exact Word.toInt_ofInt_of_bounds (by rw [saturate_eq]; omega) (by rw [saturate_eq]; omega)

theorem Stored.ofMix_saturated (new old : Word) (wNew wOld : Nat) :
    (Stored.ofMix new old wNew wOld).saturated = true ↔
      mixRaw new old wNew wOld < -32768 ∨ 32767 < mixRaw new old wNew wOld := by
  simp [Stored.ofMix]

theorem Stored.ofMix_not_saturated (new old : Word) {wNew wOld : Nat} (hw : wNew + wOld = 32768) :
    (Stored.ofMix new old wNew wOld).saturated = false := by
  obtain ⟨hlow, hhigh⟩ := mixRaw_between new old hw
  obtain ⟨hnew, hnew'⟩ := Word.toInt_bounds new
  obtain ⟨hold, hold'⟩ := Word.toInt_bounds old
  rw [← Bool.not_eq_true, Stored.ofMix_saturated]
  omega

/-! ### The stored word by position (R117) -/

theorem fadeIn_eq_ite (shape : Shape) (x : Nat) :
    fadeIn shape x = if shape = .linear then x else x * (65536 - x) / 32768 := by
  cases shape <;> rfl

theorem fadeOut_eq_ite (shape : Shape) (x : Nat) :
    fadeOut shape x = if shape = .linear then 32768 - x else (32768 - x) * (32768 + x) / 32768 := by
  cases shape <;> rfl

theorem Transition.newWeight_eq_ite (t : Transition) (k : Nat) :
    t.newWeight k =
      if t.kind = .punchIn then fadeIn t.shape (linearWeight t.len k) else fadeOut t.shape (linearWeight t.len k) := by
  unfold Transition.newWeight
  cases t.kind <;> rfl

theorem Transition.oldWeight_eq_ite (t : Transition) (k : Nat) :
    t.oldWeight k =
      if t.kind = .punchIn then fadeOut t.shape (linearWeight t.len k) else fadeIn t.shape (linearWeight t.len k) := by
  unfold Transition.oldWeight
  cases t.kind <;> rfl

section
variable {t : Transition} {q : Nat}

theorem storedWord_before (hq : q < t.pos) (punch : Punch) (new old : Word) :
    storedWord punch (some t) q new old = if t.prior = .outside then Stored.ofOld old else Stored.ofNew new := if_pos hq

theorem storedWord_within (hlow : t.pos ≤ q) (hhigh : q < t.pos + t.len) (punch : Punch) (new old : Word) :
    storedWord punch (some t) q new old =
      Stored.ofMix new old (t.newWeight (q - t.pos)) (t.oldWeight (q - t.pos)) :=
  (if_neg hlow.not_gt).trans (if_pos hhigh)

theorem storedWord_after (hq : t.pos + t.len ≤ q) (punch : Punch) (new old : Word) :
    storedWord punch (some t) q new old = if t.kind = .punchIn then Stored.ofNew new else Stored.ofOld old := by
  have hpos : ¬q < t.pos := by omega
  simp only [storedWord, if_neg hpos, if_neg hq.not_gt]
  cases t.kind <;> rfl

end

end Sys2Proof.Machine
end

section
/-! PROOFS. The obligations on the crossfade, settled. -/

open Sys2Proof Sys2Proof.Machine

/-- Settles O49: a fade length divides 2048, so the weights stay 8 from either end of the range; and a LINEAR blend's weights sum
to 32768. -/
theorem fadeWeightsAndBlend : Obligations.FadeWeightsAndBlend := by
  refine ⟨fun e k _ he hk => ?_, fun new old w hw => ?_⟩
  · have hlen : 2 ^ e ∣ 16384 := pow_dvd_pow 2 (by omega : e ≤ 14)
    have hhalf : 8 ≤ 16384 / 2 ^ e :=
      Nat.div_le_div_left (a := 16384) (Nat.pow_le_pow_right (by decide) he) (Nat.two_pow_pos e)
    have hlow := le_linearWeight hlen k
    have hhigh := linearWeight_le hlen hk
    have hrange : linearWeight (2 ^ e) k ≤ 32768 := by omega
    exact ⟨linearWeight_mul hlen k, hlow, hhigh, fadeIn_add_fadeOut_linear hrange, fadeIn_add_fadeOut_power_le hrange,
      lt_fadeIn_add_fadeOut_power (by omega) (by omega)⟩
  · have hsum := Nat.add_sub_cancel' hw
    obtain ⟨hlow, hhigh⟩ := mixRaw_between new old hsum
    exact ⟨hlow, hhigh, Stored.ofMix_not_saturated new old hsum⟩

/-- Settles O50: the position is before, within or after the fade, and the mixer's weights are read off the transition's kind and
shape. -/
theorem storedWordByPosition : Obligations.StoredWordByPosition := by
  intro punch t q new old isOld isNew
  have hold : isOld (Stored.ofOld old) := ⟨rfl, rfl, rfl⟩
  have hnew : isNew (Stored.ofNew new) := ⟨rfl, rfl, rfl⟩
  refine ⟨hold, fun hq hp => ?_, fun hq hp => ?_, fun hq hk => ?_, fun hq hk => ?_, fun hlow hhigh => ?_⟩
  · rwa [storedWord_before hq, if_pos hp]
  · rwa [storedWord_before hq, hp]
  · rwa [storedWord_after hq, if_pos hk]
  · rwa [storedWord_after hq, hk]
  · intro x up down wNew wOld r
    have hwNew : t.newWeight (q - t.pos) = wNew := by
      rw [Transition.newWeight_eq_ite, fadeIn_eq_ite, fadeOut_eq_ite]
      rfl
    have hwOld : t.oldWeight (q - t.pos) = wOld := by
      rw [Transition.oldWeight_eq_ite, fadeIn_eq_ite, fadeOut_eq_ite]
      rfl
    rw [storedWord_within hlow hhigh, hwNew, hwOld]
    exact ⟨Stored.ofMix_toInt new old wNew wOld, rfl, rfl, Stored.ofMix_saturated new old wNew wOld⟩

end

section
/-! PROOFS. Copy control's captures (R131 to R133, R139 to R142): the permission derived afresh, the analog status and a
protected range taken, the seal, and a write of the control area that copy control captures. -/

namespace Sys2Proof.Machine

/-! ### The permission derived afresh (R131 to R133) -/

theorem inputOf_parts (v : Word) :
    (inputOf v).format.toNat = v.toNat % 4 ∧ (inputOf v).permitted = decide (v.toNat / 4 % 2 = 1) ∧
    (inputOf v).isCopy = decide (v.toNat / 8 % 2 = 1) ∧ (inputOf v).category = decide (v.toNat / 16 % 2 = 1) := by
  simp [inputOf, BitVec.getLsbD, Nat.testBit_eq_decide_div_mod_eq]

/-- The order of R132, the format taken as a number. -/
theorem derivedOf_eq (i : InputStatus) (x : CopyStatus) : derivedOf i x =
    if i.format.toNat = 0 then .free
    else if i.format.toNat = 2 then x
    else if i.format.toNat = 1 then
      if i.permitted then .free else if i.isCopy = false ∧ i.category = true then .once else .none
    else .none := by
  simp [derivedOf, ← BitVec.toNat_inj]

/-- The analog status governs the permission while the format is analog, and only then (R132). -/
theorem derivedOf_analog (i : InputStatus) (x y : CopyStatus) :
    derivedOf i x = if i.format = 2 then x else derivedOf i y := by
  unfold derivedOf
  by_cases h : i.format = 2
  · simp [h]
  · simp only [if_neg h]

/-- Copy control with input status `i` and analog status `a` captured (R131, R139). -/
def State.capturing (s : State) (i : InputStatus) (a : CopyStatus) : State :=
  s.modCopy fun c => { c with input := i, analog := a }

/-- Between `s` and `t` the input status `i` and the analog status `a` are captured and the permission is derived afresh: a
stricter one governs the recording at once, the output status follows where the input is monitored, and a change of it is
reported and raised; nothing else is (R131 to R133, R137). -/
structure State.DerivedAfresh (s : State) (i : InputStatus) (a : CopyStatus) (t : State) : Prop where
  input : t.copy.input = i
  analog : t.copy.analog = a
  derived : t.copy.derived = derivedOf i a
  recording : t.copy.recording =
    if t.copy.derived ≠ s.copy.derived ∧ s.copy.recording.code < t.copy.derived.code then t.copy.derived
    else s.copy.recording
  output : t.copy.output =
    if t.copy.derived ≠ s.copy.derived ∧ s.mon.effective = .input then t.copy.derived else s.copy.output
  rest : t.copy = { s.copy with
    input := t.copy.input, analog := t.copy.analog, derived := t.copy.derived, recording := t.copy.recording,
    output := t.copy.output }
  changed : t.copy.derived ≠ s.copy.derived → t.isSet .inputChanged = true ∧ t.rep.marks.copy = true
  same : t.copy.derived = s.copy.derived → t.rep = s.rep

theorem State.updateOutput_copy (s : State) : s.updateOutput.copy = { s.copy with output := s.outputTarget } := by
  unfold State.updateOutput
  split
  · next h => rw [h]
  · rfl

theorem State.outputTarget_input {s : State} (h : s.mon.effective = .input) : s.outputTarget = s.copy.derived := by
  simp only [State.outputTarget, h]

/-- Copy control once the permission has changed to `d`, before the change is reported (R133, R137). -/
def State.permissionChanged (s : State) (d : CopyStatus) : State :=
  let u := s.modCopy fun c => { c with derived := d, recording := stricter c.recording d }
  if s.mon.effective = .input then u.updateOutput else u

theorem State.permissionChanged_copy (s : State) (d : CopyStatus) : (s.permissionChanged d).copy = { s.copy with
    derived := d, recording := stricter s.copy.recording d
    output := if s.mon.effective = .input then d else s.copy.output } := by
  unfold State.permissionChanged
  dsimp only
  split
  · next h => rw [State.updateOutput_copy, State.outputTarget_input (by simpa using h)]; rfl
  · rfl

theorem State.rederive_derives (s : State) (i : InputStatus) (a : CopyStatus) :
    s.DerivedAfresh i a (s.capturing i a).rederive := by
  by_cases h : derivedOf i a = s.copy.derived
  · have e : (s.capturing i a).rederive = s.capturing i a := if_pos h
    rw [e]
    exact ⟨rfl, rfl, h.symm, (if_neg fun hn => hn.1 rfl).symm, (if_neg fun hn => hn.1 rfl).symm, rfl,
      fun hne => absurd rfl hne, fun _ => rfl⟩
  · have e : (s.capturing i a).rederive =
        ((s.capturing i a).permissionChanged (derivedOf i a)).markCopy.raise .inputChanged := if_neg h
    have hc : (s.capturing i a).rederive.copy = { s.copy with
        input := i, analog := a, derived := derivedOf i a, recording := stricter s.copy.recording (derivedOf i a)
        output := if s.mon.effective = .input then derivedOf i a else s.copy.output } :=
      (congrArg State.copy e).trans ((s.capturing i a).permissionChanged_copy _)
    have hd : (s.capturing i a).rederive.copy.derived = derivedOf i a := by rw [hc]
    refine ⟨by rw [hc], by rw [hc], hd, ?_, ?_, by rw [hc], fun _ => by simp [e],
      fun hsame => absurd (hd.symm.trans hsame) h⟩
    · simp [hc, h, stricter]
    · simp [hc, h]

theorem State.captureInput_derives (s : State) (v : Word) :
    s.DerivedAfresh (inputOf v) s.copy.analog (s.captureInput v) :=
  s.rederive_derives (inputOf v) s.copy.analog

/-! ### What the captures take (R139, R140) -/

theorem State.captureAnalog_derives (s : State) {v : Word} (h : v.toNat ≤ 1) : s.DerivedAfresh s.copy.input
    (if v = 0 then .free else if v = 1 then .once else s.copy.analog) (s.captureAnalog v) := by
  have hv : v = 0 ∨ v = 1 := by bv_omega
  obtain rfl | rfl := hv
  · exact s.rederive_derives s.copy.input .free
  · exact s.rederive_derives s.copy.input .once

theorem State.captureAnalog_refused {s : State} {v : Word} (h : 1 < v.toNat) :
    s.captureAnalog v = s.raise .configInvalid := by
  rw [State.captureAnalog, if_neg (by rintro rfl; simp at h), if_neg (by rintro rfl; simp at h)]

/-- A capture moves the one field that its word holds a part of (R140, R175). -/
theorem Range.capture_eq (r : Range) (j : Fin 5) (v : Word) : r.capture j v = { r with
    start := if j = 0 then 65536 * (v.toNat % 16) + r.start % 65536
      else if j = 1 then 65536 * (r.start / 65536) + v.toNat else r.start
    stop := if j = 2 then 65536 * (v.toNat % 16) + r.stop % 65536
      else if j = 3 then 65536 * (r.stop / 65536) + v.toNat else r.stop
    enable := if j = 4 then decide (v.toNat % 2 = 1) else r.enable } := by
  match j with
  | 0 | 2 => rfl
  | 1 | 3 => simp [Range.capture, Nat.mul_comm]
  | 4 => simp [Range.capture, BitVec.getLsbD, Nat.testBit_eq_decide_div_mod_eq]

theorem Range.heldDisabled_iff (r : Range) : r.heldDisabled = true ↔ r.enable = true ∧ r.stop < r.start := by
  simp [Range.heldDisabled]

theorem Range.heldDisabled_eq_false (r : Range) : r.heldDisabled = false ↔ r.enable = false ∨ r.start ≤ r.stop := by
  cases h : r.enable <;> simp [Range.heldDisabled, h]

/-- Word `1 + 5 n + j` of the policy record is field `j` of range `n` (R175). -/
theorem State.capturePolicy_range {s : State} {k : Fin 21} {n : Fin 4} {j : Fin 5} (h : k.val = 1 + 5 * n.val + j.val)
    (v : Word) : s.capturePolicy k v = s.captureRange n j v := by
  have hn : (⟨(k.val - 1) / 5, by omega⟩ : Fin 4) = n := Fin.ext (by dsimp only; omega)
  have hj : (k.val - 1) % 5 = j.val := by omega
  rw [State.capturePolicy, if_neg (by omega), hn, hj]

/-- A range taken is judged, and one held disabled is reported (R140). -/
theorem State.captureRange_judged (s : State) (n : Fin 4) (j : Nat) (v : Word) :
    let x := (s.copy.ranges[n].capture j v).judge
    (s.captureRange n j v).copy = { s.copy with ranges := vset s.copy.ranges n x } ∧
    (x.heldDisabled = true → (s.captureRange n j v).rep.isSet .configInvalid = true) ∧
    (x.heldDisabled = false → (s.captureRange n j v).rep = s.rep) := by
  refine ⟨by simp [State.captureRange], fun h => ?_, fun h => ?_⟩
  · rw [State.captureRange, State.raiseIf_isSet, h]
    simp
  · rw [State.captureRange, h]
    rfl

/-! ### The seal (R141) -/

theorem State.seal_first {s : State} (h : s.copy.sealed = false) :
    (∀ n : Fin 4, s.seal.copy.ranges[n] = { s.copy.ranges[n] with enable := s.copy.ranges[n].active }) ∧
    s.seal.rep = { s.rep with backPolicy := true, marks := { s.rep.marks with copy := true } } := by
  have e : s.seal = _ := if_neg (Bool.eq_false_iff.mp h)
  rw [e]
  exact ⟨vimap_getElem _ _, rfl⟩

theorem ReportUnit.touched_of_copy {q p : ReportUnit} (h : q.marks.copy = true) : q.touched p = true := by
  simp [ReportUnit.touched, Marks.any, h]

/-! ### A write passed and captured (R147) -/

/-- A passed write of the control area whose capture is copy control's. -/
theorem State.passWord_captured {s u : State} {off : Nat} {v : Word} (hwf : s.mem.wf = true) (hoff : off < 4096)
    (hu : (s.freshAccesses.passWord (ctlBus off) v).sameBut [.copy, .rep] u) (w : WaitCounts) :
    (u.withCounts w).bus.treatment = .passed ∧ (u.withCounts w).peek (0x7F000 + off) = v ∧
      s.memSameBut [0x7F000 + off] (u.withCounts w) ∧ s.sameBut [.port, .copy, .rep, .mem] (u.withCounts w) := by
  obtain ⟨-, -, hword, hmem, hframe⟩ := State.passWord_passed hwf (ctlBus off) v w
  rw [ctlBus_toNat hoff] at hword hmem
  have hpeek := State.peek_congr (t := u.withCounts w) (hu .mem (by simp) : u.mem = _)
  obtain ⟨-, -, htreat, -⟩ := hu .port (by simp)
  refine ⟨htreat, (hpeek _).trans hword, fun a ha hn => (hpeek a).trans (hmem a ha hn), ?_⟩
  have hz : s.sameBut [.port, .mem] (s.freshAccesses.passWord (ctlBus off) v) := by
    simp [State.sameBut_iff, State.agree, State.passWord]
  exact ((hz.trans hu).narrow (by simp)).withCounts (by simp) w

theorem controlWord_policy (k : Fin 21) : controlWord (0x030 + k.val) = .policy k := by
  revert k
  decide

theorem State.exec_inputStatusWrite {s : State} (h : s.portFree) (v : Word) :
    ∃ w, exec (.inputStatusWrite v) s =
      .next (((s.freshAccesses.passWord (ctlBus 0x028) v).captureInput v).withCounts w) := by
  have hserve : s.freshAccesses.controlWrite (ctlBus 0x028) v =
      (s.freshAccesses.passWord (ctlBus 0x028) v).captureInput v := by
    rw [State.controlWrite, ctlOffset_ctlBus (by decide)]
    rfl
  obtain ⟨w, hw⟩ := State.upWrite_control (v := v) h (by decide : 0x028 < 4096) (by simp [hserve, h.2.1])
  rw [hserve] at hw
  exact ⟨w, congrArg Host.Outcome.next hw⟩

theorem State.exec_policyRecordWrite {s : State} (h : s.portFree) (k : Fin 21) (v : Word) :
    ∃ w, exec (.policyRecordWrite k v) s = .next ((if s.copy.sealed then s.freshAccesses.dropWith .sealWrite
      else (s.freshAccesses.passWord (ctlBus (0x030 + k.val)) v).capturePolicy k v).withCounts w) := by
  have hoff : 0x030 + k.val < 4096 := by omega
  have hserve : s.freshAccesses.controlWrite (ctlBus (0x030 + k.val)) v =
      if s.copy.sealed then s.freshAccesses.dropWith .sealWrite
      else (s.freshAccesses.passWord (ctlBus (0x030 + k.val)) v).capturePolicy k v := by
    rw [State.controlWrite, ctlOffset_ctlBus hoff, controlWord_policy]
    rfl
  have hheld : (s.freshAccesses.controlWrite (ctlBus (0x030 + k.val)) v).bus.held = none := by simp [h.2.1]
  obtain ⟨w, hw⟩ := State.upWrite_control (v := v) h hoff hheld
  rw [hserve] at hw
  exact ⟨w, congrArg Host.Outcome.next hw⟩

end Sys2Proof.Machine
end

section
/-! PROOFS. Report passes (R168, R170, R171): the status records' words against the fields of R175, what a pass that begins
holds, and its end. -/

namespace Sys2Proof.Machine

/-! ### Words of fields (R175) -/

theorem flagWord_eq (b : Bool) : flagWord b = word (flagBit b) := by cases b <;> rfl

theorem optWord_eq (o : Option Nat) : optWord o = word (orAbsent o) := by cases o <;> rfl

theorem posWords_eq (o : Option Nat) : posWords o = (positionFields o).map word := by
  simp only [posWords, optWord_eq]
  rfl

/-- Fields at their offsets, as the writes of a pass (R171). -/
def fieldWrites (fs : List (Nat × Nat)) : List RepWrite := fs.map fun x => .word x.1 (word x.2)

theorem fieldWrites_append (fs gs : List (Nat × Nat)) : fieldWrites (fs ++ gs) = fieldWrites fs ++ fieldWrites gs :=
  List.map_append

theorem fieldWrites_ite (b : Bool) (fs : List (Nat × Nat)) :
    fieldWrites (if b then fs else []) = if b then fieldWrites fs else [] := by
  cases b <;> rfl

theorem asWrites_append (xs ys : List (Nat × Word)) : asWrites (xs ++ ys) = asWrites xs ++ asWrites ys :=
  List.map_append

theorem asWrites_wordsAt (off : Nat) (ns : List Nat) :
    asWrites (wordsAt off (ns.map word)) = fieldWrites (ns.mapIdx fun n v => (off + n, v)) := by
  simp [asWrites, fieldWrites, wordsAt, List.mapIdx_eq_zipIdx_map, List.zipIdx_map, Function.comp_def]

theorem mapIdx_finRange {n : Nat} (off : Nat) (f : Fin n → Nat) :
    ((List.finRange n).map f).mapIdx (fun k v => (off + k, v)) = (List.finRange n).map fun i => (off + i.val, f i) := by
  apply List.ext_getElem <;> simp

theorem slotNumbers_eq : slotNumbers = List.finRange 4 := by decide

theorem asWrites_recordWords (s : State) : asWrites s.recordWords = fieldWrites s.recordFields := by
  simp only [State.recordWords, flagWord_eq, slotNumbers_eq]
  rfl

theorem asWrites_playbackHead (s : State) : asWrites s.playbackHead ++
    slotNumbers.map (fun k => .word (tapeEntry k) (word s.tape.slots[k].state.code)) = fieldWrites s.playbackFields := by
  rw [State.playbackFields, fieldWrites_append, slotNumbers_eq]
  refine congrArg₂ (· ++ ·) ?_ ?_
  · simp [State.playbackHead, asWrites, wordsAt, fieldWrites, flagWord_eq, queueWord, optWord_eq, hiWord, loWord,
      Assembler.windowSum]
  · rw [fieldWrites, List.map_map]
    rfl

theorem asWrites_editWords (s : State) : asWrites s.editWords = fieldWrites s.editFields := by
  simp only [State.editWords, State.editFields, optWord_eq, posWords_eq, asWrites_append, fieldWrites_append]
  refine congrArg₂ (· ++ ·) ?_ ?_
  · refine .trans ?_ (asWrites_wordsAt _ _)
    rfl
  · simp only [asWrites, fieldWrites, List.map_flatMap]
    refine List.flatMap_congr fun h _ => .trans ?_ (asWrites_wordsAt _ _)
    rfl

theorem asWrites_copyWords (s : State) : asWrites s.copyWords = fieldWrites s.copyFields := by
  simp only [State.copyWords, flagWord_eq]
  rfl

theorem asWrites_counterWords (s : State) : asWrites s.counterWords = fieldWrites s.counterFields := by
  rw [State.counterWords, asWrites_wordsAt, toList_finRange, mapIdx_finRange, State.counterFields]

theorem asWrites_policyWords (s : State) : asWrites s.copy.policyWords = fieldWrites s.policyFields := by
  simp only [CopyControl.policyWords, toList_finRange, List.flatMap_map, Range.words, flagWord_eq]
  simp [asWrites, wordsAt, List.finRange_succ, fieldWrites, State.policyFields, hiWord, loWord]

/-! ### What a pass that begins holds (R168) -/

/-- The 21 evaluation words of each slot (R171). -/
def evalWrites : List RepWrite := slotNumbers.flatMap fun k => (List.range 21).map fun n => .evalWord k n

/-- The settings whose write-back is due (R164). -/
def State.settingWrites (s : State) : List RepWrite :=
  (settingNumbers.filter fun k => s.rep.backSettings[k]).map .setting

theorem State.playbackWrites_perm (s : State) : s.playbackWrites.Perm (fieldWrites s.playbackFields ++ evalWrites) := by
  rw [← asWrites_playbackHead, List.append_assoc]
  exact .append_left _ (List.map_append_flatMap_perm _ _ _).symm

/-- Step 1 of a pass: the marked records and the write-backs due (R168). -/
def State.recordWrites (s : State) : List RepWrite :=
  (if s.rep.marks.record then asWrites s.recordWords else []) ++
  (if s.rep.marks.playback then s.playbackWrites else []) ++
  (if s.rep.marks.edit then asWrites s.editWords else []) ++
  (if s.rep.marks.copy then asWrites s.copyWords else []) ++
  (if s.rep.marks.counters then asWrites s.counterWords else []) ++ s.settingWrites ++
  (if s.rep.backPolicy then asWrites s.copy.policyWords else [])

/-- Step 2 of a pass: the cause words (R168, R169). -/
def State.causeWrites (s : State) : List RepWrite :=
  (groups.filter s.rep.causeWork).map fun g => .cause g (s.rep.raisedIn g)

theorem State.passWrites_eq (s : State) : s.passWrites = s.recordWrites ++ s.causeWrites ++ [.summary] := rfl

theorem State.causeWrites_eq (s : State) : s.causeWrites =
    ((List.finRange 6).filter fun g : Fin 6 => s.rep.raised[g] != 0 || s.rep.causeMarks[g]).map
      (fun g : Fin 6 => RepWrite.cause g (s.rep.raised[g])) := rfl

/-- Step 1 of a pass writes, each once, the due fields, the evaluation words of a marked playback record and the settings due
(R141, R164, R168, R171). -/
theorem State.recordWrites_perm (s : State) : s.recordWrites.Perm
    (fieldWrites s.dueFields ++ (if s.rep.marks.playback then evalWrites else []) ++ s.settingWrites) := by
  have hplay : (if s.rep.marks.playback then s.playbackWrites else []).Perm
      ((if s.rep.marks.playback then fieldWrites s.playbackFields else []) ++
        if s.rep.marks.playback then evalWrites else []) := by
    split
    · exact s.playbackWrites_perm
    · exact .refl _
  rw [← Multiset.coe_eq_coe] at hplay ⊢
  simp only [State.recordWrites, State.dueFields, fieldWrites_append, fieldWrites_ite, asWrites_recordWords,
    asWrites_editWords, asWrites_copyWords, asWrites_counterWords, asWrites_policyWords, ← Multiset.coe_add] at hplay ⊢
  rw [hplay]
  abel

/-- The members of step 1 of a pass, by their form (R164, R168, R171). -/
theorem State.mem_recordWrites (s : State) (x : RepWrite) : x ∈ s.recordWrites ↔
    (∃ off n, (off, n) ∈ s.dueFields ∧ x = .word off (word n)) ∨
    (s.rep.marks.playback = true ∧ ∃ n k, k < 21 ∧ x = .evalWord n k) ∨
    ∃ k : Fin 7, s.rep.backSettings[k] = true ∧ x = .setting k := by
  have hfield : x ∈ fieldWrites s.dueFields ↔ ∃ off n, (off, n) ∈ s.dueFields ∧ x = .word off (word n) := by
    simp [fieldWrites, eq_comm]
  have heval : x ∈ evalWrites ↔ ∃ n k, k < 21 ∧ x = .evalWord n k := by
    simp only [evalWrites, slotNumbers_eq, List.mem_flatMap, List.mem_map, List.mem_range, List.mem_finRange, true_and,
      eq_comm]
  have hsetting : x ∈ s.settingWrites ↔ ∃ k : Fin 7, s.rep.backSettings[k] = true ∧ x = .setting k := by
    have hall : ∀ k : Fin 7, k ∈ settingNumbers := by decide
    simp only [State.settingWrites, List.mem_map, List.mem_filter, hall, true_and, eq_comm]
  rw [s.recordWrites_perm.mem_iff, List.mem_append, List.mem_append, List.mem_ite_nil_right, hfield, heval, hsetting,
    or_assoc]

theorem State.settingWrites_length (s : State) : s.settingWrites.length = s.rep.backSettings.toList.countP id := by
  rw [State.settingWrites, List.length_map, ← List.countP_eq_length_filter, toList_finRange, List.countP_map]
  rfl

/-- Each write of step 1 of a pass is made once (R168). -/
theorem State.recordWrites_length (s : State) : s.recordWrites.length =
    s.dueFields.length + (if s.rep.marks.playback then 84 else 0) + s.rep.backSettings.toList.countP id := by
  have heval : evalWrites.length = 84 := rfl
  rw [s.recordWrites_perm.length_eq, List.length_append, List.length_append, s.settingWrites_length, apply_ite List.length,
    heval, fieldWrites, List.length_map, List.length_nil]

/-! ### The pass begun and ended (R168) -/

section
variable {s : State} (hop : s.bus.op = .running) (hn : s.noneHeld)
include hop hn

theorem State.exec_reportPassBegin (hp : s.rep.pass = none) (hw : s.rep.hasWork = true) (hc : s.cmd.wanting = false) :
    ∃ w, exec .reportPassBegin s =
      .next ((s.beginPass.modCmd fun c => { c with phase := c.phase.passBegun }).withCounts w) := by
  have hdue : s.passDue = true := by simp [State.passDue, hop, hp, hw, hc]
  obtain ⟨w, hs⟩ := State.settle_counts (u := s.beginPass.modCmd fun c => { c with phase := c.phase.passBegun }) hn
  exact ⟨w, congrArg Host.Outcome.next ((if_pos hdue).trans hs)⟩

theorem State.exec_reportPassEnd
    (hp : s.rep.pass = some [] ∨ (s.rep.pass = some [.summary] ∧ s.rep.summary = s.rep.lastSummary)) :
    ∃ w, exec .reportPassEnd s =
      .next ((s.endPass.modCmd fun c => { c with phase := c.phase.passEnded }).withCounts w) := by
  have hover : s.passOver = true := by
    obtain hp | ⟨hp, hs⟩ := hp
    · simp [State.passOver, ReportUnit.passWanting, hop, hp]
    · simp [State.passOver, ReportUnit.passWanting, hop, hp, hs]
  obtain ⟨w, hs⟩ := State.settle_counts (u := s.endPass.modCmd fun c => { c with phase := c.phase.passEnded }) hn
  exact ⟨w, congrArg Host.Outcome.next ((if_pos hover).trans hs)⟩

end

theorem ReportUnit.alertDue_iff (r : ReportUnit) :
    r.alertDue = true ↔ ∃ n : Fin 6, r.posted[n] &&& r.masks[n] ≠ 0 := by
  simp [ReportUnit.alertDue, mem_groups]

theorem CmdPhase.passEnded_other {p : CmdPhase} (h : ∀ k r, p ≠ .inPass k r) : p.passEnded = p := by
  cases p with
  | inPass k r => exact absurd rfl (h k r)
  | _ => rfl

end Sys2Proof.Machine
end

section
/-! PROOFS. The obligations on copy control's captures and on report passes, settled. -/

open Sys2Proof Sys2Proof.Machine

/-- Settles O51: the write is passed, and the permission derived afresh from the captured input status. -/
theorem inputStatusWriteDerives : Obligations.InputStatusWriteDerives := by
  intro s v hwf hport n d
  obtain ⟨w, hw⟩ := State.exec_inputStatusWrite hport v
  have h := (s.freshAccesses.passWord (ctlBus 0x028) v).captureInput_derives v
  obtain ⟨hpass, hword, hmem, hframe⟩ := State.passWord_captured (v := v) hwf (by decide : 0x028 < 4096)
    (u := (s.freshAccesses.passWord (ctlBus 0x028) v).captureInput v) (by simp [State.sameBut_iff, State.agree]) w
  obtain ⟨hformat, hpermitted, hcopy, hcategory⟩ := inputOf_parts v
  have hd : ((s.freshAccesses.passWord (ctlBus 0x028) v).captureInput v).copy.derived = d := by
    rw [h.derived]
    simp [derivedOf_eq, hformat, hpermitted, hcopy, hcategory, d, n]
  have hrest := h.rest
  rw [h.analog] at hrest
  obtain ⟨hinput, -, -, hrecording, houtput, -, hchanged, hsame⟩ := h
  rw [hd] at hrecording houtput hchanged hsame
  exact ⟨_, hw, hpass, hword, hmem, (congrArg (fun i : InputStatus => i.format.toNat) hinput).trans hformat,
    (congrArg InputStatus.permitted hinput).trans hpermitted, (congrArg InputStatus.isCopy hinput).trans hcopy,
    (congrArg InputStatus.category hinput).trans hcategory, hd, hrecording, houtput, hchanged, hsame, hrest, hframe⟩

/-- Settles O52: a word of an open policy is captured as the analog status or as a field of a range; POLICY_SEAL's owner is
the seal. -/
theorem policyWriteAndSeal : Obligations.PolicyWriteAndSeal := by
  refine ⟨fun s k v hwf hport => ⟨fun hsealed => ?_, fun hopen => ?_⟩,
    fun s h => ⟨fun hsealed => ?_, fun hopen => ?_⟩⟩
  -- dropped
  · obtain ⟨w, hw⟩ := State.exec_policyRecordWrite hport k v
    rw [if_pos hsealed] at hw
    exact ⟨_, hw, rfl, rfl, by simp [State.dropWith], rfl, by simp [State.sameBut_iff, State.agree]⟩
  -- captured
  · obtain ⟨w, hw⟩ := State.exec_policyRecordWrite hport k v
    rw [if_neg (by simp [hopen])] at hw
    obtain ⟨hpass, hword, hmem, hframe⟩ := State.passWord_captured (off := 0x030 + k.val) (v := v) hwf (by omega)
      (u := (s.freshAccesses.passWord (ctlBus (0x030 + k.val)) v).capturePolicy k v)
      (by simp [State.sameBut_iff, State.agree]) w
    rw [← Nat.add_assoc] at hword hmem
    refine ⟨_, hw, hpass, hword, hmem, fun hk => ?_, fun n j hk => ?_, hframe⟩
    · have hcapture : ∀ z : State, z.capturePolicy k v = z.captureAnalog v := fun z => if_pos hk
      rw [hcapture]
      obtain hv | hv := Nat.lt_or_ge 1 v.toNat
      · have h0 : v ≠ 0 := by rintro rfl; simp at hv
        have h1 : v ≠ 1 := by rintro rfl; simp at hv
        have hne : ¬v.toNat ≤ 1 := hv.not_ge
        rw [State.captureAnalog_refused hv]
        exact ⟨rfl, rfl, ((if_neg h0).trans (if_neg h1)).symm, ((if_neg (hne ·.1)).trans (if_neg hne)).symm,
          (if_neg fun hn => hn.1 rfl).symm, (if_neg fun hn => hn.1 rfl).symm, rfl, fun hn => absurd rfl hn,
          fun hle => absurd hle hne, fun _ => ⟨rfl, by simp, rfl⟩⟩
      · have h := (s.freshAccesses.passWord (ctlBus (0x030 + k.val)) v).captureAnalog_derives hv
        have hrest := h.rest
        rw [h.input] at hrest
        refine ⟨(congrArg CopyControl.ranges h.rest :), h.input, h.analog, ?_, h.recording, h.output, hrest, h.changed,
          fun _ => h.same, fun hgt => absurd hv hgt.not_ge⟩
        refine (h.derived.trans (derivedOf_analog _ _ s.copy.analog)).trans ?_
        rw [← h.analog]
        simp [hv]
    · rw [State.capturePolicy_range hk]
      have hjudged := (s.freshAccesses.passWord (ctlBus (0x030 + k.val)) v).captureRange_judged n j v
      rw [Range.capture_eq] at hjudged
      obtain ⟨hcopy, hset, hrep⟩ := hjudged
      exact ⟨hcopy, fun he hlt => hset ((Range.heldDisabled_iff _).mpr ⟨he, hlt⟩),
        fun hok => hrep ((Range.heldDisabled_eq_false _).mpr hok)⟩
  -- a repeat
  · obtain ⟨t, ht, hrest⟩ := State.command_refused (k := .policySeal) (owner := fun x => (x.seal, .done)) h
      (congrArg (·, Result.done) (if_pos hsealed))
    exact ⟨t, congrArg Host.Outcome.next ht, hrest⟩
  -- the first
  · obtain ⟨hranges, hrep⟩ := State.seal_first (s := s.unmarked) hopen
    obtain ⟨w, hw⟩ := State.command_marked (k := .policySeal) (owner := fun x => (x.seal, .done)) h rfl
      s.unmarked.seal_frame.1 (ReportUnit.touched_of_copy (by rw [hrep]))
    refine ⟨_, congrArg Host.Outcome.next hw, ?_, s.unmarked.seal_copy, hranges, ?_, ?_⟩
    · simp [CommandUnit.takenMarked]
    · simp [hrep, Marks.union, Marks.clear]
    · simp [State.sameBut_iff, State.agree]

/-- Settles O59: up to their order, the writes of a pass's first step are the due fields, the evaluation words and the settings
due, each once. -/
theorem reportPassBeginAndEnd : Obligations.ReportPassBeginAndEnd := by
  refine ⟨fun s hop hn hp hwork hc => ?_, fun s hop hn hp => ?_⟩
  -- the pass begun
  · obtain ⟨w, hw⟩ := State.exec_reportPassBegin hop hn hp hwork hc
    refine ⟨_, hw, s.recordWrites, s.causeWrites, congrArg some s.passWrites_eq, fun off v => ?_, fun n k => ?_,
      fun k => ?_, fun g x => ?_, ?_, s.recordWrites_length, s.causeWrites_eq, rfl, rfl,
      fun k => Vector.getElem_replicate k.isLt, fun g => Vector.getElem_replicate g.isLt, rfl, rfl, fun k r hk => ?_, ?_⟩
    · simp [s.mem_recordWrites]
    · simp [s.mem_recordWrites]
    · simp [s.mem_recordWrites]
    · simp [s.mem_recordWrites]
    · simp [s.mem_recordWrites]
    · simp [hk, CmdPhase.passBegun]
    · simp [State.sameBut_iff, State.agree]
  -- the pass ended
  · obtain ⟨w, hw⟩ := State.exec_reportPassEnd hop hn hp
    refine ⟨_, hw, rfl, (ReportUnit.alertDue_iff _ :), fun k r hk => ?_, fun hk => ?_, ?_⟩
    · simp [hk, CmdPhase.passEnded]
    · simp [CmdPhase.passEnded_other hk]
    · simp [State.sameBut_iff, State.agree]

end

section
/-! PROOFS. An upstream write that its region drops with a cause (R148, R151), and a write of the window table: the judgement
of R150 and what its capture takes (R149, R151). -/

namespace Sys2Proof.Machine

/-! ### Dropped writes (R146, R148) -/

/-- A write has been dropped with cause `c`, at no access of its own and with no other effect (R146, R155). -/
structure State.DroppedWith (s : State) (c : Cause) (t : State) : Prop where
  treatment : t.bus.treatment = .dropped
  accesses : t.bus.accesses = 0
  isSet : t.isSet c = true
  rep : t.rep = (s.raise c).rep
  frame : s.sameBut [.port, .rep] t

theorem State.dropWith_dropped (s : State) (c : Cause) (w : WaitCounts) :
    s.DroppedWith c ((s.freshAccesses.dropWith c).withCounts w) :=
  ⟨rfl, rfl, by simp [State.dropWith], rfl, by simp [State.sameBut_iff, State.agree]⟩

/-- A write whose region drops it: of the record image or of the playback window (R148). -/
theorem State.upWrite_dropped {s : State} (h : s.portFree) {a : BusAddr} {v : Word} {c : Cause}
    (e : s.freshAccesses.serveWrite { write := true, addr := a, data := v } = s.freshAccesses.dropWith c) :
    s.DroppedWith c (s.upWrite a v) := by
  obtain ⟨w, hw⟩ := State.upWrite_served h e (by simp [h.2.1])
  rw [hw]
  exact s.dropWith_dropped c w

/-! ### The judgement of the window table (R150) -/

theorem BusPath.apart_iff (b : BusPath) (m n : Fin 4) :
    b.apart m n = true ↔ b.stop m ≤ b.base n ∨ b.stop n ≤ b.base m := by
  simp [BusPath.apart]

/-- The pairs of entries that the judgement compares. -/
def tablePairs : List (Fin 4 × Fin 4) := [(0, 1), (0, 2), (0, 3), (1, 2), (1, 3), (2, 3)]

theorem mem_tablePairs : ∀ m n : Fin 4, m < n → (m, n) ∈ tablePairs := by decide

theorem ne_of_mem_tablePairs : ∀ p ∈ tablePairs, p.1 ≠ p.2 := by decide

/-- Six comparisons stand for every pair of distinct entries, as overlapping is symmetric. -/
theorem BusPath.apart_all_iff (b : BusPath) : (tablePairs.all fun p => b.apart p.1 p.2) = true ↔
    ∀ m n : Fin 4, m ≠ n → b.stop m ≤ b.base n ∨ b.stop n ≤ b.base m := by
  simp only [List.all_eq_true, BusPath.apart_iff]
  refine ⟨fun h m n hmn => ?_, fun h p hp => h p.1 p.2 (ne_of_mem_tablePairs p hp)⟩
  obtain hl | hl := Fin.lt_or_lt_of_ne hmn
  · exact h (m, n) (mem_tablePairs m n hl)
  · exact (h (n, m) (mem_tablePairs n m hl)).symm

theorem BusPath.judge_eq (b : BusPath) : b.judge =
    ((slotNumbers.all fun k => decide (b.table[k].toNat ≤ 127) && decide (b.stop k ≤ Config.controlBase)) &&
      tablePairs.all fun p => b.apart p.1 p.2) := by
  simp [BusPath.judge, tablePairs, Bool.and_assoc]

/-- The judgement of R150, its pages and extents as numbers. -/
theorem BusPath.judge_iff (b : BusPath) :
    let words : Fin 4 → Nat := fun n => if n.val < 2 then 3072 else 7392
    b.judge = true ↔
      (∀ n : Fin 4, b.table[n].toNat ≤ 127 ∧ 0x1000 * b.table[n].toNat + words n ≤ 0x7F000) ∧
      ∀ m n : Fin 4, m ≠ n → 0x1000 * b.table[m].toNat + words m ≤ 0x1000 * b.table[n].toNat ∨
        0x1000 * b.table[n].toNat + words n ≤ 0x1000 * b.table[m].toNat := by
  intro words
  have hmem : ∀ n : Fin 4, n ∈ slotNumbers := by decide
  have hbase : ∀ n : Fin 4, b.base n = 0x1000 * b.table[n].toNat := fun n => Nat.mul_comm _ _
  have hstop : ∀ n : Fin 4, b.stop n = 0x1000 * b.table[n].toNat + words n := fun n => congrArg (· + words n) (hbase n)
  rw [BusPath.judge_eq, Bool.and_eq_true, BusPath.apart_all_iff]
  simp only [List.all_eq_true, hmem, hbase, hstop, Bool.and_eq_true, decide_eq_true_eq, forall_const, Config.controlBase]

/-! ### The capture of a table word (R149, R151) -/

/-- The bus path with table word `k` taken and the table judged (R149, R150). -/
def BusPath.tableSet (b : BusPath) (k : Fin 4) (v : Word) : BusPath :=
  let x : BusPath := { b with table := vset b.table k v }
  { x with valid := x.judge }

/-- The last half read set to none, or left (R151). -/
def State.forgetHalfIf (s : State) (p : Bool) : State :=
  if p then s.modMon fun m => { m with lastHalf := none } else s

@[simp] theorem State.forgetHalfIf_frame (s : State) (p : Bool) :
    (s.forgetHalfIf p).bus = s.bus ∧ (s.forgetHalfIf p).rep = s.rep ∧
    (s.forgetHalfIf p).mon = if p then { s.mon with lastHalf := none } else s.mon := by
  cases p <;> simp [State.forgetHalfIf]

/-- The capture of a table word by its parts: the word taken and its change reported, the last half read, the cause. -/
theorem State.captureTable_eq (s : State) (k : Fin 4) (v : Word) :
    let b := s.bus.tableSet k v
    s.captureTable k v = (((s.modBus fun _ => b).markPlaybackIf (s.bus.table[k] != v || s.bus.valid != b.valid)).forgetHalfIf
      (b.valid && s.bus.table[k] != v && k == 1)).raiseIf (!b.valid) .configInvalid := rfl

/-- Word `k` of the window table has been captured with value `v`: the table is judged, an invalid one reported, and the last
half read is cleared by a change of the playback window's base that leaves the table valid (R149 to R151). -/
structure State.TableTaken (s : State) (k : Fin 4) (v : Word) (t : State) : Prop where
  table : t.bus.table = vset s.bus.table k v
  valid : t.bus.valid = t.bus.judge
  invalid : t.bus.valid = false → t.rep.isSet .configInvalid = true
  raised : t.bus.valid = true → t.rep.raised = s.rep.raised
  mon : t.mon = if t.bus.valid = true ∧ v ≠ s.bus.table[k] ∧ k = 1 then { s.mon with lastHalf := none } else s.mon

theorem State.captureTable_bus (s : State) (k : Fin 4) (v : Word) : (s.captureTable k v).bus = s.bus.tableSet k v := by
  rw [State.captureTable_eq]
  simp

theorem State.captureTable_taken (s : State) (k : Fin 4) (v : Word) : s.TableTaken k v (s.captureTable k v) := by
  have hbus := s.captureTable_bus k v
  refine ⟨by rw [hbus]; rfl, by rw [hbus]; rfl, fun h => ?_, fun h => ?_, ?_⟩
  · rw [hbus] at h
    simp [State.captureTable_eq, h]
  · rw [hbus] at h
    rw [State.captureTable_eq, h]
    exact (congrArg ReportUnit.raised (State.forgetHalfIf_frame _ _).2.1).trans (State.onlyMarks_markPlaybackIf _ _).flags.1
  · rw [hbus, State.captureTable_eq]
    simp [and_assoc, ne_comm]

/-- What a capture after a passed write takes, seen from the state before the write. -/
theorem State.TableTaken.passed {s t : State} {a : BusAddr} {k : Fin 4} {v : Word}
    (h : (s.freshAccesses.passWord a v).TableTaken k v t) (w : WaitCounts) : s.TableTaken k v (t.withCounts w) := by
  obtain ⟨htable, hvalid, hinvalid, hraised, hmon⟩ := h
  simp only [State.passWord_frame, State.freshAccesses_frame] at htable hraised hmon
  exact ⟨htable, hvalid, hinvalid, hraised, hmon⟩

/-- A table word's write passed to memory and captured: the word, and the parts that stand (R146, R149). -/
theorem State.captureTable_passed {s : State} (hwf : s.mem.wf = true) (k : Fin 4) (v : Word) (w : WaitCounts) :
    let t := ((s.freshAccesses.passWord (ctlBus (0x020 + k.val)) v).captureTable k v).withCounts w
    t.bus.treatment = .passed ∧ t.peek (0x7F020 + k.val) = v ∧ s.memSameBut [0x7F020 + k.val] t ∧
      s.sameBut [.bus, .port, .mon, .rep, .mem] t := by
  have haddr : (ctlBus (0x020 + k.val)).toNat = 0x7F020 + k.val := by
    rw [ctlBus_toNat (by omega), ← Nat.add_assoc]
  obtain ⟨hpass, -, hword, hmem, hframe⟩ := State.passWord_passed hwf (ctlBus (0x020 + k.val)) v w
  rw [haddr] at hword hmem
  generalize s.freshAccesses.passWord (ctlBus (0x020 + k.val)) v = z at *
  have hpeek : ∀ a, ((z.captureTable k v).withCounts w).peek a = (z.withCounts w).peek a := State.peek_congr (by simp)
  have hcapture : (z.withCounts w).sameBut [.bus, .port, .mon, .rep] (z.captureTable k v) := by
    simp [State.sameBut_iff, State.agree]
  refine ⟨by simpa [State.captureTable_bus, BusPath.tableSet] using hpass, (hpeek _).trans hword,
    fun a ha hn => (hpeek a).trans (hmem a ha hn), ((hframe.trans hcapture).narrow (by simp)).withCounts (by simp) w⟩

theorem controlWord_table (k : Fin 4) : controlWord (0x020 + k.val) = .table k := by
  revert k
  decide

/-- A write of a table word is dropped while a job runs, else passed and captured (R149, R151). -/
theorem State.exec_windowTableWrite {s : State} (h : s.portFree) (k : Fin 4) (v : Word) :
    ∃ w, exec (.windowTableWrite k v) s = .next ((if s.coder.job = .idle ∧ s.tape.run = .stopped
      then (s.freshAccesses.passWord (ctlBus (0x020 + k.val)) v).captureTable k v
      else s.freshAccesses.dropWith .configBusy).withCounts w) := by
  have hoff : 0x020 + k.val < 4096 := by omega
  have hserve : s.freshAccesses.controlWrite (ctlBus (0x020 + k.val)) v =
      if s.coder.job = .idle ∧ s.tape.run = .stopped
      then (s.freshAccesses.passWord (ctlBus (0x020 + k.val)) v).captureTable k v
      else s.freshAccesses.dropWith .configBusy := by
    rw [State.controlWrite, ctlOffset_ctlBus hoff, controlWord_table]
    rfl
  obtain ⟨w, hw⟩ := State.upWrite_control (v := v) h hoff (by simp [h.2.1])
  rw [hserve] at hw
  exact ⟨w, congrArg Host.Outcome.next hw⟩

end Sys2Proof.Machine
end

section
/-! PROOFS. RESET and INIT (R156, R173): the words that INIT leaves in memory, and a transaction held through it. -/

namespace Sys2Proof.Machine

/-! ### A list of writes (R173) -/

/-- Words written with the values that one function gives their addresses read as those, in whatever order they come. -/
theorem Memory.read_writeAll {ws : List (Nat × Word)} {f : Nat → Word} (hf : ∀ x ∈ ws, x.2 = f x.1)
    (ha : ∀ x ∈ ws, x.1 < Config.memoryWords) {m : Memory} (hm : m.wf = true) (a : Nat) :
    Memory.read (m.writeAll ws) a = if a ∈ ws.map Prod.fst then f a else Memory.read m a := by
  induction ws generalizing m with
  | nil => rfl
  | cons x rest ih =>
    have hread := ih (fun y hy => hf y (List.mem_cons_of_mem x hy)) (fun y hy => ha y (List.mem_cons_of_mem x hy))
      (Memory.wf_write x.2 (ha x List.mem_cons_self) hm)
    refine (hread : Memory.read (m.writeAll (x :: rest)) a = _).trans ?_
    by_cases hx : a = x.1
    · subst hx
      simp [Memory.read_write_same hm, hf x List.mem_cons_self]
    · simp [Memory.read_write_other m x.2 hx, hx]

theorem Memory.read_filter (m : Memory) (p : Nat → Bool) (a : Nat) :
    Memory.read (m.filter fun x => p x.1) a = if p a then Memory.read m a else Config.unwrittenWord := by
  induction m with
  | nil => simp [Memory.read]
  | cons x rest ih =>
    obtain ⟨k, w⟩ := x
    by_cases hk : k = a
    · subst hk
      cases hp : p k <;> simp_all [Memory.read]
    · cases hp : p k <;> simp [Memory.read, hk, hp, ih]

/-! ### The words of INIT (R173, R175, R177) -/

/-- Each word that INIT lists has the value that the layouts give its offset. -/
theorem initWords_value : ∀ x ∈ initWords, x.2 = initValue x.1 := by decide +kernel

/-- The layouts end below offset 0x390. -/
theorem initValue_above {off : Nat} (h : 0x390 ≤ off) : initValue off = 0 := by
  unfold initValue
  repeat rw [if_neg (by omega)]

/-- Every offset that has another value than 0 is listed. -/
theorem initWords_listed {off : Nat} (h : off < 0x390) (hne : initValue off ≠ 0) : off ∈ initWords.map Prod.fst := by
  have hall : (List.range 0x390).all (fun n => initValue n == 0 || (initWords.map Prod.fst).contains n) = true := by
    decide +kernel
  have hoff := List.all_eq_true.mp hall off (List.mem_range.mpr h)
  rw [Bool.or_eq_true, beq_iff_eq, List.contains_iff_mem] at hoff
  exact hoff.resolve_left hne

theorem initValue_unlisted {off : Nat} (h : off ∉ initWords.map Prod.fst) : initValue off = 0 := by
  by_contra hne
  obtain hlt | hge := Nat.lt_or_ge off 0x390
  · exact h (initWords_listed hlt hne)
  · exact hne (initValue_above hge)

/-- The listed words with their addresses in buffer memory. -/
def initWrites : List (Nat × Word) := initWords.map fun w => (ctlAddr w.1, w.2)

theorem initWrites_value : ∀ x ∈ initWrites, x.2 = initValue (x.1 - Config.controlBase) := by
  intro x hx
  obtain ⟨y, hy, rfl⟩ := List.mem_map.mp hx
  simpa [ctlAddr] using initWords_value y hy

theorem initWrites_below : ∀ x ∈ initWrites, x.1 < Config.memoryWords := by
  intro x hx
  obtain ⟨y, hy, rfl⟩ := List.mem_map.mp hx
  have hlt := initWords_below y hy
  simp only [ctlAddr, Config.controlBase, Config.memoryWords, Config.controlWords] at *
  omega

theorem mem_initWrites_iff (a : Nat) : a ∈ initWrites.map Prod.fst ↔
    Config.controlBase ≤ a ∧ a - Config.controlBase ∈ initWords.map Prod.fst := by
  simp only [initWrites, List.mem_map, exists_exists_and_eq_and, ctlAddr]
  refine ⟨?_, ?_⟩
  · rintro ⟨y, hy, rfl⟩
    exact ⟨by omega, y, hy, by omega⟩
  · rintro ⟨hle, y, hy, he⟩
    exact ⟨y, hy, by omega⟩

/-- INIT writes the control area by the layouts, listed words and unlisted ones alike, and nothing below it (R173). -/
theorem Memory.read_init {m : Memory} (hm : m.wf = true) (a : Nat) : Memory.read m.init a =
    if a < Config.controlBase then Memory.read m a else initValue (a - Config.controlBase) := by
  have hread := Memory.read_writeAll (f := fun a => initValue (a - Config.controlBase)) initWrites_value initWrites_below
    (Memory.wf_filter (fun x => decide (x.1 < Config.controlBase)) hm).1 a
  rw [Memory.read_filter m (fun k => decide (k < Config.controlBase))] at hread
  refine hread.trans ?_
  simp only [mem_initWrites_iff, decide_eq_true_eq]
  obtain hlt | hge := Nat.lt_or_ge a Config.controlBase
  · rw [if_neg (by omega), if_pos hlt, if_pos hlt]
  · rw [if_neg hge.not_gt, if_neg hge.not_gt]
    split
    · rfl
    · next hno => exact (initValue_unlisted fun hin => hno ⟨hge, hin⟩).symm

/-! ### INIT's end (R156, R173) -/

theorem State.endInit_mem (s : State) : s.endInit.mem = s.mem.init := by simp [State.endInit]

theorem State.unseeing_endInit : State.Unseeing State.endInit := fun s => by
  simp [State.endInit, State.unheld, State.modBus, State.modMem]

/-- Every word of the control area as the layouts give it, and every other word as it stood (R173). -/
theorem State.peek_endInit {s t : State} (hm : s.mem.wf = true) (ht : t.mem = s.endInit.mem) :
    (∀ off, off < 4096 → t.peek (ctlAddr off) = initValue off) ∧ ∀ a, a < Config.controlBase → t.peek a = s.peek a := by
  have hread : ∀ a, a < Config.memoryWords → t.peek a = Memory.read s.mem.init a := fun a ha => by
    rw [State.peek, ht, State.endInit_mem, Nat.mod_eq_of_lt ha]
  refine ⟨fun off hoff => ?_, fun a ha => ?_⟩
  · have hlt : ctlAddr off < Config.memoryWords := by
      simp only [ctlAddr, Config.controlBase, Config.memoryWords]
      omega
    rw [hread _ hlt, Memory.read_init hm]
    simp [ctlAddr]
  · have hlt : a < Config.memoryWords := ha.trans (by decide)
    rw [hread a hlt, Memory.read_init hm, if_pos ha, State.peek, Nat.mod_eq_of_lt hlt]

theorem State.exec_initEnd {s : State} (h : s.bus.op = .init) : exec .initEnd s = .next s.endInit.settle :=
  congrArg Host.Outcome.next (if_pos h)

/-- Where no wait count stands at 16, none does once those of the idle engines are cleared (R154). -/
theorem State.normCounts_unguarded {s : State} (h : s.bus.counts.guarded = false) :
    s.normCounts.bus.counts.guarded = false := by
  have hle : ∀ (p : Bool) (n : Nat), (if p then n else 0) ≤ n := fun p n => by cases p <;> simp
  simp only [WaitCounts.guarded, Bool.or_eq_false_iff, decide_eq_false_iff_not, Nat.not_le] at h ⊢
  obtain ⟨⟨hclose, heval⟩, hreport⟩ := h
  exact ⟨⟨(hle _ _).trans_lt hclose, (hle _ _).trans_lt heval⟩, (hle _ _).trans_lt hreport⟩

/-- A transaction held through INIT is served at its end as if it arrived then (R156). -/
theorem State.released_init {s : State} {x : Held} (hop : s.bus.op = .init) (hs : s.holds x) (hk : x.kind = .init)
    (hg : s.bus.counts.guarded = false) :
    ∃ u, exec .initEnd s.unheld = .next u ∧ u.bus.op = .running ∧ exec .initEnd s = exec x.txn.row u := by
  obtain ⟨hheld, hwait, hdata⟩ := hs
  have hleaves : exec .initEnd s.unheld = .next s.endInit.unheld.normCounts := by
    rw [State.exec_initEnd (s := s.unheld) (by simpa using hop), State.unseeing_endInit,
      State.settle_noneHeld s.endInit.unheld ⟨rfl, by simpa using hwait⟩]
  have hended : s.Ended s.endInit.unheld.normCounts .initEnd s.endInit x :=
    ⟨State.exec_initEnd hop, rfl, rfl, by simpa using hheld, by simpa using hwait, by simp⟩
  have hready : s.endInit.normCounts.ready x = true := by
    simp only [State.ready, hk]
    rfl
  have hcounts : s.endInit.unheld.normCounts.bus.counts.guarded = false := State.normCounts_unguarded hg
  exact ⟨_, hleaves, rfl, hended.arrives hready hcounts hdata (by simp only [State.resume, hk])⟩

end Sys2Proof.Machine
end

section
/-! PROOFS. The obligations on the bus path and its address windows, settled. -/

open Sys2Proof Sys2Proof.Machine

/-- Settles O5: RESET is read off the reset values, INIT's memory off its list of words; what INIT finds held is served
from the state that it leaves with nothing held. -/
theorem resetAndInit : Obligations.ResetAndInit := by
  refine ⟨fun s => ?_, fun s hop => ?_, fun s hop hn hwf => ?_, fun _ _ => State.released_init⟩
  -- RESET asserted
  · refine ⟨s.assertReset, rfl, ?_, rfl, rfl, rfl, rfl, rfl, ?_⟩
    · simp [State.sameBut_iff, State.agree, State.assertReset, State.reset, BusPath.reset]
    · simp [State.sameBut_iff, State.agree]
  -- RESET released
  · refine ⟨_, congrArg Host.Outcome.next (if_pos hop), rfl, ?_, rfl, rfl, rfl, rfl⟩
    simp [State.sameBut_iff, State.agree]
  -- the end of INIT
  · have hn' : s.endInit.noneHeld := ⟨by simpa using hn.1, by simpa using hn.2⟩
    have hnext : exec .initEnd s = .next s.endInit.normCounts := by
      rw [State.exec_initEnd hop, State.settle_noneHeld _ hn']
    obtain ⟨hcontrol, hbelow⟩ := State.peek_endInit (t := s.endInit.normCounts) hwf (by simp)
    exact ⟨_, hnext, rfl, by simp [State.sameBut_iff, State.agree, State.endInit], by simp, by simp,
      hn', hcontrol, hbelow⟩

/-- Settles O55: dropped while a job runs; else the word is passed and taken, and the regions judged. -/
theorem windowTableWriteJudges : Obligations.WindowTableWriteJudges := by
  intro s k v hwf hport
  obtain ⟨w, hw⟩ := State.exec_windowTableWrite hport k v
  refine ⟨fun hbusy => ?_, fun hjob hrun => ?_⟩
  -- dropped
  · rw [if_neg (by tauto)] at hw
    obtain ⟨htreat, hacc, hset, hrep, hframe⟩ := s.dropWith_dropped .configBusy w
    exact ⟨_, hw, htreat, hacc, hset, hrep, hframe⟩
  -- taken
  · intro words
    rw [if_pos ⟨hjob, hrun⟩] at hw
    obtain ⟨hpass, hword, hmem, hframe⟩ := State.captureTable_passed hwf k v w
    obtain ⟨htable, hvalid, hinvalid, hraised, hmon⟩ := ((s.freshAccesses.passWord _ v).captureTable_taken k v).passed w
    refine ⟨_, hw, hpass, hword, hmem, htable, (iff_of_eq (congrArg (· = true) hvalid)).trans (BusPath.judge_iff _),
      hinvalid, hraised, by simp, ⟨by simp [hport.2.1], by simp [hport.2.2.1]⟩, ?_, fun hk => ?_, fun hk hsame => ?_,
      fun hk hne hok => ?_, hframe⟩
    · rw [hmon]
      split <;> rfl
    · exact hmon.trans (if_neg fun h => hk h.2.2)
    · subst hk
      exact hmon.trans (if_neg fun h => hsame.elim h.2.1 (Bool.eq_false_iff.mp · h.1))
    · subst hk
      exact (congrArg Monitor.lastHalf hmon).trans (by rw [if_pos ⟨hok, hne, rfl⟩])

/-- Settles O23: either region drops the write. -/
theorem imageWritesAreDropped : Obligations.ImageWritesAreDropped := by
  intro s a v hport
  refine ⟨fun hreg => ?_, fun hreg => ?_⟩
  · obtain ⟨htreat, hacc, hset, hrep, hframe⟩ := State.upWrite_dropped (a := a) (v := v) hport (c := .recordImageWrite)
      (by simp only [State.serveWrite, (s.freshAccesses_region 0 a.toNat).1, hreg])
    exact ⟨_, rfl, htreat, hacc, hset, hrep, hframe⟩
  · obtain ⟨htreat, hacc, hset, hrep, hframe⟩ := State.upWrite_dropped (a := a) (v := v) hport (c := .playbackImageWrite)
      (by simp only [State.serveWrite, (s.freshAccesses_region 0 a.toNat).1, hreg])
    exact ⟨_, rfl, htreat, hacc, hset, hrep, hframe⟩

end

section
/-! PROOFS. Ring words (R159, R176): the operand fields that a command word packs, and the words of the commands that carry
such fields decoded. -/

namespace Sys2Proof

/-! ### Operand fields (R176) -/

theorem field_toNat (w : Word) (lo len : Nat) : (field w lo len).toNat = w.toNat / 2 ^ lo % 2 ^ len := by
  rw [field, BitVec.extractLsb'_toNat, Nat.shiftRight_eq_div_pow]

/-- The field that a packed number `n` carries from bit `lo` up. -/
theorem field_word {n lo len : Nat} {x : BitVec len} (hn : n < 65536) (hx : n / 2 ^ lo % 2 ^ len = x.toNat) :
    field (word n) lo len = x := by
  refine BitVec.eq_of_toNat_eq ?_
  rw [field_toNat, BitVec.toNat_ofNat, Nat.mod_eq_of_lt hn, hx]

/-- The command code of a packed number stands in its low five bits. -/
theorem word_code {n code : Nat} (hn : n < 65536) (hc : n % 32 = code) : (word n).toNat % 32 = code := by
  rw [BitVec.toNat_ofNat, Nat.mod_eq_of_lt hn, hc]

/-! ### The rows whose command word carries operands (R159) -/

theorem decodeEntry_recordStart (m : BitVec 2) (hi lo : Word) :
    decodeEntry (word (1 + 32 * m.toNat)) hi lo = .recordStart m hi lo := by
  have hm := m.isLt
  have hn : 1 + 32 * m.toNat < 65536 := by omega
  rw [decodeEntry, word_code (code := 1) hn (by omega)]
  exact congrArg (Instr.recordStart · hi lo) (field_word hn (by omega))

theorem decodeEntry_editLoad (h : BitVec 4) (k : BitVec 2) (hi : BitVec 5) (lo pair : Word) :
    decodeEntry (word (6 + 32 * h.toNat + 512 * k.toNat + 2048 * hi.toNat)) lo pair = .editLoad h k hi lo pair := by
  have hh := h.isLt
  have hk := k.isLt
  have hhi := hi.isLt
  have hn : 6 + 32 * h.toNat + 512 * k.toNat + 2048 * hi.toNat < 65536 := by omega
  rw [decodeEntry, word_code (code := 6) hn (by omega)]
  simp only [Instr.editLoad.injEq, and_self, and_true]
  exact ⟨field_word hn (by omega), field_word hn (by omega), field_word hn (by omega)⟩

theorem decodeEntry_editParam (c : BitVec 2) (ch : BitVec 1) (e : BitVec 4) (sh : BitVec 2) (th sp : Word) :
    decodeEntry (word (7 + 32 * c.toNat + 128 * ch.toNat + 256 * e.toNat + 4096 * sh.toNat)) th sp =
      .editParam c ch e sh th sp := by
  have hc := c.isLt
  have hch := ch.isLt
  have he := e.isLt
  have hsh := sh.isLt
  have hn : 7 + 32 * c.toNat + 128 * ch.toNat + 256 * e.toNat + 4096 * sh.toNat < 65536 := by omega
  rw [decodeEntry, word_code (code := 7) hn (by omega)]
  simp only [Instr.editParam.injEq, and_self, and_true]
  exact ⟨field_word hn (by omega), field_word hn (by omega), field_word hn (by omega), field_word hn (by omega)⟩

theorem decodeEntry_editCancel (h : BitVec 4) (a1 a2 : Word) :
    decodeEntry (word (8 + 32 * h.toNat)) a1 a2 = .editCancel h := by
  have hh := h.isLt
  have hn : 8 + 32 * h.toNat < 65536 := by omega
  rw [decodeEntry, word_code (code := 8) hn (by omega)]
  exact congrArg Instr.editCancel (field_word hn (by omega))

/-! ### The words that name no row (R159, R162, R163) -/

theorem namesNoRow_iff (w : Word) : namesNoRow w = true ↔
    16 ≤ w.toNat % 32 ∨ (w.toNat % 32 = 14 ∧ 2 ≤ w.toNat / 32 % 4) ∨ (w.toNat % 32 = 15 ∧ 4 ≤ w.toNat / 32 % 8) := by
  simp [namesNoRow, or_assoc]

theorem decodeEntry_namesNoRow {w : Word} (h : namesNoRow w = true) (a1 a2 : Word) :
    decodeEntry w a1 a2 = .unknownCommand w := by
  rw [namesNoRow_iff] at h
  unfold decodeEntry
  split
  -- CLEAR of another target
  case h_15 =>
    split
    case h_3 => rfl
    all_goals omega
  -- SOFT_RESET of another scope
  case h_16 =>
    split
    case h_5 => rfl
    all_goals omega
  -- a code past 15
  case h_17 => rfl
  all_goals omega

/-- The words of every well-formed ring command decode to it (R159, R176). -/
theorem decodeEntry_ringEntry {i : Instr} {w a1 a2 : Word} (hw : WellFormed i = true)
    (he : ringEntry i = some (w, a1, a2)) : decodeEntry w a1 a2 = i := by
  cases i with
  | recordStart m hi lo => cases he; exact decodeEntry_recordStart m _ _
  | editLoad h k hi lo pair => cases he; exact decodeEntry_editLoad h k hi _ _
  | editParam c ch e sh th sp => cases he; exact decodeEntry_editParam c ch e sh _ _
  | editCancel h => cases he; exact decodeEntry_editCancel h _ _
  | unknownCommand x => cases he; exact decodeEntry_namesNoRow hw _ _
  | nop | recordStop | playStart | playStop | monitorSelect _ _ | editArm | editDisarm | locate _ _ | locateCancel |
      policySeal | clearCounters | clearSticky | softResetRecord | softResetPlayback | softResetEdit |
      softResetCounters => cases he; rfl
  | _ => cases he

end Sys2Proof
end

section
/-! PROOFS. The command unit (R157 to R163): the producer index judged and taken, the commands that the unit judges itself, and
a command's completion. -/

namespace Sys2Proof.Machine

/-! ### The ring (R158, R159) -/

/-- The next entry begins to be read where one is outstanding and the unit is idle; nothing else of it moves (R159 step 1). -/
theorem CommandUnit.wake_eq (c : CommandUnit) :
    c.wake = { c with phase := if c.phase = .idle ∧ c.producer ≠ c.consumer then .reading [] else c.phase } := by
  unfold CommandUnit.wake
  split <;> rfl

/-- The test of R158: at most 16 commands outstanding, and one of them while the unit is busy. -/
theorem CommandUnit.admits_iff (c : CommandUnit) (n : BitVec 8) :
    c.admits n = true ↔ (n - c.consumer).toNat ≤ 16 ∧ (c.busy = true → n ≠ c.consumer) := by
  rw [CommandUnit.admits, Bool.and_eq_true, decide_eq_true_eq, Bool.or_eq_true, Bool.not_eq_true', bne_iff_ne, sub_ne_zero]
  cases c.busy <;> simp

/-- A write of the producer index is passed and captured, or dropped (R158). -/
theorem State.exec_producerIndexWrite {s : State} (h : s.portFree) (v : Word) :
    ∃ w, exec (.producerIndexWrite v) s = .next ((if s.cmd.admits (v.setWidth 8)
      then (s.freshAccesses.passWord (ctlBus 0x050) v).modCmd fun c =>
        ({ c with producer := v.setWidth 8 } : CommandUnit).wake
      else s.freshAccesses.dropWith .ringOverflow).withCounts w) := by
  have hserve : s.freshAccesses.controlWrite (ctlBus 0x050) v = s.freshAccesses.producerWrite (ctlBus 0x050) v := by
    rw [State.controlWrite, ctlOffset_ctlBus (by decide)]
    rfl
  obtain ⟨w, hw⟩ := State.upWrite_control (v := v) h (by decide : 0x050 < 4096) (by simp [h.2.1])
  rw [hserve] at hw
  exact ⟨w, congrArg Host.Outcome.next hw⟩

/-! ### The unit's own commands (R159, R161 to R163) -/

theorem unknownKind_and_result (w : Word) :
    (16 ≤ w.toNat % 32 → unknownKind w = .unknown ∧ unknownResult w = .illegal) ∧
    (w.toNat % 32 = 14 → unknownKind w = .clear ∧ unknownResult w = .range) ∧
    (w.toNat % 32 = 15 → unknownKind w = .softReset ∧ unknownResult w = .range) := by
  refine ⟨fun h => ?_, fun h => ?_, fun h => ?_⟩
  · have h14 : w.toNat % 32 ≠ 14 := by omega
    have h15 : w.toNat % 32 ≠ 15 := by omega
    simp [unknownKind, unknownResult, h14, h15]
  · simp [unknownKind, unknownResult, h]
  · simp [unknownKind, unknownResult, h]

theorem ReportUnit.touched_of_counters {q p : ReportUnit} (h : q.marks.counters = true) : q.touched p = true := by
  simp [ReportUnit.touched, Marks.any, h]

theorem State.zeroCounters_counter (s : State) (c : Counter) : s.zeroCounters.counter c = 0 :=
  Vector.getElem_replicate c.index.isLt

/-- The marks put by come back beside the one of the counters record (R168). -/
theorem State.markCounters_union (s : State) :
    { s.unmarked.markCounters.rep with marks := s.unmarked.markCounters.rep.marks.union s.rep.marks } =
      s.markCounters.rep := by
  simp [State.markCounters, State.unmarked, State.modRep, ReportUnit.unmarked, Marks.union, Marks.clear]

/-- The marks put by come back beside those of the record and playback status records (R168). -/
theorem State.markBoth_union (s : State) :
    { s.unmarked.markRecord.markPlayback.rep with
      marks := s.unmarked.markRecord.markPlayback.rep.marks.union s.rep.marks } = s.markRecord.markPlayback.rep := by
  simp [State.markRecord, State.markPlayback, State.unmarked, State.modRep, ReportUnit.unmarked, Marks.union, Marks.clear]

/-- A command that zeroes the counters, whichever names it (R162, R163). -/
theorem State.command_zeroCounters {s : State} {i : Instr} (h : s.aboutToTake i) (k : CmdKind) :
    ∃ t, s.command i k (fun x => (x.zeroCounters, .done)) = t ∧ t.cmd = s.cmd.takenMarked k .done ∧
      (∀ c : Counter, t.counter c = 0) ∧ t.rep = s.markCounters.rep ∧ s.sameBut [.port, .counters, .cmd, .rep] t := by
  obtain ⟨w, hw⟩ := State.command_marked (k := k) (owner := fun x => (x.zeroCounters, .done)) h rfl (by simp)
    (ReportUnit.touched_of_counters rfl)
  exact ⟨_, hw, rfl, s.unmarked.zeroCounters_counter, s.markCounters_union, by simp [State.sameBut_iff, State.agree]⟩

/-- CLEAR STICKY clears the two sticky flags (R162). -/
theorem State.command_clearSticky {s : State} {i : Instr} (h : s.aboutToTake i) (k : CmdKind) :
    ∃ t, s.command i k (fun x => (x.clearSticky, .done)) = t ∧ t.cmd = s.cmd.takenMarked k .done ∧
      t.coder = { s.coder with sticky := false } ∧ t.tape = { s.tape with sticky := false } ∧
      t.rep = s.markRecord.markPlayback.rep ∧ s.sameBut [.port, .coder, .tape, .cmd, .rep] t := by
  obtain ⟨w, hw⟩ := State.command_marked (k := k) (owner := fun x => (x.clearSticky, .done)) h rfl (by simp)
    (ReportUnit.touched_of_record rfl)
  exact ⟨_, hw, rfl, rfl, rfl, s.markBoth_union, by simp [State.sameBut_iff, State.agree]⟩

/-! ### Completion (R160) -/

theorem Result.code_word (r : Result) : (word r.code).toNat = r.code := by
  cases r <;> rfl

/-- What a completion leaves of the command unit: the kind noted, and the next entry taken where one is outstanding (R160). -/
theorem State.completed_cmd (s : State) (k : CmdKind) (r : Result) : ((s.writeResult k r).writeConsumer k r).cmd =
    { consumer := s.cmd.consumer + 1, producer := s.cmd.producer, prev := some k
      phase := if s.cmd.producer = s.cmd.consumer + 1 then .idle else .reading [] } := by
  have hcmd : ((s.writeResult k r).writeConsumer k r).cmd =
      ({ s.cmd with consumer := s.cmd.consumer + 1, prev := some k, phase := .idle } : CommandUnit).wake := by
    simp [State.writeConsumer, State.completeCommand, State.writeResult]
  rw [hcmd, CommandUnit.wake_eq]
  by_cases hp : s.cmd.producer = s.cmd.consumer + 1 <;> simp [hp]

/-- The causes that are set after a completion, and the marks, which stand (R160, R166). -/
theorem State.completed_rep (s : State) (k : CmdKind) (r : Result) :
    (∀ d, ((s.writeResult k r).writeConsumer k r).rep.isSet d =
      (s.rep.isSet d || d == .commandDone || (r != .done && d == .commandError))) ∧
    ((s.writeResult k r).writeConsumer k r).rep.marks = s.rep.marks := by
  simp [State.writeConsumer, State.completeCommand]

/-- Two words of the control area written one after the other. -/
theorem State.memSameBut.trans {s u t : State} {a b : Nat} (h1 : s.memSameBut [a] u) (h2 : u.memSameBut [b] t) :
    s.memSameBut [a, b] t := fun x hx hn => by
  simp only [List.mem_cons, List.not_mem_nil, or_false, not_or] at hn
  exact (h2 x hx (by simp [hn.2])).trans (h1 x hx (by simp [hn.1]))

/-- The two words that a completion writes: the entry's result, and the advanced consumer index (R160, R175, R176). -/
theorem State.peek_completed {s t : State} {k : CmdKind} {r : Result} (hwf : s.mem.wf = true)
    (ht : t.mem = ((s.writeResult k r).writeConsumer k r).mem) :
    let e := 0x7F063 + 4 * (s.cmd.consumer.toNat % 16)
    t.peek e = word r.code ∧ t.peek 0x7F051 = (s.cmd.consumer + 1).setWidth 16 ∧ s.memSameBut [e, 0x7F051] t := by
  intro e
  have hoff : s.cmd.entryOffset 3 < 4096 := by simp only [CommandUnit.entryOffset]; omega
  have he : 0x7F000 + s.cmd.entryOffset 3 = e := by simp only [CommandUnit.entryOffset, e]; omega
  obtain ⟨hresult, hmem1⟩ := State.poked_control (t := s.writeResult k r) hwf hoff (word r.code) rfl
  rw [he] at hresult hmem1
  obtain ⟨hindex, hmem2⟩ := State.poked_control (s := s.writeResult k r) (t := t) (off := 0x051) (s.wf_poke hwf _ _)
    (by decide) ((s.cmd.consumer + 1).setWidth 16) (ht.trans (by simp [State.writeConsumer, State.writeResult]))
  refine ⟨(hmem2 e ?_ ?_).trans hresult, hindex, hmem1.trans hmem2⟩
  · simp only [e, Config.memoryWords]; omega
  · simp only [List.mem_singleton, e]; omega

/-- A completion that is due with nothing else waiting for the port (R160). -/
theorem State.exec_commandCompletion {s : State} {k : CmdKind} {r : Result} (hop : s.bus.op = .running) (hn : s.noneHeld)
    (hp : s.rep.pass = none) (hc : s.waiting .close = false) (he : s.waiting .eval = false)
    (hk : s.cmd.phase = .due k r) :
    ∃ w, exec .commandCompletion s = .next (((s.writeResult k r).writeConsumer k r).withCounts w) := by
  have hguard : s.guarding = false := by rw [State.guarding, hn.1]; rfl
  have hfree : s.commandFree = true := by simp [State.commandFree, hop, hp, hc, he, hguard]
  have hexec : exec .commandCompletion s = .next (s.complete k r false).settle := by
    change Host.Outcome.next _ = _
    rw [if_pos hfree, hk]
  obtain ⟨w, hw⟩ := State.settle_counts (u := s.complete k r false)
    ⟨by simpa [State.complete] using hn.1, by simpa [State.complete] using hn.2⟩
  exact ⟨w, hexec.trans (congrArg Host.Outcome.next hw)⟩

end Sys2Proof.Machine
end

section
/-! PROOFS. The obligations on the command ring and the command unit, settled. -/

open Sys2Proof Sys2Proof.Machine

/-- Settles O12, row by row: the packed operands come apart again, and a word that names no row is UNKNOWN_COMMAND's. -/
theorem ringEntriesRoundTrip : Obligations.RingEntriesRoundTrip := fun _ _ _ _ => decodeEntry_ringEntry

/-- Settles O56: the two clauses are the two outcomes of R158's test. -/
theorem producerIndexWriteAdmits : Obligations.ProducerIndexWriteAdmits := by
  intro s v hwf hport n
  obtain ⟨w, hw⟩ := State.exec_producerIndexWrite hport v
  have hn : v.setWidth 8 = n := (BitVec.ofNat_toNat 8 v).symm
  rw [hn] at hw
  refine ⟨fun hle hbusy => ?_, fun hover => ?_⟩
  -- passed and captured
  · rw [if_pos ((s.cmd.admits_iff n).mpr ⟨hle, hbusy⟩)] at hw
    obtain ⟨hpass, -, hword, hmem, -⟩ := State.passWord_passed hwf (ctlBus 0x050) v w
    rw [ctlBus_toNat (by decide)] at hword hmem
    refine ⟨_, hw, hpass, hword, hmem, ?_⟩
    simp [CommandUnit.wake_eq, State.sameBut_iff, State.agree]
  -- dropped
  · have hrefused : ¬s.cmd.admits n = true := by
      rw [s.cmd.admits_iff]
      rintro ⟨hle, hbusy⟩
      obtain hgt | ⟨hb, heq⟩ := hover
      · exact hgt.not_ge hle
      · exact hbusy hb heq
    rw [if_neg hrefused] at hw
    obtain ⟨htreat, hacc, hset, hrep, hframe⟩ := s.dropWith_dropped .ringOverflow w
    exact ⟨_, hw, htreat, hacc, hset, hrep, hframe⟩

/-- Settles O57: NOP and the words that name no row have owners without effect; the others' owners mark what they clear. -/
theorem commandUnitsOwnCommands : Obligations.CommandUnitsOwnCommands := by
  refine fun s => ⟨fun h => ?_, fun x h => ?_, fun h => ?_, fun h => ?_, fun h => ?_⟩
  -- NOP
  · obtain ⟨t, ht, hrest⟩ := State.command_refused (k := .nop) (owner := fun x => (x, .done)) h rfl
    exact ⟨t, congrArg Host.Outcome.next ht, hrest⟩
  -- a word that names no row
  · obtain ⟨t, ht, hcmd, hframe⟩ := State.command_refused (k := unknownKind x) (owner := fun y => (y, unknownResult x)) h rfl
    obtain ⟨hunknown, hclear, hreset⟩ := unknownKind_and_result x
    have hnext : exec (.unknownCommand x) s = .next t := congrArg Host.Outcome.next ht
    refine ⟨fun hx => ⟨t, hnext, ?_, hframe⟩, fun hx => ⟨t, hnext, ?_, hframe⟩, fun hx => ⟨t, hnext, ?_, hframe⟩⟩
    · rw [hcmd, (hunknown hx).1, (hunknown hx).2]
    · rw [hcmd, (hclear hx).1, (hclear hx).2]
    · rw [hcmd, (hreset hx).1, (hreset hx).2]
  -- CLEAR COUNTERS
  · obtain ⟨t, ht, hrest⟩ := State.command_zeroCounters h .clear
    exact ⟨t, congrArg Host.Outcome.next ht, hrest⟩
  -- SOFT_RESET COUNTERS
  · obtain ⟨t, ht, hrest⟩ := State.command_zeroCounters h .softReset
    exact ⟨t, congrArg Host.Outcome.next ht, hrest⟩
  -- CLEAR STICKY
  · obtain ⟨t, ht, hrest⟩ := State.command_clearSticky h .clear
    exact ⟨t, congrArg Host.Outcome.next ht, hrest⟩

/-- Settles O58: the completion's two words are at different addresses, so each reads as written. -/
theorem commandCompletes : Obligations.CommandCompletes := by
  intro s k r hwf hop hn hp hc he hk e
  obtain ⟨w, hw⟩ := State.exec_commandCompletion hop hn hp hc he hk
  obtain ⟨hresult, hindex, hmem⟩ := State.peek_completed (k := k) (r := r)
    (t := ((s.writeResult k r).writeConsumer k r).withCounts w) hwf (by simp)
  have hcmd := s.completed_cmd k r
  obtain ⟨hset, hmarks⟩ := s.completed_rep k r
  refine ⟨_, hw, ?_, ?_, hmem, (congrArg CommandUnit.consumer hcmd :), (congrArg CommandUnit.producer hcmd :),
    (congrArg CommandUnit.prev hcmd :), (congrArg CommandUnit.phase hcmd :), ?_, fun hr => ?_, fun hr => ?_, hmarks,
    by simp [State.sameBut_iff, State.agree]⟩
  · rw [hresult, Result.code_word]
    cases r <;> rfl
  · have hlt : (s.cmd.consumer + 1).toNat < 65536 := (s.cmd.consumer + 1).isLt.trans (by decide)
    rw [hindex, BitVec.toNat_setWidth, Nat.mod_eq_of_lt hlt]
    exact BitVec.toNat_add _ _
  · simp [hset]
  · simp [hset, hr]
  · subst hr
    simp [hset]

end

section
/-! PROOFS. The causes and the alert: a raise, cause by cause (R166), the words of the control area that the report unit
captures or answers (R147, R167, R169), and the judgement of ALERT (R170). -/

namespace Sys2Proof.Machine

/-! ### A raise (R166) -/

/-- A cause's bit is one bit of the word, at the cause's place in its group (R177). -/
theorem Cause.bit_eq_twoPow (c : Cause) : ∃ i : Fin 16, c.bit = BitVec.twoPow 16 i := by cases c <;> decide

/-- The test for a cause in a group's word reads one bit of the word (R166, R177). -/
theorem Cause.bit_getLsbD (c : Cause) :
    ∃ i : Fin 16, c.bit.getLsbD i = true ∧ ∀ x : Word, (x &&& c.bit != 0) = x.getLsbD i := by
  obtain ⟨i, hi⟩ := c.bit_eq_twoPow
  have hne : BitVec.twoPow 16 i ≠ 0 := hi ▸ c.bit_ne_zero
  refine ⟨i, by simp [hi], fun x => ?_⟩
  rw [hi, BitVec.and_twoPow]
  cases x.getLsbD i
  · exact bne_self_eq_false _
  · exact bne_iff_ne.mpr hne

/-- A cause's bit, taken into `w` where `p` lacks it, is then in `w` unless `p` alone has it. -/
theorem Cause.taken_bit (c : Cause) (w p : Word) :
    ((w ||| (c.bit &&& ~~~p)) &&& c.bit != 0) = (w &&& c.bit != 0 || !(p &&& c.bit != 0)) := by
  obtain ⟨i, hi, hstands⟩ := c.bit_getLsbD
  rw [hstands, hstands, hstands, BitVec.getLsbD_or, BitVec.getLsbD_and, hi, BitVec.getLsbD_not]
  simp

theorem State.raise_raised_same (s : State) (c : Cause) :
    (s.raise c).rep.raised[c.group] = s.rep.raised[c.group] ||| (c.bit &&& ~~~s.rep.posted[c.group]) :=
  vmod_same _ _ _

theorem State.raise_raised_other (s : State) (c : Cause) {g : Fin 6} (h : g ≠ c.group) :
    (s.raise c).rep.raised[g] = s.rep.raised[g] :=
  vmod_other _ _ h

theorem State.raise_isRaised_same (s : State) (c : Cause) :
    (s.raise c).isRaised c = (s.isRaised c || !s.isPosted c) := by
  rw [State.isRaised, s.raise_raised_same]
  exact c.taken_bit _ _

/-- Another cause of the raised one's group has another bit, and the other groups' words stand (R166, R177). -/
theorem State.raise_isRaised_other (s : State) {c d : Cause} (h : d ≠ c) : (s.raise c).isRaised d = s.isRaised d := by
  by_cases hg : d.group = c.group
  · have hapart : c.bit &&& d.bit = 0 := (c.bits_apart d hg.symm).trans (if_neg h.symm)
    simp only [State.isRaised, hg, s.raise_raised_same, or_unposted_and _ _ hapart]
  · rw [State.isRaised, State.isRaised, s.raise_raised_other c hg]

/-! ### The judgement of ALERT (R170) -/

theorem State.judgeAlert_alert (s : State) : s.judgeAlert.rep.alert = true ↔
    ∃ n : Fin 6, s.judgeAlert.rep.posted[n] &&& s.judgeAlert.rep.masks[n] ≠ 0 :=
  s.rep.alertDue_iff

/-! ### The mask words and the cause words (R147, R167, R169) -/

theorem controlWord_mask (g : Fin 6) : controlWord (0x018 + g.val) = .mask g := by
  revert g
  decide

theorem controlWord_cause (g : Fin 6) : controlWord (0x002 + g.val) = .cause g := by
  revert g
  decide

theorem State.exec_maskWordWrite {s : State} (h : s.portFree) (g : Fin 6) (v : Word) :
    ∃ w, exec (.maskWordWrite g v) s =
      .next (((s.freshAccesses.passWord (ctlBus (0x018 + g.val)) v).captureMask g v).withCounts w) := by
  have hoff : 0x018 + g.val < 4096 := by omega
  have hserve : s.freshAccesses.controlWrite (ctlBus (0x018 + g.val)) v =
      (s.freshAccesses.passWord (ctlBus (0x018 + g.val)) v).captureMask g v := by
    rw [State.controlWrite, ctlOffset_ctlBus hoff, controlWord_mask]
  obtain ⟨w, hw⟩ := State.upWrite_control (v := v) h hoff (by simp [h.2.1])
  rw [hserve] at hw
  exact ⟨w, congrArg Host.Outcome.next hw⟩

/-- A read that falls in the control area is served at once (R145). -/
theorem State.upRead_control {s : State} (h : s.portFree) {off : Nat} (hoff : off < 4096) :
    ∃ w, s.upRead (ctlBus off) = (s.freshAccesses.controlRead (ctlBus off)).withCounts w := by
  have hserve : s.freshAccesses.serve { write := false, addr := ctlBus off, data := 0 } =
      s.freshAccesses.controlRead (ctlBus off) := by
    simp [State.serve, State.serveRead, s.freshAccesses.bus.regionOf_ctlBus hoff]
  obtain ⟨w, hw⟩ := State.arrive_served h { write := false, addr := ctlBus off, data := 0 }
    (by rw [hserve]; simp [h.2.1])
  rw [hserve] at hw
  exact ⟨w, hw⟩

theorem State.exec_causeWordRead {s : State} (h : s.portFree) (g : Fin 6) :
    ∃ w, exec (.causeWordRead g) s = .next
      (((s.freshAccesses.passRead (ctlBus (0x002 + g.val))).clearCauses g (s.peek (0x7F002 + g.val))).withCounts w) := by
  have hoff : 0x002 + g.val < 4096 := by omega
  have hword : s.freshAccesses.peek (ctlBus (0x002 + g.val)).toNat = s.peek (0x7F002 + g.val) := by
    rw [ctlBus_toNat hoff, ← Nat.add_assoc]
    rfl
  have hserve : s.freshAccesses.controlRead (ctlBus (0x002 + g.val)) =
      (s.freshAccesses.passRead (ctlBus (0x002 + g.val))).clearCauses g (s.peek (0x7F002 + g.val)) := by
    rw [State.controlRead, ctlOffset_ctlBus hoff, controlWord_cause, ← hword]
  obtain ⟨w, hw⟩ := State.upRead_control h hoff
  rw [hserve] at hw
  exact ⟨w, congrArg Host.Outcome.next hw⟩

end Sys2Proof.Machine
end

section
/-! PROOFS. The obligations on alerts and causes, settled. -/

open Sys2Proof Sys2Proof.Machine

/-- Settles O6: the raised cause's own bit is taken where it is not POSTED, and no other cause's bit moves. -/
theorem raiseMovesOnlyAClearCause : Obligations.RaiseMovesOnlyAClearCause := by
  intro s c d
  refine ⟨rfl, ?_, by simp [State.sameBut_iff, State.agree], rfl⟩
  by_cases h : d = c
  · subst h
    simp [s.raise_isRaised_same]
  · simp [s.raise_isRaised_other h, h]

/-- Settles O54: the mask write is a passed write and the cause read a passed read, each ended by the judgement of ALERT. -/
theorem maskWriteAndCauseRead : Obligations.MaskWriteAndCauseRead := by
  refine ⟨fun s g v hwf hport => ?_, fun s g hport => ?_⟩
  -- MASK_WORD_WRITE
  · obtain ⟨w, hw⟩ := State.exec_maskWordWrite hport g v
    obtain ⟨hpass, -, hword, hmem, -⟩ := State.passWord_passed hwf (ctlBus (0x018 + g.val)) v w
    rw [ctlBus_toNat (by omega), ← Nat.add_assoc] at hword hmem
    exact ⟨_, hw, hpass, hword, hmem, rfl, State.judgeAlert_alert _, by simp [State.sameBut_iff, State.agree]⟩
  -- CAUSE_WORD_READ
  · obtain ⟨w, hw⟩ := State.exec_causeWordRead hport g
    have hdata : s.peek (ctlBus (0x002 + g.val)).toNat = s.peek (0x7F002 + g.val) := by
      rw [ctlBus_toNat (by omega), ← Nat.add_assoc]
    exact ⟨_, hw, rfl, hdata, rfl, rfl, State.judgeAlert_alert _, by simp [State.sameBut_iff, State.agree]⟩

end


section
/-! PROOFS. One step, by the shape of its queue (assumption 4), and the obligation on it, settled. -/

namespace Sys2Proof.Machine

theorem step_of_pending_cons {s : State} {c : Instr} {rest : List Instr} (h : s.pending = c :: rest) :
    step s = exec c { s with pending := rest } := by
  rw [step, h]

theorem step_of_pending_nil {s : State} (h : s.pending = []) : step s = .next s := by
  rw [step, h]

end Sys2Proof.Machine

open Sys2Proof Sys2Proof.Machine

/-- Settles O1: a front command is run on the queue's rest, and an empty queue leaves the state as it is. -/
theorem stepRunsFrontCommand : Obligations.StepRunsFrontCommand :=
  ⟨fun c rest s => step_of_pending_cons (s := { s with pending := c :: rest }) rfl, fun _ => step_of_pending_nil⟩

end
